-- ==== Sys2Proof/Word.lean ====
section
/-! DEFINITION. The words of the part's links: bytes, two-byte fields and the journal's timestamps. -/

namespace Sys2Proof

/-- One byte of a link, of a record or of the stored image. -/
abbrev Byte := BitVec 8

/-- A two-byte field, little-endian on every link (f00 section 6.4). -/
abbrev Half := BitVec 16

/-- The journal's timestamp: 32 bits of ms, wrapping (R169). -/
abbrev Stamp := BitVec 32

end Sys2Proof
end

