-- ==== Sys2Proof/Syntax.lean ====
section
/-! DEFINITION. The commands of the part: one constructor for each row of spec/opcode_table.json, with the operands its rules name. -/

namespace Sys2Proof

/-- A byte as a receiver takes it: its value, and whether it came with a stop-bit error (R1, R95, R157). -/
structure LineByte where
  val : Byte
  bad : Bool
deriving DecidableEq, Repr

/-- The 48 commands. A request row stands for a valid frame on `port` with that row's code; `payload` is the
frame's payload (R157, R161). -/
inductive Instr where
  | coldReset
  | warmReset
  /-- `image`: the bytes of the store, from its first, that the EEPROM acknowledged (R184). -/
  | imageLoadEnd (image : List Byte)
  /-- `failedAt`: none if every write of the save ended, else the number of the write that met a store-link error (R190). -/
  | saveEnd (failedAt : Option Nat)
  | sensorFrame (station : Fin 6) (bytes : List LineByte)
  /-- `next`: the byte that ends the idle, if it has come (R1). -/
  | sensorIdleAbandon (station : Fin 6) (next : Option LineByte)
  | gapTimerExpiry (station : Fin 6)
  | blindTimerExpiry
  | quietReached
  | orderFrameEnd
  | tripAllFrameEnd
  | loopReplyFrame (bytes : List LineByte)
  | loopIdleAbandon (next : Option LineByte)
  | replyTimeout
  | pollTimerExpiry
  | restoreSpacingExpiry
  | graceTimerExpiry (point : Fin 64)
  | settleTimerExpiry (point : Fin 64)
  | shedDelayExpiry
  | shedStepTimeout
  | restartDelayExpiry
  | restartStepTimeout
  | consentWindowExpiry
  | linkTimeout (port : Fin 3)
  | requestFrameInvalid (port : Fin 3) (bytes : List LineByte)
  | requestIdleAbandon (port : Fin 3) (next : Option LineByte)
  | requestWhileBusy (port : Fin 3) (code : Byte) (payload : List Byte)
  | replySent (port : Fin 3)
  | unknownRequest (port : Fin 3) (code : Byte) (payload : List Byte)
  | status (port : Fin 3) (payload : List Byte)
  | ident (port : Fin 3) (payload : List Byte)
  | stationDetail (port : Fin 3) (payload : List Byte)
  | pointDetail (port : Fin 3) (payload : List Byte)
  | sequenceDetail (port : Fin 3) (payload : List Byte)
  | journalRead (port : Fin 3) (payload : List Byte)
  | noticeMask (port : Fin 3) (payload : List Byte)
  | claim (port : Fin 3) (payload : List Byte)
  | release (port : Fin 3) (payload : List Byte)
  | planWrite (port : Fin 3) (payload : List Byte)
  | planRead (port : Fin 3) (payload : List Byte)
  | commit (port : Fin 3) (payload : List Byte)
  | save (port : Fin 3) (payload : List Byte)
  | consent (port : Fin 3) (payload : List Byte)
  | veto (port : Fin 3) (payload : List Byte)
  | vetoClear (port : Fin 3) (payload : List Byte)
  | faultClear (port : Fin 3) (payload : List Byte)
  | manualShed (port : Fin 3) (payload : List Byte)
  | manualRestore (port : Fin 3) (payload : List Byte)
deriving DecidableEq, Repr

end Sys2Proof
end

