-- ==== Sys2Proof/Config.lean ====
section
/-! DEFINITION. What the spec leaves to the implementation: free values, with no body, so that no proof can see one. -/

namespace Sys2Proof

/-- The byte a reply carries in a place that belongs to an item reading NONE and for which R193 gives no code; the
arguments number the reply and the place (log 11). -/
opaque Config.noneFill : Nat → Nat → Byte

/-- The record kind (place 0) and index (place 1) that a BAD_PARAM reply names when the PLAN_WRITE payload is too short to
hold them (R52 does not say; log 12); the first argument numbers the reply. -/
opaque Config.unnamedRecord : Nat → Nat → Byte

end Sys2Proof
end

