-- ==== Sys2Proof/Machine/Plan.lean ====
section
/-! DEFINITION. The levels, states and codes of the spec as inductive types, the response plan's records, and the factory defaults. -/

namespace Sys2Proof.Machine

/-- The seismic levels, QUIET < TREMOR < STRONG < SEVERE (f00 section 6.1). A DT line's assigned level uses the same
type with `quiet` standing for NONE (R193). -/
inductive Level where
  | quiet | tremor | strong | severe
deriving DecidableEq, Repr

/-- The code of a level (R193), which is also its rank. -/
def Level.rank : Level → Nat
  | .quiet => 0
  | .tremor => 1
  | .strong => 2
  | .severe => 3

/-- `a.atLeast b`: the level a is at or above b. -/
def Level.atLeast (a b : Level) : Bool := decide (b.rank ≤ a.rank)

/-- The health states of a station channel (R3). -/
inductive Health where
  | disabled | offline | settling | healthy | lost
deriving DecidableEq, Repr

/-- The sequence states (R108). -/
inductive SeqState where
  | startup | noPlan | watch | shedding | halted | restarting
deriving DecidableEq, Repr

/-- The start-up phase, meaningful in STARTUP only (R108). -/
inductive Phase where
  | loading | polling
deriving DecidableEq, Repr

/-- The step statuses (R108, R141); a shed step is never STOPPED. -/
inductive StepStatus where
  | notStarted | running | done | stopped
deriving DecidableEq, Repr

/-- The Consent Tracker's states (R131). -/
inductive Tracker where
  | inactive | waitQuiet | openState | one
deriving DecidableEq, Repr

/-- The twelve point states (f04 section 4.2). -/
inductive PointState where
  | unused | unknown | energised | warning | warned | opening | shed | await | closing | settling | failed | locked
deriving DecidableEq, Repr

/-- The causes of a change of point state (R80). -/
inductive Cause where
  | none | orderDone | refused | noReply | outputFault | feedback | lockout | manual | timeout | cancelled | enforced
deriving DecidableEq, Repr

/-- A contact as last reported (R63). -/
inductive Contact where
  | opened | closed | unknown
deriving DecidableEq, Repr

/-- A lockout switch as last reported (R63). -/
inductive Lockout where
  | normal | opened | unknown
deriving DecidableEq, Repr

/-- A warn relay as last reported (R63). -/
inductive Relay where
  | off | on | unknown
deriving DecidableEq, Repr

/-- A lamp mode (R78, R93). -/
inductive Lamp where
  | off | on | blink
deriving DecidableEq, Repr

/-- The motion orders (f00 section 7). -/
inductive MotionKind where
  | warn | shed | restore
deriving DecidableEq, Repr

/-- The reachability of a load station (R100). -/
inductive Reach where
  | unpolled | reachable | unreachable
deriving DecidableEq, Repr

/-- The chains of the plan (R170 STEP records). -/
inductive Chain where
  | shed | restart
deriving DecidableEq, Repr

/-- The twelve fault kinds (R175). -/
inductive FaultKind where
  | stationLost | blind | frameCheck | loopNoReply | stationUnreachable | outputFault | stepTimeout | externalChange
  | noPlan | storeWrite | journalOverrun | portLink
deriving DecidableEq, Repr

/-- A fault kind's number (R175). -/
def FaultKind.idx : FaultKind → Fin 12
  | .stationLost => 0
  | .blind => 1
  | .frameCheck => 2
  | .loopNoReply => 3
  | .stationUnreachable => 4
  | .outputFault => 5
  | .stepTimeout => 6
  | .externalChange => 7
  | .noPlan => 8
  | .storeWrite => 9
  | .journalOverrun => 10
  | .portLink => 11

/-- The kinds in number order (R175). -/
def FaultKind.all : List FaultKind :=
  [.stationLost, .blind, .frameCheck, .loopNoReply, .stationUnreachable, .outputFault, .stepTimeout, .externalChange,
   .noPlan, .storeWrite, .journalOverrun, .portLink]

/-- A point's shed mode (R45). -/
inductive ShedMode where
  | openOnly | warnThenOpen
deriving DecidableEq, Repr

/-- A step's wait kind: `points` is CONFIRM in a shed step and SETTLED in a restart step, which share a code (R46, R193). -/
inductive Wait where
  | points | timer | none
deriving DecidableEq, Repr

/-- A fault kind's severity (R48). -/
inductive Severity where
  | advisory | degrading
deriving DecidableEq, Repr

/-- The PARAMETERS record (R44). Quantities are in the units of its table. -/
structure Params where
  t1 : Nat
  t2 : Nat
  t3 : Nat
  voteCount : Nat
  fallHold : Nat
  quietPeriod : Nat
  consentWindow : Nat
  abortLevel : Level
  inrushBudget : Nat
  restoreSpacing : Nat
  pollInterval : Nat
  linkTimeout : Nat
  dtLevels : Vector Level 4
  watermark : Nat
  generation : Nat
deriving DecidableEq, Repr

/-- A STATION record (R45): enabled, and the noise floor in mg. -/
structure StationRec where
  enabled : Bool
  floor : Nat
deriving DecidableEq, Repr

/-- A POINT record (R45): grace and settle times in s, weight in units. -/
structure PointRec where
  inUse : Bool
  mode : ShedMode
  grace : Nat
  weight : Nat
  settle : Nat
deriving DecidableEq, Repr

/-- A SHED STEP record (R46), delay and timeout in s. -/
structure ShedStep where
  points : List (Fin 64)
  trigger : Level
  wait : Wait
  delay : Nat
  timeout : Nat
deriving DecidableEq, Repr

/-- A RESTART STEP record (R46), delay and timeout in s. -/
structure RestartStep where
  points : List (Fin 64)
  wait : Wait
  delay : Nat
  timeout : Nat
  button : Bool
deriving DecidableEq, Repr

/-- A RIGHTS record (R47). -/
structure Rights where
  edit : Bool
  consent : Bool
  veto : Bool
  operate : Bool
deriving DecidableEq, Repr

/-- A FAULT POLICY record (R48). -/
structure Policy where
  masked : Bool
  severity : Severity
deriving DecidableEq, Repr

/-- One full set of plan records (R43). -/
structure Plan where
  params : Params
  stations : Vector StationRec 6
  points : Vector PointRec 64
  shed : Vector ShedStep 48
  restart : Vector RestartStep 48
  rights : Vector Rights 3
  policy : Vector Policy 12
  labels : Vector (List Byte) 64
deriving DecidableEq, Repr

/-- The factory PARAMETERS (R44, [default]). -/
def Params.factory : Params where
  t1 := 600
  t2 := 3000
  t3 := 12000
  voteCount := 2
  fallHold := 200
  quietPeriod := 600
  consentWindow := 120
  abortLevel := .tremor
  inrushBudget := 100
  restoreSpacing := 500
  pollInterval := 1000
  linkTimeout := 5
  dtLevels := #v[.severe, .severe, .severe, .severe]
  watermark := 16
  generation := 0

/-- The factory STATION record (R45). -/
def StationRec.factory : StationRec := ⟨true, 20⟩

/-- The factory POINT record (R45). -/
def PointRec.factory : PointRec := ⟨false, .openOnly, 0, 0, 0⟩

/-- The factory SHED STEP record, absent (R46). -/
def ShedStep.factory : ShedStep := ⟨[], .tremor, .points, 0, 60⟩

/-- The factory RESTART STEP record, absent (R46). -/
def RestartStep.factory : RestartStep := ⟨[], .points, 0, 60, false⟩

/-- The factory fault policy (R194). -/
def Policy.factory : Vector Policy 12 :=
  #v[⟨false, .advisory⟩, ⟨false, .degrading⟩, ⟨true, .advisory⟩, ⟨false, .degrading⟩, ⟨false, .degrading⟩,
     ⟨false, .degrading⟩, ⟨false, .advisory⟩, ⟨false, .advisory⟩, ⟨false, .degrading⟩, ⟨false, .degrading⟩,
     ⟨true, .advisory⟩, ⟨false, .advisory⟩]

/-- The factory defaults (R49): every station enabled, no point in use, both chains empty, every port holding every
right, the policy of R194, no label. -/
def Plan.factory : Plan where
  params := Params.factory
  stations := Vector.replicate 6 StationRec.factory
  points := Vector.replicate 64 PointRec.factory
  shed := Vector.replicate 48 ShedStep.factory
  restart := Vector.replicate 48 RestartStep.factory
  rights := Vector.replicate 3 ⟨true, true, true, true⟩
  policy := Policy.factory
  labels := Vector.replicate 64 []

/-- The shed steps in order, H0 to H47. -/
def Plan.shedSteps (p : Plan) : List ShedStep := p.shed.toList

/-- The restart steps in order, K0 to K47. -/
def Plan.restartSteps (p : Plan) : List RestartStep := p.restart.toList

/-- The record of shed step `k`; past H47 there is none, which reads as absent. -/
def Plan.shedStep (p : Plan) (k : Nat) : ShedStep := p.shedSteps.getD k ShedStep.factory

/-- The record of restart step `k`; past K47 there is none, which reads as absent. -/
def Plan.restartStep (p : Plan) (k : Nat) : RestartStep := p.restartSteps.getD k RestartStep.factory

/-- A step is present when its point list is not empty (R46). -/
def ShedStep.present (h : ShedStep) : Bool := !h.points.isEmpty

/-- A step is present when its point list is not empty (R46). -/
def RestartStep.present (k : RestartStep) : Bool := !k.points.isEmpty

/-- The length of the shed chain: its present steps from H0 (R46). -/
def Plan.shedLen (p : Plan) : Nat := (p.shedSteps.takeWhile ShedStep.present).length

/-- The length of the restart chain: its present steps from K0 (R46). -/
def Plan.restartLen (p : Plan) : Nat := (p.restartSteps.takeWhile RestartStep.present).length

/-- depth(L) of R116: the number of present shed steps whose trigger level is at or below L; depth(QUIET) is 0. -/
def Plan.depth (p : Plan) (l : Level) : Nat :=
  if l = .quiet then 0 else p.shedSteps.countP (fun h => h.present && l.atLeast h.trigger)

/-- A point's number as an index of the load station that carries it, 0 for LS1 (f00 section 6.3). -/
def stationOf (p : Fin 64) : Fin 16 := ⟨p.val / 4, by omega⟩

/-- The point that is output `o` of load station `st` (f00 section 6.3). -/
def pointAt (st : Fin 16) (o : Fin 4) : Fin 64 := ⟨4 * st.val + o.val, by omega⟩

/-- The four points of a load station in output order. -/
def stationPoints (st : Fin 16) : List (Fin 64) := [pointAt st 0, pointAt st 1, pointAt st 2, pointAt st 3]

/-- A load station is configured while at least one of its four points is in use (R45, R101). -/
def Plan.configured (p : Plan) (st : Fin 16) : Bool := (stationPoints st).any (fun i => p.points[i].inUse)

/-- The quiet period in ms (f02 section 2.8). -/
def Plan.quietMs (p : Plan) : Nat := p.params.quietPeriod * 1000

end Sys2Proof.Machine
end

