-- ==== Sys2Proof/Machine/State.lean ====
section
/-! DEFINITION. The state of the part, block by block, as plain data, and its values after a cold reset. -/

namespace Sys2Proof.Machine

/-- A receiver: hunting for its start byte, or collecting a frame, with the bytes gathered and whether one of them came
with a stop-bit error (R1, R95, R157). -/
inductive Rx where
  | hunt
  | collect (bytes : List Byte) (bad : Bool)
deriving DecidableEq, Repr

/-- A station channel of the Sensor Input Unit (R1, R3). `gap` is the ms left on the gap timer, none when stopped. -/
structure Channel where
  rx : Rx
  health : Health
  lastSeq : Option Byte
  lastExcess : Nat
  settle : Nat
  gap : Option Nat
  checkErrors : Nat
  foreign : Nat
  selfTest : Nat
  duplicates : Nat
  gapFills : Nat
  resettles : Nat
  clamped : Nat
deriving DecidableEq, Repr

/-- A station's evaluation record (R18). The window is oldest first. -/
structure StationEval where
  window : List Nat
  sum : Nat
  index : Nat
  level : Level
  fallHold : Nat
  peakShaking : Nat
  peakIndex : Nat
deriving DecidableEq, Repr

/-- The Motion Evaluator: six records and the device record (R18, R37). `quietHanded` says that quiet reached has been
handed in this run of growth (R35; log 17); `blindTimer` is the ms run, none when stopped; `peaksStand` says that an event has closed
and none has opened since, so that every peak stands (R27; log 48). -/
structure Mev where
  evals : Vector StationEval 6
  level : Level
  healthy : Nat
  quiet : Nat
  quietHanded : Bool
  blindTimer : Option Nat
  blind : Bool
  peakLevel : Level
  peakHealthy : Nat
  peaksStand : Bool
deriving DecidableEq, Repr

/-- The Direct Trip Unit: each line ASSERTED (true) or RELEASED (R39). -/
structure Dtu where
  lines : Vector Bool 4
deriving DecidableEq, Repr

/-- An edit claim: its holder and the shadow plan, which exists exactly while the claim is held (R42). -/
structure Claim where
  holder : Fin 3
  shadow : Plan
deriving DecidableEq, Repr

/-- The Plan Store (R42). -/
structure Pls where
  active : Plan
  claim : Option Claim
deriving DecidableEq, Repr

/-- A point entry (R63). `grace` and `settle` are ms left, none when stopped. -/
structure PointEntry where
  state : PointState
  contact : Contact
  lockout : Lockout
  relay : Relay
  buttonSeen : Bool
  lamp : Lamp
  grace : Option Nat
  settle : Option Nat
  deferred : Bool
  manual : Bool
  cause : Cause
deriving DecidableEq, Repr

/-- The Point Manager: the point table and the inrush in use (R63, R79). -/
structure Ptm where
  points : Vector PointEntry 64
  inrush : Nat
deriving DecidableEq, Repr

/-- The Sequencer (R108, R141). The four step timers are ms left, none when stopped. -/
structure Seq where
  state : SeqState
  phase : Phase
  eventOpen : Bool
  depth : Nat
  target : Nat
  pointer : Nat
  shedStatus : Vector StepStatus 48
  shedDelay : Option Nat
  shedTimeout : Option Nat
  restartPointer : Nat
  restartStatus : Vector StepStatus 48
  restartDelay : Option Nat
  restartTimeout : Option Nat
deriving DecidableEq, Repr

/-- The Consent Tracker (R131). `window` is ms left, none when stopped. -/
structure Ctk where
  state : Tracker
  held : Option (Fin 3)
  window : Option Nat
  veto : Vector Bool 3
deriving DecidableEq, Repr

/-- The condition of a motion slot (R87). -/
inductive MotionSlot where
  | empty
  | pending (kind : MotionKind)
  | inFlight (kind : MotionKind)
deriving DecidableEq, Repr

/-- An order, with the slot it came from (R86). -/
inductive Order where
  | motion (kind : MotionKind) (point : Fin 64)
  | lamp (mode : Lamp) (point : Fin 64)
  | poll (station : Fin 16)
  | tripAll
deriving DecidableEq, Repr

/-- The in-flight order (R94): its order, attempts sent, latest tag, and the ms left on the reply timer, none while its
frame is being sent. `voided`: its point has left use since the order was posted (R69; log 19). -/
structure InFlight where
  order : Order
  attempts : Nat
  tag : Byte
  timer : Option Nat
  voided : Bool
deriving DecidableEq, Repr

/-- The Field Loop Controller (R86 to R107). `tx` is the frame on the line, none when the driver is released. `timedOut`: a reply timer
has run out at this moment, so that a reply that arrives at the same moment is still received (R98; log 49). `aborted`: the order in
flight is a RESTORE for whose point an abort has wanted a SHED (R152 point 3; log 38). -/
structure Flc where
  motion : Vector MotionSlot 64
  lamps : Vector (Option Lamp) 64
  polls : Vector Bool 16
  broadcast : Bool
  inFlight : Option InFlight
  tx : Option (List Byte)
  tag : Byte
  reach : Vector Reach 16
  noReply : Vector Nat 16
  pollTimer : Option Nat
  spacing : Option Nat
  marks : Vector Bool 16
  tripSent : Bool
  stale : Nat
  frameErrors : Nat
  rx : Rx
  timedOut : Bool
  aborted : Bool
deriving DecidableEq, Repr

/-- The reply statuses (R161, R193). -/
inductive ReplyStatus where
  | ok | busy | unknownRequest | noRight | badParam | notClaimed | held | invalid | wrongState | notQuiet | vetoed
  | acceptedFirst | already | granted | overBudget | storeFailed
deriving DecidableEq, Repr

/-- A reply in a port's queue: the reply of the request in service, or a BUSY reply made by R159 (`byBusy`). -/
structure Reply where
  code : Byte
  status : ReplyStatus
  payload : List Byte
  byBusy : Bool
deriving DecidableEq, Repr

/-- A supervisory port (R156). `link` is ms left on the link timer, none when stopped; `tail` is a reply that a port
reset found being sent, which is sent to its end (R158). -/
structure Port where
  up : Bool
  link : Option Nat
  service : Option Byte
  queue : List Reply
  tail : Option Reply
  flags : BitVec 7
  mask : BitVec 7
  watermark : Nat
  frameErrors : Nat
  rx : Rx
  attention : Bool
deriving DecidableEq, Repr

/-- The Supervisory Port Unit. -/
structure Spu where
  ports : Vector Port 3
deriving DecidableEq, Repr

/-- The detail of a fault (R175). A load station is held by its index, 0 for LS1. -/
inductive Detail where
  | none
  | station (n : Fin 6)
  | point (p : Fin 64)
  | loadStation (n : Fin 16)
  | step (chain : Chain) (k : Nat)
  | port (n : Fin 3)
deriving DecidableEq, Repr

/-- The two kinds of reset that a RESET record names (R172). -/
inductive ResetKind where
  | cold | warm
deriving DecidableEq, Repr

/-- What a STEP record says of its step (R170). -/
inductive StepMark where
  | started | done | timedOut
deriving DecidableEq, Repr

/-- What a CONSENT record says (R170). -/
inductive ConsentMark where
  | first | granted | expired | withdrawn | discarded
deriving DecidableEq, Repr

/-- What a PLAN record says (R170). -/
inductive PlanMark where
  | committed | saved | saveFailed | loaded | loadFailed
deriving DecidableEq, Repr

/-- The reasons of a failed load (R184); `none` where a PLAN record has no reason. -/
inductive LoadReason where
  | none | noDevice | badSignature | badChecksum | missingBlock | badStructure | invalidPlan
deriving DecidableEq, Repr

/-- The fields of a journal record, by kind (R170). -/
inductive Body where
  | reset (kind : ResetKind) (generation : Nat)
  | level (old new : Level) (healthy index : Nat)
  | station (n : Fin 6) (old new : Health)
  | sequence (old new : SeqState) (depth : Nat)
  | step (chain : Chain) (k : Nat) (mark : StepMark)
  | point (p : Fin 64) (old new : PointState) (cause : Cause)
  | consent (port : Fin 3) (mark : ConsentMark)
  | veto (port : Fin 3) (isSet : Bool)
  | plan (port : Option (Fin 3)) (generation : Nat) (mark : PlanMark) (reason : LoadReason)
  | fault (kind : FaultKind) (detail : Detail)
  | dt (line : Fin 4) (asserted : Bool)
  | event (opened : Bool) (peakLevel : Level) (peakIndex : Nat)
deriving DecidableEq, Repr

/-- A journal record: its timestamp and its fields (R170). -/
structure Record where
  time : Stamp
  body : Body
deriving DecidableEq, Repr

/-- The journal (R169). The ring is oldest first; the held count N is its length. -/
structure Journal where
  ring : List Record
  unread : Vector Nat 3
  lost : Vector Nat 3
  clock : Stamp
deriving DecidableEq, Repr

/-- The capture of the first fault (R174). -/
structure Capture where
  kind : FaultKind
  detail : Detail
  time : Stamp
deriving DecidableEq, Repr

/-- The Fault Monitor (R174). The three condition values are those last reported by their owners. -/
structure Fmn where
  status : Vector Bool 12
  condBlind : Bool
  condUnreachable : Bool
  condNoPlan : Bool
  pointer : Option FaultKind
  capture : Option Capture
  line : Bool
deriving DecidableEq, Repr

/-- The store-link state (R182). -/
inductive StoreLink where
  | idle | loading | saving
deriving DecidableEq, Repr

/-- One write of a save on the store link (R189): the offset and the bytes. -/
structure StoreWrite where
  offset : Nat
  bytes : List Byte
deriving DecidableEq, Repr

/-- A save in flight (R182, R189): the requesting port, the snapshot, whether the port still awaits the reply (R158),
and the writes of the save in their order. -/
structure SaveFlight where
  port : Fin 3
  snapshot : Plan
  replyOwed : Bool
  writes : List StoreWrite
deriving DecidableEq, Repr

/-- The Image Loader (R182), and the kind of the last reset, which the RESET record names (R172). -/
structure Iml where
  link : StoreLink
  save : Option SaveFlight
  lastReset : ResetKind
deriving DecidableEq, Repr

/-- The part's whole state, the queue of the commands that wait, and the model's own count of the replies made, from which the free
values of a reply are taken (log 11, log 12). -/
structure State where
  siu : Vector Channel 6
  mev : Mev
  dtu : Dtu
  pls : Pls
  ptm : Ptm
  seq : Seq
  ctk : Ctk
  flc : Flc
  spu : Spu
  jrn : Journal
  fmn : Fmn
  iml : Iml
  free : Nat
  pending : List Instr
deriving DecidableEq, Repr

/-- Reasons to stop with a fault: none. The spec gives no behaviour that stops the part (INVENTORY.md, Faults). -/
inductive Fault where
deriving DecidableEq, Repr

/-- Reasons to refuse a command. -/
inductive Refusal where
  /-- Raised by exec for a command that has no meaning yet; safe. No arm of exec raises it. -/
  | notModelled (mnemonic : String)
deriving DecidableEq, Repr

/-- A channel after a reset (R3). -/
def Channel.start : Channel where
  rx := .hunt
  health := .disabled
  lastSeq := none
  lastExcess := 0
  settle := 0
  gap := none
  checkErrors := 0
  foreign := 0
  selfTest := 0
  duplicates := 0
  gapFills := 0
  resettles := 0
  clamped := 0

/-- An evaluation record after a reset (R18). -/
def StationEval.start : StationEval := ⟨[], 0, 0, .quiet, 0, 0, 0⟩

/-- The Motion Evaluator after a reset (R18, R37). -/
def Mev.start : Mev where
  evals := Vector.replicate 6 StationEval.start
  level := .quiet
  healthy := 0
  quiet := 0
  quietHanded := false
  blindTimer := none
  blind := false
  peakLevel := .quiet
  peakHealthy := 0
  peaksStand := false

/-- A point entry after a reset (R63). -/
def PointEntry.start : PointEntry where
  state := .unused
  contact := .unknown
  lockout := .unknown
  relay := .unknown
  buttonSeen := false
  lamp := .off
  grace := none
  settle := none
  deferred := false
  manual := false
  cause := .none

/-- The Sequencer after a reset (R108, R141). -/
def Seq.start : Seq where
  state := .startup
  phase := .loading
  eventOpen := false
  depth := 0
  target := 0
  pointer := 0
  shedStatus := Vector.replicate 48 .notStarted
  shedDelay := none
  shedTimeout := none
  restartPointer := 0
  restartStatus := Vector.replicate 48 .notStarted
  restartDelay := none
  restartTimeout := none

/-- The Field Loop Controller after a reset (R107). -/
def Flc.start : Flc where
  motion := Vector.replicate 64 .empty
  lamps := Vector.replicate 64 none
  polls := Vector.replicate 16 false
  broadcast := false
  inFlight := none
  tx := none
  tag := 0
  reach := Vector.replicate 16 .unpolled
  noReply := Vector.replicate 16 0
  pollTimer := none
  spacing := none
  marks := Vector.replicate 16 false
  tripSent := false
  stale := 0
  frameErrors := 0
  rx := .hunt
  timedOut := false
  aborted := false

/-- A supervisory port after a cold or warm reset (R156). -/
def Port.start : Port where
  up := false
  link := none
  service := none
  queue := []
  tail := none
  flags := 0
  mask := 0x7f
  watermark := 16
  frameErrors := 0
  rx := .hunt
  attention := false

/-- The journal after a cold reset (R169). -/
def Journal.start : Journal := ⟨[], Vector.replicate 3 0, Vector.replicate 3 0, 0⟩

/-- The Fault Monitor after a cold reset (R174). -/
def Fmn.start : Fmn where
  status := Vector.replicate 12 false
  condBlind := false
  condUnreachable := false
  condNoPlan := false
  pointer := none
  capture := none
  line := false

/-- The part right after a cold reset, with the image load begun (R182) and no command waiting. -/
def State.reset : State where
  siu := Vector.replicate 6 Channel.start
  mev := Mev.start
  dtu := ⟨Vector.replicate 4 false⟩
  pls := ⟨Plan.factory, none⟩
  ptm := ⟨Vector.replicate 64 PointEntry.start, 0⟩
  seq := Seq.start
  ctk := ⟨.inactive, none, none, Vector.replicate 3 false⟩
  flc := Flc.start
  spu := ⟨Vector.replicate 3 Port.start⟩
  jrn := Journal.start
  fmn := Fmn.start
  iml := ⟨.loading, none, .cold⟩
  free := 0
  pending := []

end Sys2Proof.Machine
end

