-- ==== Sys2Proof/Machine/Operands.lean ====
section
/-! DEFINITION. Bytes and fields: the checks of R191 and R192, the codes of R193, the encodings of records, frames and plan records, their decoders with the ranges of chapter 3, and the receivers that gather frames. -/

namespace Sys2Proof.Machine

/-! ### Bytes and checks -/

/-- A quantity or a code as one byte. -/
def byteOf (n : Nat) : Byte := BitVec.ofNat 8 n

/-- A quantity as two bytes, low byte first (f00 section 6.4). -/
def halfBytes (n : Nat) : List Byte := [byteOf n, byteOf (n / 256)]

/-- The value of two bytes, low byte first. -/
def halfValue (lo hi : Byte) : Nat := lo.toNat + 256 * hi.toNat

/-- The 16-bit word of a pair: the byte at the even offset is the low one (R191). -/
def halfOf (lo hi : Byte) : Half := BitVec.ofNat 16 (halfValue lo hi)

/-- One 16-bit addition with the carry out of bit 15 added back into bit 0 (R191). -/
def onesAdd (a b : Nat) : Nat := if a + b < 65536 then a + b else a + b - 65535

/-- The running ones'-complement sum of R191, by pairs from the first byte, a zero byte completing the last pair. -/
def onesSumFrom (acc : Nat) : List Byte → Nat
  | [] => acc
  | [a] => onesAdd acc (halfValue a 0)
  | a :: b :: rest => onesSumFrom (onesAdd acc (halfValue a b)) rest

/-- The ones'-complement sum over a whole frame (R191). -/
def onesSum (bytes : List Byte) : Nat := onesSumFrom 0 bytes

/-- A frame's check holds when the sum over all its bytes is FFFFh (R191). -/
def checkHolds (bytes : List Byte) : Bool := onesSum bytes == 0xffff

/-- The frame with its two check bytes: v = FFFFh − s, low byte first at an even offset, high byte first at an odd one (R191). -/
def withCheck (body : List Byte) : List Byte :=
  let v := 0xffff - onesSum (body ++ [0, 0])
  if body.length % 2 = 0 then body ++ [byteOf v, byteOf (v / 256)] else body ++ [byteOf (v / 256), byteOf v]

/-- The check of an image block: the sum of its content bytes modulo 256 (R192). -/
def blockCheck (content : List Byte) : Byte := content.foldl (fun acc b => acc + b) 0

/-- A count that saturates at 65,535 (R3, R106, R156). -/
def saturate (n : Nat) : Nat := min n 65535

/-! ### Receivers -/

/-- A receiver of frames of a fixed length `len` that begin with `start` takes one byte (R1, R95). It answers the
receiver after the byte, and the frame if the byte completed one, with its stop-bit mark. -/
def Rx.feed (start : Byte) (len : Nat) : Rx → LineByte → Rx × Option (List Byte × Bool)
  | .hunt, b => if b.val = start then (.collect [b.val] b.bad, none) else (.hunt, none)
  | .collect bytes bad, b =>
    if bytes.length + 1 < len then (.collect (bytes ++ [b.val]) (bad || b.bad), none)
    else (.hunt, some (bytes ++ [b.val], bad || b.bad))

/-- What a supervisory receiver has found at a byte (R157). -/
inductive RequestEvent where
  | nothing
  | tooLong
  | frame (bytes : List Byte) (bad : Bool)
deriving DecidableEq, Repr

/-- The length of a request frame whose bytes so far are given: 5 + L once the length byte stands (R157). -/
def requestLength (bytes : List Byte) : Nat := 5 + (bytes.getD 1 0).toNat

/-- A supervisory receiver takes one byte (R157): a length above 120 ends the frame at once. -/
def Rx.feedRequest : Rx → LineByte → Rx × RequestEvent
  | .hunt, b => if b.val = 0x3c then (.collect [b.val] b.bad, .nothing) else (.hunt, .nothing)
  | .collect bytes bad, b =>
    if bytes.length = 1 ∧ 120 < b.val.toNat then (.hunt, .tooLong)
    else if bytes.length + 1 < requestLength (bytes ++ [b.val]) then (.collect (bytes ++ [b.val]) (bad || b.bad), .nothing)
    else (.hunt, .frame (bytes ++ [b.val]) (bad || b.bad))

/-! ### Codes (R193) -/

/-- 00h for no, 01h for yes. -/
def boolCode (b : Bool) : Byte := if b then 1 else 0

/-- The code of a level. -/
def Level.code (l : Level) : Byte := byteOf l.rank

/-- The code of a health state. -/
def Health.code : Health → Byte
  | .disabled => 0
  | .offline => 1
  | .settling => 2
  | .healthy => 3
  | .lost => 4

/-- The code of a sequence state. -/
def SeqState.code : SeqState → Byte
  | .startup => 0
  | .noPlan => 1
  | .watch => 2
  | .shedding => 3
  | .halted => 4
  | .restarting => 5

/-- The code of a tracker state. -/
def Tracker.code : Tracker → Byte
  | .inactive => 0
  | .waitQuiet => 1
  | .openState => 2
  | .one => 3

/-- The code of a point state. -/
def PointState.code : PointState → Byte
  | .unused => 0
  | .unknown => 1
  | .energised => 2
  | .warning => 3
  | .warned => 4
  | .opening => 5
  | .shed => 6
  | .await => 7
  | .closing => 8
  | .settling => 9
  | .failed => 10
  | .locked => 11

/-- The code of a cause. -/
def Cause.code : Cause → Byte
  | .none => 0
  | .orderDone => 1
  | .refused => 2
  | .noReply => 3
  | .outputFault => 4
  | .feedback => 5
  | .lockout => 6
  | .manual => 7
  | .timeout => 8
  | .cancelled => 9
  | .enforced => 10

/-- The code of a step status. -/
def StepStatus.code : StepStatus → Nat
  | .notStarted => 0
  | .running => 1
  | .done => 2
  | .stopped => 3

/-- The code of a reachability state. -/
def Reach.code : Reach → Byte
  | .unpolled => 0
  | .reachable => 1
  | .unreachable => 2

/-- The code of a contact. -/
def Contact.code : Contact → Byte
  | .opened => 0
  | .closed => 1
  | .unknown => 2

/-- The code of a lockout. -/
def Lockout.code : Lockout → Byte
  | .normal => 0
  | .opened => 1
  | .unknown => 2

/-- The code of a warn relay. -/
def Relay.code : Relay → Byte
  | .off => 0
  | .on => 1
  | .unknown => 2

/-- The code of a lamp mode, which is also the LAMP argument. -/
def Lamp.code : Lamp → Byte
  | .off => 0
  | .on => 1
  | .blink => 2

/-- The order-kind code of a motion order (f11 section 11.3). -/
def MotionKind.code : MotionKind → Byte
  | .shed => 2
  | .warn => 3
  | .restore => 4

/-- The order-kind code of an order (f11 section 11.3). -/
def Order.code : Order → Byte
  | .tripAll => 1
  | .motion k _ => k.code
  | .lamp _ _ => 5
  | .poll _ => 6

/-- The destination of an order: 0 for TRIP_ALL, else the station number 1..16 (R86, R93). -/
def Order.dest : Order → Nat
  | .tripAll => 0
  | .motion _ p => (stationOf p).val + 1
  | .lamp _ p => (stationOf p).val + 1
  | .poll st => st.val + 1

/-- The output of an order: the point's, 0 for POLL and TRIP_ALL (R93). -/
def Order.output : Order → Nat
  | .tripAll => 0
  | .motion _ p => p.val % 4
  | .lamp _ p => p.val % 4
  | .poll _ => 0

/-- The argument of an order: the lamp mode for LAMP, 0 otherwise (R93). -/
def Order.argument : Order → Byte
  | .lamp m _ => m.code
  | .tripAll => 0
  | .motion _ _ => 0
  | .poll _ => 0

/-- The code of a reply status. -/
def ReplyStatus.code : ReplyStatus → Byte
  | .ok => 0x00
  | .busy => 0x01
  | .unknownRequest => 0x02
  | .noRight => 0x03
  | .badParam => 0x04
  | .notClaimed => 0x05
  | .held => 0x06
  | .invalid => 0x07
  | .wrongState => 0x08
  | .notQuiet => 0x09
  | .vetoed => 0x0a
  | .acceptedFirst => 0x0b
  | .already => 0x0c
  | .granted => 0x0d
  | .overBudget => 0x0e
  | .storeFailed => 0x0f

/-- The code of a load reason. -/
def LoadReason.code : LoadReason → Byte
  | .none => 0
  | .noDevice => 1
  | .badSignature => 2
  | .badChecksum => 3
  | .missingBlock => 4
  | .badStructure => 5
  | .invalidPlan => 6

/-- A port, or FFh for NONE. -/
def portOrNone : Option (Fin 3) → Byte
  | none => 0xff
  | some p => byteOf p.val

/-- A timer reported in whole s: two bytes, FFFFh when stopped; the ms left are rounded down (log 13). -/
def timerBytes : Option Nat → List Byte
  | none => [0xff, 0xff]
  | some ms => halfBytes (ms / 1000)

/-- Flags as the low bits of a quantity, the first flag in bit 0. -/
def flagBits : List Bool → Nat
  | [] => 0
  | b :: rest => (if b then 1 else 0) + 2 * flagBits rest

/-- Step statuses packed two to a byte, the lower-numbered step of a pair in bits 0 to 3 (R193). -/
def packStatuses : List StepStatus → List Byte
  | [] => []
  | [a] => [byteOf a.code]
  | a :: b :: rest => byteOf (a.code + 16 * b.code) :: packStatuses rest

/-! ### Frames and journal records -/

/-- The order frame of an attempt: eight bytes with the check (R93, f11 section 11.3). -/
def orderFrame (o : Order) (tag : Byte) : List Byte :=
  withCheck [0x5a, byteOf o.dest, tag, o.code, byteOf o.output, o.argument]

/-- The reply frame that carries a reply (f11 section 11.3). -/
def replyFrame (r : Reply) : List Byte :=
  withCheck ([0x3d, byteOf r.payload.length, r.code, r.status.code] ++ r.payload)

/-- The chain as STEP records and the STEP_TIMEOUT detail carry it (f11 section 11.5). -/
def Chain.code : Chain → Byte
  | .shed => 0
  | .restart => 1

/-- The two detail bytes of a fault (f11 section 11.5). -/
def Detail.bytes : Detail → List Byte
  | .none => [0xff, 0xff]
  | .station n => [byteOf n.val, 0]
  | .point p => [byteOf p.val, 0]
  | .loadStation n => [byteOf (n.val + 1), 0]
  | .step c k => [c.code, byteOf k]
  | .port n => [byteOf n.val, 0]

/-- A fault kind's number as a byte. -/
def FaultKind.code (k : FaultKind) : Byte := byteOf k.idx.val

/-- The kind code of a record (f11 section 11.5). -/
def Body.kindCode : Body → Byte
  | .reset _ _ => 0x01
  | .level _ _ _ _ => 0x02
  | .station _ _ _ => 0x03
  | .sequence _ _ _ => 0x04
  | .step _ _ _ => 0x05
  | .point _ _ _ _ => 0x06
  | .consent _ _ => 0x07
  | .veto _ _ => 0x08
  | .plan _ _ _ _ => 0x09
  | .fault _ _ => 0x0a
  | .dt _ _ => 0x0b
  | .event _ _ _ => 0x0c

/-- The bytes of a record from offset 5 (f11 section 11.5). -/
def Body.fields : Body → List Byte
  | .reset k g => [match k with | .cold => 0 | .warm => 1] ++ halfBytes g
  | .level old new h i => [old.code, new.code, byteOf h] ++ halfBytes i
  | .station n old new => [byteOf n.val, old.code, new.code]
  | .sequence old new d => [old.code, new.code, byteOf d]
  | .step c k m => [c.code, byteOf k, match m with | .started => 0 | .done => 1 | .timedOut => 2]
  | .point p old new c => [byteOf p.val, old.code, new.code, c.code]
  | .consent p m =>
    [byteOf p.val, match m with | .first => 0 | .granted => 1 | .expired => 2 | .withdrawn => 3 | .discarded => 4]
  | .veto p s => [byteOf p.val, if s then 0 else 1]
  | .plan p g m r =>
    [portOrNone p] ++ halfBytes g ++
      [match m with | .committed => 0 | .saved => 1 | .saveFailed => 2 | .loaded => 3 | .loadFailed => 4, r.code]
  | .fault k d => k.code :: d.bytes
  | .dt l a => [byteOf l.val, if a then 0 else 1]
  | .event o l i => [if o then 0 else 1, l.code] ++ halfBytes i

/-- The four bytes of a timestamp, low byte first. -/
def stampBytes (t : Stamp) : List Byte :=
  [byteOf t.toNat, byteOf (t.toNat / 256), byteOf (t.toNat / 65536), byteOf (t.toNat / 16777216)]

/-- A journal record's 16 bytes; bytes the kind does not use are 00h (f11 section 11.5). -/
def Record.bytes (r : Record) : List Byte :=
  let used := r.body.kindCode :: stampBytes r.time ++ r.body.fields
  used ++ List.replicate (16 - used.length) 0

/-! ### Plan records: encodings (R193, in the field order of chapter 3) -/

/-- The 28 bytes of a PARAMETERS record. -/
def Params.bytes (p : Params) : List Byte :=
  halfBytes p.t1 ++ halfBytes p.t2 ++ halfBytes p.t3 ++ [byteOf p.voteCount] ++ halfBytes p.fallHold
    ++ halfBytes p.quietPeriod ++ halfBytes p.consentWindow ++ [p.abortLevel.code] ++ halfBytes p.inrushBudget
    ++ halfBytes p.restoreSpacing ++ halfBytes p.pollInterval ++ [byteOf p.linkTimeout]
    ++ [p.dtLevels[0].code, p.dtLevels[1].code, p.dtLevels[2].code, p.dtLevels[3].code]
    ++ [byteOf p.watermark] ++ halfBytes p.generation

/-- The 2 bytes of a STATION record. -/
def StationRec.bytes (r : StationRec) : List Byte := [boolCode r.enabled, byteOf r.floor]

/-- The code of a shed mode. -/
def ShedMode.code : ShedMode → Byte
  | .openOnly => 0
  | .warnThenOpen => 1

/-- The code of a wait kind. -/
def Wait.code : Wait → Byte
  | .points => 0
  | .timer => 1
  | .none => 2

/-- The 6 bytes of a POINT record. -/
def PointRec.bytes (r : PointRec) : List Byte :=
  [boolCode r.inUse, r.mode.code] ++ halfBytes r.grace ++ [byteOf r.weight, byteOf r.settle]

/-- A point list: a count byte and the entries. -/
def pointListBytes (l : List (Fin 64)) : List Byte := byteOf l.length :: l.map (fun p => byteOf p.val)

/-- The 7 + n bytes of a SHED STEP record. -/
def ShedStep.bytes (h : ShedStep) : List Byte :=
  pointListBytes h.points ++ [h.trigger.code, h.wait.code] ++ halfBytes h.delay ++ halfBytes h.timeout

/-- The 7 + n bytes of a RESTART STEP record. -/
def RestartStep.bytes (k : RestartStep) : List Byte :=
  pointListBytes k.points ++ [k.wait.code] ++ halfBytes k.delay ++ halfBytes k.timeout ++ [boolCode k.button]

/-- The byte of a RIGHTS record: bit 0 EDIT, 1 CONSENT, 2 VETO, 3 OPERATE. -/
def Rights.bytes (r : Rights) : List Byte := [byteOf (flagBits [r.edit, r.consent, r.veto, r.operate])]

/-- The 2 bytes of a FAULT POLICY record. -/
def Policy.bytes (p : Policy) : List Byte :=
  [boolCode p.masked, match p.severity with | .advisory => 0 | .degrading => 1]

/-- The 1 + n bytes of a LABEL record. -/
def labelBytes (l : List Byte) : List Byte := byteOf l.length :: l

/-! ### Plan records: decoders, with the ranges of R44 to R48 -/

/-- A decoder takes a field from the front of the bytes and answers it with the rest, or nothing. -/
abbrev Decoder (α : Type) := List Byte → Option (α × List Byte)

/-- One byte. -/
def takeByte : Decoder Byte
  | [] => none
  | b :: rest => some (b, rest)

/-- A one-byte quantity in lo..hi. -/
def takeNat8 (lo hi : Nat) : Decoder Nat
  | [] => none
  | b :: rest => if lo ≤ b.toNat ∧ b.toNat ≤ hi then some (b.toNat, rest) else none

/-- A two-byte quantity in lo..hi. -/
def takeNat16 (lo hi : Nat) : Decoder Nat
  | a :: b :: rest => if lo ≤ halfValue a b ∧ halfValue a b ≤ hi then some (halfValue a b, rest) else none
  | _ => none

/-- A field whose byte stands for a value by the given codes. -/
def takeCode {α : Type} (codes : List (Byte × α)) : Decoder α
  | [] => none
  | b :: rest => (codes.lookup b).map (fun v => (v, rest))

/-- A yes/no field: 00h or 01h. -/
def takeBool : Decoder Bool := takeCode [(0, false), (1, true)]

/-- A level from TREMOR up (abort and trigger levels). -/
def takeShakingLevel : Decoder Level := takeCode [(1, .tremor), (2, .strong), (3, .severe)]

/-- A DT line level: 0 stands for NONE. -/
def takeDtLevel : Decoder Level := takeCode [(0, .quiet), (1, .tremor), (2, .strong), (3, .severe)]

/-- A wait kind. -/
def takeWait : Decoder Wait := takeCode [(0, .points), (1, .timer), (2, .none)]

/-- `n` values of one kind in a row, as a vector. -/
def takeVector {α : Type} (d : Decoder α) : (n : Nat) → List Byte → Option (Vector α n × List Byte)
  | 0, bytes => some (#v[], bytes)
  | n + 1, bytes => do
    let (v, rest) ← takeVector d n bytes
    let (x, rest) ← d rest
    return (v.push x, rest)

/-- `n` values of one kind in a row, as a list. -/
def takeList {α : Type} (d : Decoder α) : Nat → List Byte → Option (List α × List Byte)
  | 0, bytes => some ([], bytes)
  | n + 1, bytes => do
    let (x, rest) ← d bytes
    let (l, rest) ← takeList d n rest
    return (x :: l, rest)

/-- A point number 0..63. -/
def takePoint : Decoder (Fin 64)
  | [] => none
  | b :: rest => if h : b.toNat < 64 then some (⟨b.toNat, h⟩, rest) else none

/-- A point list: at most 8 entries, each 0..63, all distinct (R46). -/
def takePointList : Decoder (List (Fin 64)) := fun bytes => do
  let (n, rest) ← takeNat8 0 8 bytes
  let (l, rest) ← takeList takePoint n rest
  if l.Nodup then some (l, rest) else none

/-- A PARAMETERS record (R44). -/
def takeParams : Decoder Params := fun bytes => do
  let (t1, r) ← takeNat16 1 60000 bytes
  let (t2, r) ← takeNat16 1 60000 r
  let (t3, r) ← takeNat16 1 60000 r
  let (voteCount, r) ← takeNat8 1 3 r
  let (fallHold, r) ← takeNat16 50 1000 r
  let (quietPeriod, r) ← takeNat16 60 3600 r
  let (consentWindow, r) ← takeNat16 30 600 r
  let (abortLevel, r) ← takeShakingLevel r
  let (inrushBudget, r) ← takeNat16 1 1023 r
  let (restoreSpacing, r) ← takeNat16 0 2000 r
  let (pollInterval, r) ← takeNat16 200 5000 r
  let (linkTimeout, r) ← takeNat8 1 60 r
  let (dtLevels, r) ← takeVector takeDtLevel 4 r
  let (watermark, r) ← takeNat8 1 128 r
  let (generation, r) ← takeNat16 0 65535 r
  return (⟨t1, t2, t3, voteCount, fallHold, quietPeriod, consentWindow, abortLevel, inrushBudget, restoreSpacing,
    pollInterval, linkTimeout, dtLevels, watermark, generation⟩, r)

/-- A STATION record (R45). -/
def takeStation : Decoder StationRec := fun bytes => do
  let (enabled, r) ← takeBool bytes
  let (floor, r) ← takeNat8 0 255 r
  return (⟨enabled, floor⟩, r)

/-- A POINT record (R45). -/
def takePointRec : Decoder PointRec := fun bytes => do
  let (inUse, r) ← takeBool bytes
  let (mode, r) ← takeCode [((0 : Byte), ShedMode.openOnly), (1, .warnThenOpen)] r
  let (grace, r) ← takeNat16 0 600 r
  let (weight, r) ← takeNat8 0 255 r
  let (settle, r) ← takeNat8 0 60 r
  return (⟨inUse, mode, grace, weight, settle⟩, r)

/-- A SHED STEP record (R46). -/
def takeShedStep : Decoder ShedStep := fun bytes => do
  let (points, r) ← takePointList bytes
  let (trigger, r) ← takeShakingLevel r
  let (wait, r) ← takeWait r
  let (delay, r) ← takeNat16 0 600 r
  let (timeout, r) ← takeNat16 1 600 r
  return (⟨points, trigger, wait, delay, timeout⟩, r)

/-- A RESTART STEP record (R46). -/
def takeRestartStep : Decoder RestartStep := fun bytes => do
  let (points, r) ← takePointList bytes
  let (wait, r) ← takeWait r
  let (delay, r) ← takeNat16 0 600 r
  let (timeout, r) ← takeNat16 1 600 r
  let (button, r) ← takeBool r
  return (⟨points, wait, delay, timeout, button⟩, r)

/-- A RIGHTS record (R47); bits above bit 3 name no right and are refused (log 14). -/
def takeRights : Decoder Rights := fun bytes => do
  let (b, r) ← takeNat8 0 15 bytes
  return (⟨b.testBit 0, b.testBit 1, b.testBit 2, b.testBit 3⟩, r)

/-- A FAULT POLICY record (R48). -/
def takePolicy : Decoder Policy := fun bytes => do
  let (masked, r) ← takeBool bytes
  let (severity, r) ← takeCode [((0 : Byte), Severity.advisory), (1, .degrading)] r
  return (⟨masked, severity⟩, r)

/-- A character of a label: 20h to 7Eh (R48). -/
def takeLabelChar : Decoder Byte
  | [] => none
  | b :: rest => if 0x20 ≤ b.toNat ∧ b.toNat ≤ 0x7e then some (b, rest) else none

/-- A LABEL record: 0..16 characters (R48). -/
def takeLabel : Decoder (List Byte) := fun bytes => do
  let (n, r) ← takeNat8 0 16 bytes
  takeList takeLabelChar n r

/-- A decoder that must use every byte: a payload or block content of the wrong length is refused. -/
def exactly {α : Type} (d : Decoder α) (bytes : List Byte) : Option α :=
  match d bytes with
  | some (v, []) => some v
  | _ => none

/-! ### Records by kind and index (R43) -/

/-- A record of the plan with its address. -/
inductive PlanRecord where
  | params (p : Params)
  | station (i : Fin 6) (r : StationRec)
  | point (i : Fin 64) (r : PointRec)
  | shedStep (i : Fin 48) (h : ShedStep)
  | restartStep (i : Fin 48) (k : RestartStep)
  | rights (i : Fin 3) (r : Rights)
  | policy (i : Fin 12) (p : Policy)
  | label (i : Fin 64) (l : List Byte)
deriving DecidableEq, Repr

/-- The address of a record: its kind and an index in the kind's range (R43). -/
inductive RecordAddr where
  | params
  | station (i : Fin 6)
  | point (i : Fin 64)
  | shedStep (i : Fin 48)
  | restartStep (i : Fin 48)
  | rights (i : Fin 3)
  | policy (i : Fin 12)
  | label (i : Fin 64)
deriving DecidableEq, Repr

/-- An index of a kind with `n` records. -/
def indexIn (n : Nat) (b : Byte) : Option (Fin n) := if h : b.toNat < n then some ⟨b.toNat, h⟩ else none

/-- The record that a kind byte and an index byte name: kinds 0 to 7 in the order of R43. -/
def recordAddr (kind index : Byte) : Option RecordAddr :=
  match kind.toNat with
  | 0 => if index.toNat = 0 then some .params else none
  | 1 => (indexIn 6 index).map .station
  | 2 => (indexIn 64 index).map .point
  | 3 => (indexIn 48 index).map .shedStep
  | 4 => (indexIn 48 index).map .restartStep
  | 5 => (indexIn 3 index).map .rights
  | 6 => (indexIn 12 index).map .policy
  | 7 => (indexIn 64 index).map .label
  | _ => none

/-- The content of a PLAN_WRITE for an address, every field in range and every byte used (R52). -/
def recordContent (a : RecordAddr) (content : List Byte) : Option PlanRecord :=
  match a with
  | .params => (exactly takeParams content).map .params
  | .station i => (exactly takeStation content).map (.station i)
  | .point i => (exactly takePointRec content).map (.point i)
  | .shedStep i => (exactly takeShedStep content).map (.shedStep i)
  | .restartStep i => (exactly takeRestartStep content).map (.restartStep i)
  | .rights i => (exactly takeRights content).map (.rights i)
  | .policy i => (exactly takePolicy content).map (.policy i)
  | .label i => (exactly takeLabel content).map (.label i)

/-- The plan with one record replaced; a PARAMETERS record's generation field is not taken (R44, R53). -/
def Plan.write (p : Plan) : PlanRecord → Plan
  | .params q => { p with params := { q with generation := p.params.generation } }
  | .station i r => { p with stations := p.stations.set i r }
  | .point i r => { p with points := p.points.set i r }
  | .shedStep i h => { p with shed := p.shed.set i h }
  | .restartStep i k => { p with restart := p.restart.set i k }
  | .rights i r => { p with rights := p.rights.set i r }
  | .policy i q => { p with policy := p.policy.set i q }
  | .label i l => { p with labels := p.labels.set i l }

/-- The content bytes of the record at an address (R54). -/
def Plan.read (p : Plan) : RecordAddr → List Byte
  | .params => p.params.bytes
  | .station i => p.stations[i].bytes
  | .point i => p.points[i].bytes
  | .shedStep i => p.shed[i].bytes
  | .restartStep i => p.restart[i].bytes
  | .rights i => p.rights[i].bytes
  | .policy i => p.policy[i].bytes
  | .label i => labelBytes p.labels[i]

end Sys2Proof.Machine
end

