-- ==== Sys2Proof/Machine/Flags.lean ====
section
/-! DEFINITION. Notice flags, attention lines and the FAULT line: how each flag is raised and each line re-evaluated. -/

namespace Sys2Proof.Machine

/-- The seven notice flags (R156). -/
inductive Notice where
  | level | sequence | consent | fault | journal | plan | claim
deriving DecidableEq, Repr

/-- The bit of a flag (R193). -/
def Notice.bit : Notice → BitVec 7
  | .level => 0x01
  | .sequence => 0x02
  | .consent => 0x04
  | .fault => 0x08
  | .journal => 0x10
  | .plan => 0x20
  | .claim => 0x40

/-- The port with its attention line driven from its flags and mask: asserted while a flag is both set and enabled (R166). -/
def Port.drive (p : Port) : Port := { p with attention := p.flags &&& p.mask != 0 }

/-- The state with one port changed. -/
def State.modPort (s : State) (i : Fin 3) (f : Port → Port) : State :=
  { s with spu.ports := s.spu.ports.set i (f s.spu.ports[i]) }

/-- The port with a flag raised and its line re-evaluated (R166). -/
def Port.raise (n : Notice) (p : Port) : Port := Port.drive { p with flags := p.flags ||| n.bit }

/-- A flag raised on one port (R167). -/
def raiseOn (n : Notice) (i : Fin 3) (s : State) : State := s.modPort i (Port.raise n)

/-- A flag raised on every port, masked or not, UP or DOWN (R166). -/
def raiseAll (n : Notice) (s : State) : State := raiseOn n 2 (raiseOn n 1 (raiseOn n 0 s))

/-- The policy of a kind in the plan in force (R48, R174). -/
def State.policyOf (s : State) (k : FaultKind) : Policy := s.pls.active.policy[k.idx]

/-- Whether a kind drives the FAULT line: SET, unmasked and DEGRADING (R180). -/
def State.drivesFault (s : State) (k : FaultKind) : Bool :=
  s.fmn.status[k.idx] && !(s.policyOf k).masked && (s.policyOf k).severity == .degrading

/-- What the FAULT line is while these statuses and this policy stand (R180). -/
def State.faultLineNow (s : State) : Bool := FaultKind.all.any s.drivesFault

/-- The FAULT line re-evaluated (R180). -/
def driveFault (s : State) : State := { s with fmn.line := s.faultLineNow }

end Sys2Proof.Machine
end

