-- ==== Sys2Proof/Machine/Ops.lean ====
section
/-! DEFINITION. The operations that blocks share: posting a journal record, raising and clearing faults, posting, withdrawing and choosing field orders. -/

namespace Sys2Proof.Machine

/-! ### The journal (R169 to R172) -/

/-- A count of each port, from a function of the port. -/
def perPort {α : Type} (f : Fin 3 → α) : Vector α 3 := #v[f 0, f 1, f 2]

/-- The journal with one record posted (R171): appended while fewer than 128 are held, else over the oldest. -/
def Journal.push (j : Journal) (b : Body) : Journal :=
  let full := decide (128 ≤ j.ring.length)
  { j with
    ring := (if full then j.ring.drop 1 else j.ring) ++ [⟨j.clock, b⟩]
    unread := perPort (fun i => if full && decide (128 ≤ j.unread[i]) then j.unread[i] else j.unread[i] + 1)
    lost := perPort (fun i => if full && decide (128 ≤ j.unread[i]) then min (j.lost[i] + 1) 255 else j.lost[i]) }

/-- The JOURNAL flag of a port after a posting: raised when the posting raised its unread count and the count then
stands at or above its watermark (R167). `before` is the journal before the posting. -/
def noteUnread (before : Journal) (i : Fin 3) (s : State) : State :=
  if before.unread[i] < s.jrn.unread[i] ∧ s.spu.ports[i].watermark ≤ s.jrn.unread[i] then raiseOn .journal i s else s

/-- A posting and the JOURNAL flags it raises, in port order (R171). -/
def postRecord (b : Body) (s : State) : State :=
  let before := s.jrn
  noteUnread before 2 (noteUnread before 1 (noteUnread before 0 { s with jrn := s.jrn.push b }))

/-- The lowest port whose lost count rose from 0 to 1 between two journals (R171). -/
def overrunPort (before after : Journal) : Option (Fin 3) :=
  [0, 1, 2].find? (fun i => before.lost[i] == 0 && after.lost[i] == 1)

/-- The first-fault pointer and capture offered an unmasked kind that has just been set, and the FAULT notice (R176, R179).
A masked kind does neither. -/
def offerFault (k : FaultKind) (d : Detail) (s : State) : State :=
  if (s.policyOf k).masked then s
  else
    let s := match s.fmn.pointer with
      | none => { s with fmn.pointer := some k, fmn.capture := some ⟨k, d, s.jrn.clock⟩ }
      | some _ => s
    raiseAll .fault s

/-- A kind's status goes from CLEAR to SET: the FAULT record, the offer, and the FAULT line (R176). -/
def setStatus (k : FaultKind) (d : Detail) (s : State) : State :=
  let s := { s with fmn.status := s.fmn.status.set k.idx true }
  driveFault (offerFault k d (postRecord (.fault k d) s))

/-- JOURNAL_OVERRUN raised for the port whose record was lost, if there is one; a status already SET posts nothing (R171, R176). -/
def raiseOverrun (port : Option (Fin 3)) (s : State) : State :=
  match port with
  | none => s
  | some i => if s.fmn.status[FaultKind.journalOverrun.idx] then s else setStatus .journalOverrun (.port i) s

/-- A record posted whole: the ring, the counts, the JOURNAL flags, then JOURNAL_OVERRUN (R171). -/
def post (b : Body) (s : State) : State :=
  let s' := postRecord b s
  raiseOverrun (overrunPort s.jrn s'.jrn) s'

/-- An event kind raised, or a condition kind reported true once its value is set (R176). The raise is handled whole before
the JOURNAL_OVERRUN that its own record may cause (log 22). -/
def raiseFault (k : FaultKind) (d : Detail) (s : State) : State :=
  if s.fmn.status[k.idx] then s
  else
    let s' := setStatus k d s
    raiseOverrun (overrunPort s.jrn s'.jrn) s'

/-- The condition value of a condition kind, as its owner last reported it (R174); an event kind has none. -/
def State.conditionOf (s : State) (k : FaultKind) : Bool :=
  match k with
  | .blind => s.fmn.condBlind
  | .stationUnreachable => s.fmn.condUnreachable
  | .noPlan => s.fmn.condNoPlan
  | _ => false

/-- A condition value set (R176, R177). -/
def setCondition (k : FaultKind) (v : Bool) (s : State) : State :=
  match k with
  | .blind => { s with fmn.condBlind := v }
  | .stationUnreachable => { s with fmn.condUnreachable := v }
  | .noPlan => { s with fmn.condNoPlan := v }
  | _ => s

/-- A condition reported true: its value is set first (R176). -/
def reportTrue (k : FaultKind) (d : Detail) (s : State) : State := raiseFault k d (setCondition k true s)

/-- A condition reported false: its value is cleared and the status stays (R177). -/
def reportFalse (k : FaultKind) (s : State) : State := setCondition k false s

/-! ### Field orders (R86 to R94) -/

/-- Whether any RESTORE is pending or in flight, the fact the restore gate reads (R104). -/
def Flc.restoreOutstanding (f : Flc) : Bool :=
  f.motion.toList.any (fun m => m == .pending .restore || m == .inFlight .restore)

/-- The lowest point whose motion slot holds a pending order of a kind (R91). -/
def Flc.firstMotion (f : Flc) (k : MotionKind) : Option (Fin 64) :=
  (List.finRange 64).find? (fun p => f.motion[p] == .pending k)

/-- The lowest point whose lamp slot is PENDING, with the mode there (R91). -/
def Flc.firstLamp (f : Flc) : Option Order :=
  (List.finRange 64).findSome? (fun p => f.lamps[p].map (fun m => .lamp m p))

/-- The lowest station whose poll slot is PENDING (R91). -/
def Flc.firstPoll (f : Flc) : Option (Fin 16) := (List.finRange 16).find? (fun st => f.polls[st])

/-- The order that R91 chooses: TRIP_ALL, SHED, WARN, RESTORE, LAMP, POLL, and the lowest number within a kind. -/
def Flc.nextOrder (f : Flc) : Option Order :=
  if f.broadcast then some .tripAll
  else match f.firstMotion .shed with
    | some p => some (.motion .shed p)
    | none => match f.firstMotion .warn with
      | some p => some (.motion .warn p)
      | none => match f.firstMotion .restore with
        | some p => some (.motion .restore p)
        | none => match f.firstLamp with
          | some o => some o
          | none => f.firstPoll.map .poll

/-- The table after an order has left its slot: a motion slot becomes IN_FLIGHT, every other slot EMPTY (R91). -/
def Flc.leaveSlot (f : Flc) : Order → Flc
  | .motion k p => { f with motion := f.motion.set p (.inFlight k) }
  | .lamp _ p => { f with lamps := f.lamps.set p none }
  | .poll st => { f with polls := f.polls.set st false }
  | .tripAll => { f with broadcast := false }

/-- One attempt of an order is sent: the frame goes out with the tag counter's value, and the counter rises by one (R93). -/
def Flc.attempt (f : Flc) (o : Order) (attempts : Nat) (voided : Bool) : Flc :=
  { f with
    inFlight := some ⟨o, attempts, f.tag, none, voided⟩
    tx := some (orderFrame o f.tag)
    tag := f.tag + 1 }

/-- The FLC chooses, when no order is in flight and a slot is PENDING (R91, R92). -/
def Flc.choose (f : Flc) : Flc :=
  match f.inFlight with
  | some _ => f
  | none => match f.nextOrder with
    | none => f
    | some o => (f.leaveSlot o).attempt o 1 false

/-- The state after the FLC has chosen. -/
def choose (s : State) : State := { s with flc := s.flc.choose }

/-- A motion order posted into a point's slot: placed in an EMPTY one, replacing a PENDING one, and leaving an IN_FLIGHT one
unchanged; a post while the loop is idle is chosen at once (R87, R92). -/
def placeMotion (k : MotionKind) (p : Fin 64) (s : State) : State :=
  match s.flc.motion[p] with
  | .inFlight _ => s
  | .empty => choose { s with flc.motion := s.flc.motion.set p (.pending k) }
  | .pending _ => choose { s with flc.motion := s.flc.motion.set p (.pending k) }

/-- A LAMP posted into a point's lamp slot, replacing one pending there (R88). -/
def postLamp (m : Lamp) (p : Fin 64) (s : State) : State :=
  choose { s with flc.lamps := s.flc.lamps.set p (some m) }

/-- A POLL posted into a station's slot; one already pending stands (R89). -/
def postPoll (st : Fin 16) (s : State) : State :=
  choose { s with flc.polls := s.flc.polls.set st true }

/-- A POLL posted for a station if it is configured (R102, R103). -/
def pollStation (s : State) (st : Fin 16) : State := if s.pls.active.configured st then postPoll st s else s

/-- The poll slot of every configured station is set, in station order (R102, R103). -/
def pollConfigured (s : State) : State := (List.finRange 16).foldl pollStation s

/-- TRIP_ALL posted into the broadcast slot (R89). -/
def postTripAll (s : State) : State := choose { s with flc.broadcast := true }

/-- A motion order withdrawn from its slot: a PENDING slot becomes EMPTY, any other stands (R90). -/
def withdraw (p : Fin 64) (s : State) : State :=
  match s.flc.motion[p] with
  | .pending _ => { s with flc.motion := s.flc.motion.set p .empty }
  | .empty => s
  | .inFlight _ => s

/-- A restore spacing started at the resolution of a RESTORE; with a spacing of 0 ms it does not run (R104). -/
def startSpacing (s : State) : State :=
  let ms := s.pls.active.params.restoreSpacing
  { s with flc.spacing := if ms = 0 then none else some ms }

end Sys2Proof.Machine
end

