-- ==== Sys2Proof/Machine/Points.lean ====
section
/-! DEFINITION. The Point Manager: changes of point state, lamps, and what a wanted SHED does (R63 to R80). -/

namespace Sys2Proof.Machine

/-- Whether a state's inrush weight counts (R79, f04 section 4.2). -/
def PointState.counts : PointState → Bool
  | .closing => true
  | .settling => true
  | _ => false

/-- Whether the manual flag stands on entering a state (R82). -/
def PointState.keepsManual : PointState → Bool
  | .await => true
  | .closing => true
  | .settling => true
  | _ => false

/-- The entry after a change of state, apart from the timers that the change starts: the cause is kept (R80), the grace timer
runs only in WARNED (R72), the settle timer only in SETTLING (R73), LOCKED and UNUSED drop the deferred SHED (R59, R69, R74),
AWAIT clears button seen (R76). -/
def PointEntry.enter (e : PointEntry) (new : PointState) (c : Cause) : PointEntry :=
  { e with
    state := new
    cause := c
    grace := if new = .warned then e.grace else none
    settle := if new = .settling then e.settle else none
    deferred := e.deferred && new != .locked && new != .unused
    manual := e.manual && new.keepsManual
    buttonSeen := e.buttonSeen && new != .await }

/-- The state with one point entry changed. -/
def State.modPoint (s : State) (p : Fin 64) (f : PointEntry → PointEntry) : State :=
  { s with ptm.points := s.ptm.points.set p (f s.ptm.points[p]) }

/-- The inrush in use after a point of weight `w` goes from one state to another (R79). -/
def inrushAfter (inrush w : Nat) (old new : PointState) : Nat :=
  if new.counts && !old.counts then inrush + w
  else if old.counts && !new.counts then inrush - w
  else inrush

/-- A change of a point's state: the entry, the inrush in use and the POINT record (R79, R80), without the lamp. -/
def changePoint (p : Fin 64) (new : PointState) (c : Cause) (s : State) : State :=
  let old := s.ptm.points[p].state
  let w := s.pls.active.points[p].weight
  let s := s.modPoint p (fun e => e.enter new c)
  post (.point p old new c) { s with ptm.inrush := inrushAfter s.ptm.inrush w old new }

/-- The first present restart step that lists a point, with its number. -/
def Plan.restartStepOf (pl : Plan) (p : Fin 64) : Option Nat :=
  (List.range 48).find? (fun k => (pl.restartStep k).points.contains p)

/-- Whether the restart step that lists a point requires the button (R78, R149). -/
def Plan.buttonRequired (pl : Plan) (p : Fin 64) : Bool :=
  match pl.restartStepOf p with
  | some k => (pl.restartStep k).button
  | none => false

/-- The commanded lamp of an in-use point (R78). -/
def commandedLamp (pl : Plan) (p : Fin 64) (e : PointEntry) : Lamp :=
  if e.state = .await ∧ e.manual = false ∧ pl.buttonRequired p = true ∧ e.buttonSeen = false then .blink
  else if e.state = .failed then .on
  else .off

/-- The lamp re-evaluated after a change: a new value is posted, and a point that has left UNKNOWN posts its lamp again
(R77, R78). A point not in use has no commanded lamp to evaluate. -/
def settleLamp (p : Fin 64) (old : PointState) (s : State) : State :=
  let e := s.ptm.points[p]
  let m := commandedLamp s.pls.active p e
  if s.pls.active.points[p].inUse && (m != e.lamp || (old == .unknown && e.state != .unknown)) then
    postLamp m p (s.modPoint p (fun e => { e with lamp := m }))
  else s

/-- A change of a point's state with its lamp re-evaluated. -/
def movePoint (p : Fin 64) (new : PointState) (c : Cause) (s : State) : State :=
  settleLamp p s.ptm.points[p].state (changePoint p new c s)

/-- A SHED wanted for an in-use point, by the content of its motion slot (R66), without the lamp. -/
def wantShedBare (p : Fin 64) (c : Cause) (s : State) : State :=
  match s.flc.motion[p] with
  | .empty => changePoint p .opening c (placeMotion .shed p s)
  | .pending .warn => changePoint p .opening c (placeMotion .shed p s)
  | .pending .restore => changePoint p .opening .cancelled (placeMotion .shed p s)
  | .pending .shed => s
  | .inFlight _ => s.modPoint p (fun e => { e with deferred := true })

/-- A SHED wanted for an in-use point (R66), with the lamp re-evaluated. -/
def wantShed (p : Fin 64) (c : Cause) (s : State) : State :=
  settleLamp p s.ptm.points[p].state (wantShedBare p c s)

/-- A point whose pending RESTORE is withdrawn or that leaves the gate: SHED, cause CANCELLED (R83, R152, R154). -/
def cancelPoint (p : Fin 64) (s : State) : State := movePoint p .shed .cancelled (withdraw p s)

/-- The points of the table in point order. -/
def allPoints : List (Fin 64) := List.finRange 64

/-- Whether a point is in use in the active plan. -/
def State.inUse (s : State) (p : Fin 64) : Bool := s.pls.active.points[p].inUse

/-- The state of a point. -/
def State.pointState (s : State) (p : Fin 64) : PointState := s.ptm.points[p].state

/-- Whether any point is in CLOSING or SETTLING (R57). -/
def State.anyRestoring (s : State) : Bool := allPoints.any (fun p => (s.pointState p).counts)

end Sys2Proof.Machine
end

