-- ==== Sys2Proof/Machine/Consent.lean ====
section
/-! DEFINITION. The Consent Tracker's state changes (R131 to R136) and the changes of sequence state that carry them (R113). -/

namespace Sys2Proof.Machine

/-- A change of tracker state raises the CONSENT notice; the same state again is no change (R132). -/
def setTracker (t : Tracker) (s : State) : State :=
  if s.ctk.state = t then s else raiseAll .consent { s with ctk.state := t }

/-- A held consent ended with a CONSENT record of its port (R132, R135, R136, R138); the consent window timer stops. -/
def dropConsent (mark : ConsentMark) (s : State) : State :=
  match s.ctk.held with
  | none => { s with ctk.window := none }
  | some i => post (.consent i mark) { s with ctk.held := none, ctk.window := none }

/-- Whether quiet time stands at or above the quiet period (R132). -/
def State.quietLongEnough (s : State) : Bool := decide (s.pls.active.quietMs ≤ s.mev.quiet)

/-- The tracker on entering HALTED (R132). -/
def trackerEnterHalted (s : State) : State :=
  if s.quietLongEnough then setTracker .openState s else setTracker .waitQuiet s

/-- The tracker on leaving HALTED for SHEDDING: a held consent is discarded (R132). -/
def trackerLeaveHalted (s : State) : State :=
  match s.ctk.state with
  | .one => setTracker .inactive (dropConsent .discarded s)
  | .waitQuiet => setTracker .inactive s
  | .openState => setTracker .inactive s
  | .inactive => s

/-- Quiet reached at the tracker (R132). -/
def trackerQuietReached (s : State) : State :=
  match s.ctk.state with
  | .waitQuiet => setTracker .openState s
  | .openState => s
  | .one => s
  | .inactive => s

/-- Quiet cleared at the tracker (R132). -/
def trackerQuietCleared (s : State) : State :=
  match s.ctk.state with
  | .openState => setTracker .waitQuiet s
  | .one => setTracker .waitQuiet (dropConsent .discarded s)
  | .waitQuiet => s
  | .inactive => s

/-- A held consent given up, the tracker back to OPEN: the window's end, a port reset of its port, or a veto (R135, R136, R138). -/
def consentBackToOpen (mark : ConsentMark) (s : State) : State := setTracker .openState (dropConsent mark s)

/-- A change of sequence state: the SEQUENCE record, with D as it stands, and the SEQUENCE notice (R113). -/
def setSequence (new : SeqState) (s : State) : State :=
  let old := s.seq.state
  raiseAll .sequence (post (.sequence old new s.seq.depth) { s with seq.state := new })

/-- The Sequencer enters HALTED, and the tracker begins (R120, R132). -/
def enterHalted (s : State) : State := trackerEnterHalted (setSequence .halted s)

/-- The Sequencer enters SHEDDING; out of HALTED the tracker ends (R113, R132), its CONSENT record after the SEQUENCE record (log 41). -/
def setShedding (s : State) : State := trackerLeaveHalted (setSequence .shedding s)

end Sys2Proof.Machine
end

