-- ==== Sys2Proof/Machine/Sequencer.lean ====
section
/-! DEFINITION. The Sequencer: events (R114 to R118), the shed chain (R119 to R126), enforcement (R128), the restart chain (R142 to R148), the restore gate (R149, R150), the abort and the veto stop (R152, R154), and the loop that lets each follow from the last. -/

namespace Sys2Proof.Machine

/-! ### Events -/

/-- The HEALTHY stations, in order. -/
def State.healthyStations (s : State) : List (Fin 6) :=
  (List.finRange 6).filter (fun i => s.siu[i].health == .healthy)

/-- The greatest index among HEALTHY stations, or 0 when none is HEALTHY (R27, R31). -/
def State.greatestIndex (s : State) : Nat := s.healthyStations.foldl (fun m i => max m s.mev.evals[i].index) 0

/-- An evaluation record with its peaks reset (R27). -/
def StationEval.resetPeaks (e : StationEval) : StationEval := { e with peakShaking := 0, peakIndex := e.index }

/-- All peaks reset at the opening of an event, and free to rise again (R27; log 48). -/
def resetPeaks (s : State) : State :=
  let e := s.mev.evals
  { s with
    mev.evals := #v[e[0].resetPeaks, e[1].resetPeaks, e[2].resetPeaks, e[3].resetPeaks, e[4].resetPeaks, e[5].resetPeaks]
    mev.peakLevel := s.mev.level
    mev.peakHealthy := s.greatestIndex
    mev.peaksStand := false }

/-- An event opens (R114): event open and D 0, shed statuses, pointer and timers, peaks, EVENT OPENED with the SEQUENCE
notice (R113), and the shed target (R116). -/
def openEvent (s : State) : State :=
  let s := { s with
    seq.eventOpen := true
    seq.depth := 0
    seq.shedStatus := Vector.replicate 48 .notStarted
    seq.pointer := 0
    seq.shedDelay := none
    seq.shedTimeout := none }
  let s := resetPeaks s
  let s := raiseAll .sequence (post (.event true s.mev.level s.greatestIndex) s)
  { s with seq.target := max s.seq.depth (s.pls.active.depth s.mev.level) }

/-- The DT lines released at the close of an event, in line order, each with its record (R41). -/
def releaseLine (l : Fin 4) (s : State) : State :=
  if s.dtu.lines[l] then post (.dt l false) { s with dtu.lines := s.dtu.lines.set l false } else s

/-- Every ASSERTED line released, in line order (R41; log 35). -/
def releaseLines (s : State) : State := releaseLine 3 (releaseLine 2 (releaseLine 1 (releaseLine 0 s)))

/-! ### The shed chain -/

/-- R122 for one point: what the start of a shed step does with it, by its state. -/
def shedStepPoint (s : State) (p : Fin 64) : State :=
  match s.pointState p with
  | .locked => s
  | .shed => s
  | .unused => s
  | .await => s
  | .energised =>
    match s.flc.motion[p] with
    | .inFlight _ => wantShed p .orderDone s
    | .empty =>
      if s.pls.active.points[p].mode = .warnThenOpen ∧ s.mev.level ≠ .severe then
        movePoint p .warning .orderDone (placeMotion .warn p s)
      else wantShed p .orderDone s
    | .pending _ => wantShed p .orderDone s
  | .failed => wantShed p .orderDone s
  | .unknown => wantShed p .orderDone s
  | .settling => wantShed p .orderDone s
  | .warning =>
    match s.flc.motion[p] with
    | .inFlight _ => wantShed p .orderDone s
    | .empty => s
    | .pending _ => s
  | .warned => s
  | .opening =>
    match s.flc.motion[p] with
    | .inFlight _ => wantShed p .orderDone s
    | .empty => s
    | .pending _ => s
  | .closing =>
    match s.flc.motion[p] with
    | .inFlight _ => wantShed p .orderDone s
    | .empty => s
    | .pending _ => s

/-- A step's status set; past step 47 there is none. -/
def setStatusAt (v : Vector StepStatus 48) (k : Nat) (st : StepStatus) : Vector StepStatus 48 :=
  if h : k < 48 then v.set k st else v

/-- A step's status; past step 47 there is none, which reads NOT_STARTED. -/
def statusAt (v : Vector StepStatus 48) (k : Nat) : StepStatus := if h : k < 48 then v[k] else .notStarted

/-- A delay timer's start: it runs only for a TIMER step, and not for a delay of 0 s, whose step is DONE at its start (R121, R124). -/
def delayStart (w : Wait) (delay : Nat) : Option Nat := if w = .timer ∧ delay ≠ 0 then some (delay * 1000) else none

/-- A shed step starts (R121). Its wait kind is evaluated by `settle`. -/
def startShedStep (k : Nat) (s : State) : State :=
  let h := s.pls.active.shedStep k
  let s := post (.step .shed k .started) { s with seq.shedStatus := setStatusAt s.seq.shedStatus k .running }
  let s := { s with seq.shedTimeout := some (h.timeout * 1000), seq.shedDelay := delayStart h.wait h.delay }
  h.points.foldl shedStepPoint s

/-- A point finished for a shed step: SHED, LOCKED or FAILED (R123). -/
def PointState.shedFinished : PointState → Bool
  | .shed => true
  | .locked => true
  | .failed => true
  | _ => false

/-- Whether shed step `k` is the running one. -/
def State.shedRunning (s : State) (k : Nat) : Bool :=
  s.seq.state == .shedding && statusAt s.seq.shedStatus k == .running

/-- Whether the wait kind of shed step `k` is met without a timer's expiry (R123, R124). -/
def State.shedMet (s : State) (k : Nat) : Bool :=
  let h := s.pls.active.shedStep k
  match h.wait with
  | .points => h.points.all (fun p => (s.pointState p).shedFinished)
  | .timer => h.delay == 0
  | .none => true

/-- What follows a shed step's DONE (R126): its status and timers, D, the pointer, and then the next step or HALTED (R120). -/
def afterShedDone (k : Nat) (s : State) : State :=
  let s := { s with
    seq.shedStatus := setStatusAt s.seq.shedStatus k .done
    seq.shedDelay := none
    seq.shedTimeout := none
    seq.depth := max s.seq.depth (k + 1)
    seq.pointer := k + 1 }
  if k + 1 < s.seq.target then startShedStep (k + 1) s else enterHalted s

/-- A shed step becomes DONE by its wait kind: the STEP record, then R126. -/
def shedStepDone (k : Nat) (s : State) : State := afterShedDone k (post (.step .shed k .done) s)

/-- A manual restore withdrawn when WATCH ends: a manual point in AWAIT, or with its RESTORE pending, becomes SHED (R83). -/
def withdrawManual (s : State) (p : Fin 64) : State :=
  if s.ptm.points[p].manual then
    match s.pointState p with
    | .await => cancelPoint p s
    | .closing => if s.flc.motion[p] = .pending .restore then cancelPoint p s else s
    | _ => s
  else s

/-- The Sequencer enters SHEDDING from WATCH: the SEQUENCE record, the manual restores, then H0 (R119). -/
def shedFromWatch (s : State) : State :=
  let s := setShedding { s with seq.pointer := 0 }
  startShedStep 0 (allPoints.foldl withdrawManual s)

/-- The Sequencer enters SHEDDING from HALTED: the step at D starts (R119). -/
def shedFromHalted (s : State) : State :=
  let s := setShedding { s with seq.pointer := s.seq.depth }
  startShedStep s.seq.depth s

/-- The check of R119: a shed target above D in WATCH or HALTED. -/
def checkShedding (s : State) : State :=
  if s.seq.depth < s.seq.target then
    match s.seq.state with
    | .watch => shedFromWatch s
    | .halted => shedFromHalted s
    | .startup => s
    | .noPlan => s
    | .shedding => s
    | .restarting => s
  else s

/-- An event closes (R118): the EVENT record and the SEQUENCE notice, event open no, D and target 0, the peaks left standing (R27;
log 48), the DT lines, the TRIP_ALL flag; above QUIET a new event opens at once, and in WATCH it may start shedding. -/
def closeEvent (s : State) : State :=
  let s := raiseAll .sequence (post (.event false s.mev.peakLevel s.mev.peakHealthy) s)
  let s := releaseLines { s with seq.eventOpen := false, seq.depth := 0, seq.target := 0, mev.peaksStand := true }
  let s := { s with flc.tripSent := false }
  if s.mev.level = .quiet then s else checkShedding (openEvent s)

/-- The quiet rule of R117, at quiet reached. -/
def quietRule (s : State) : State :=
  if (s.seq.state = .watch ∨ s.seq.state = .noPlan) ∧ s.seq.eventOpen = true ∧ s.seq.depth = 0 ∧ s.mev.level = .quiet then
    closeEvent s
  else s

/-- Whether a point is listed in a shed step numbered below `d` (R128). -/
def Plan.listedBelow (pl : Plan) (d : Nat) (p : Fin 64) : Bool := (pl.shedSteps.take d).any (fun h => h.points.contains p)

/-- Enforcement at a point that has become ENERGISED with cause FEEDBACK or LOCKOUT (R128). -/
def enforce (p : Fin 64) (s : State) : State :=
  if (s.seq.state = .shedding ∨ s.seq.state = .halted) ∧ s.inUse p = true ∧ s.pointState p = .energised
      ∧ (s.ptm.points[p].cause = .feedback ∨ s.ptm.points[p].cause = .lockout)
      ∧ s.pls.active.listedBelow s.seq.depth p = true then
    wantShed p .enforced s
  else s

/-- Enforcement at the start-up decision: every in-use ENERGISED point of the shed chain (R111, R128). -/
def enforceAtStart (s : State) (p : Fin 64) : State :=
  if s.inUse p = true ∧ s.pointState p = .energised ∧ s.pls.active.listedBelow s.seq.depth p = true then
    wantShed p .enforced s
  else s

/-- The statuses after the start-up decision: every present shed step DONE (R111). -/
def allDone (v : Vector StepStatus 48) (n : Nat) : Vector StepStatus 48 :=
  (List.range n).foldl (fun v k => setStatusAt v k .done) v

/-- The start-up decision (R111). The chain's ENERGISED points are enforced in point order (log 35). -/
def startupDecision (s : State) : State :=
  let shed := allPoints.any (fun p => s.inUse p && s.pointState p == .shed)
  if shed || s.dtu.lines.toList.any id then
    let s := if s.seq.eventOpen then s else openEvent s
    let n := s.pls.active.shedLen
    let s := { s with
      seq.depth := n
      seq.pointer := n
      seq.target := n
      seq.shedStatus := allDone s.seq.shedStatus n }
    allPoints.foldl enforceAtStart (enterHalted s)
  else
    let s := setSequence .watch s
    if s.seq.depth < s.seq.target then shedFromWatch s
    else if s.seq.eventOpen = true ∧ s.mev.level = .quiet ∧ s.quietLongEnough = true then closeEvent s
    else s

/-- The start-up decision is made when the poll round of POLLING has no mark outstanding (R103, R111). -/
def checkRound (s : State) : State :=
  if s.seq.state = .startup ∧ s.seq.phase = .polling ∧ s.flc.marks.toList.any id = false then startupDecision s else s

/-! ### The restart chain -/

/-- A point placed at the restore gate by a restart step: AWAIT, button seen no, cause ORDER_DONE (R143, R144). -/
def placeAwait (p : Fin 64) (s : State) : State := movePoint p .await .orderDone s

/-- R143 for one point: what the start of a restart step does with it, by its state. -/
def restartStepPoint (s : State) (p : Fin 64) : State :=
  match s.pointState p with
  | .locked => post (.point p .locked .locked .lockout) s
  | .shed => placeAwait p s
  | .failed => placeAwait p s
  | .unknown => placeAwait p s
  | .energised => s
  | .closing => s
  | .settling => s
  | .warning => s
  | .warned => s
  | .opening => s
  | .await => s
  | .unused => s

/-- A restart step starts (R143). Its wait kind is evaluated by `settle`. -/
def startRestartStep (k : Nat) (s : State) : State :=
  let r := s.pls.active.restartStep k
  let s := post (.step .restart k .started) { s with seq.restartStatus := setStatusAt s.seq.restartStatus k .running }
  let s := { s with seq.restartTimeout := some (r.timeout * 1000), seq.restartDelay := delayStart r.wait r.delay }
  r.points.foldl restartStepPoint s

/-- A point finished for a restart step: ENERGISED, LOCKED or FAILED (R145). -/
def PointState.restartFinished : PointState → Bool
  | .energised => true
  | .locked => true
  | .failed => true
  | _ => false

/-- Whether restart step `k` is the running one. -/
def State.restartRunning (s : State) (k : Nat) : Bool :=
  s.seq.state == .restarting && statusAt s.seq.restartStatus k == .running

/-- Whether the wait kind of restart step `k` is met without a timer's expiry (R145). -/
def State.restartMet (s : State) (k : Nat) : Bool :=
  let r := s.pls.active.restartStep k
  match r.wait with
  | .points => r.points.all (fun p => (s.pointState p).restartFinished)
  | .timer => r.delay == 0
  | .none => true

/-- What follows a restart step's DONE (R147): its status and timers, the pointer, and the next step; completion is
evaluated by `settle`. -/
def afterRestartDone (k : Nat) (s : State) : State :=
  let s := { s with
    seq.restartStatus := setStatusAt s.seq.restartStatus k .done
    seq.restartDelay := none
    seq.restartTimeout := none
    seq.restartPointer := k + 1 }
  if k + 1 < s.pls.active.restartLen then startRestartStep (k + 1) s else s

/-- A restart step becomes DONE by its wait kind: the STEP record, then R147. -/
def restartStepDone (k : Nat) (s : State) : State := afterRestartDone k (post (.step .restart k .done) s)

/-- Whether the restart is complete (R148): the pointer at the chain's length, and no point in AWAIT, CLOSING or SETTLING. -/
def State.restartComplete (s : State) : Bool :=
  s.seq.state == .restarting && decide (s.pls.active.restartLen ≤ s.seq.restartPointer)
    && allPoints.all (fun p => s.pointState p != .await && !(s.pointState p).counts)

/-- The completion of a restart: WATCH, then the event closes (R148). -/
def completeRestart (s : State) : State := closeEvent (setSequence .watch s)

/-- The restart begins at the grant (R142); an empty chain completes by `settle`. -/
def beginRestart (s : State) : State :=
  let s := { s with
    seq.restartStatus := Vector.replicate 48 .notStarted
    seq.restartPointer := 0
    seq.restartDelay := none
    seq.restartTimeout := none }
  if 0 < s.pls.active.restartLen then startRestartStep 0 s else s

/-! ### The restore gate -/

/-- The rank of an AWAIT point in gate order: in WATCH its number, else the number of its restart step and then its own (R149). -/
def State.gateRank (s : State) (p : Fin 64) : Nat :=
  if s.seq.state = .watch then p.val else (s.pls.active.restartStepOf p).getD 48 * 64 + p.val

/-- Whether an AWAIT point may be restored: unless its restart step requires the button and its button seen is no; a manual
point always may (R149). Its motion slot must be EMPTY for the post of R150, which an order in flight from before the point left
use and came back can hold up (log 19). -/
def State.gateEligible (s : State) (p : Fin 64) : Bool :=
  s.pointState p == .await && s.flc.motion[p] == .empty
    && (s.ptm.points[p].manual || !s.pls.active.buttonRequired p || s.ptm.points[p].buttonSeen)

/-- The head of the gate: the first eligible point in gate order (R149). -/
def State.gateHead (s : State) : Option (Fin 64) :=
  allPoints.foldl (fun best p =>
    if s.gateEligible p then
      match best with
      | none => some p
      | some q => if s.gateRank p < s.gateRank q then some p else some q
    else best) none

/-- Whether the gate is open: in RESTARTING, and in WATCH, where only manual points wait (R150). -/
def State.gateOpen (s : State) : Bool := s.seq.state == .restarting || s.seq.state == .watch

/-- Whether a point's weight fits in the inrush budget beside the inrush in use (R149). -/
def State.gateFits (s : State) (p : Fin 64) : Bool :=
  decide (s.ptm.inrush + s.pls.active.points[p].weight ≤ s.pls.active.params.inrushBudget)

/-- The point for which the gate posts a RESTORE now, if the four conditions hold (R149). -/
def State.gateAdmits (s : State) : Option (Fin 64) :=
  if s.gateOpen && !s.flc.restoreOutstanding && s.flc.spacing.isNone then
    match s.gateHead with
    | some p => if s.gateFits p then some p else none
    | none => none
  else none

/-- The gate posts a RESTORE for a point, which becomes CLOSING (R150). -/
def gatePost (p : Fin 64) (s : State) : State := movePoint p .closing .orderDone (placeMotion .restore p s)

/-! ### What follows of itself -/

/-- One thing that follows from the state as it stands: the running shed step is met (R123, R124), the running restart step is
met (R145), the restart is complete (R148), or the gate admits a point (R150), in this order (log 7). -/
def settleOnce (s : State) : Option State :=
  if s.shedRunning s.seq.pointer && s.shedMet s.seq.pointer then some (shedStepDone s.seq.pointer s)
  else if s.restartRunning s.seq.restartPointer && s.restartMet s.seq.restartPointer then
    some (restartStepDone s.seq.restartPointer s)
  else if s.restartComplete then some (completeRestart s)
  else match s.gateAdmits with
    | some p => some (gatePost p s)
    | none => none

/-- `settleOnce` until nothing follows, at most `n` times. -/
def settleFor : Nat → State → State
  | 0, s => s
  | n + 1, s =>
    match settleOnce s with
    | none => s
    | some s' => settleFor n s'

/-- More than the things that can follow one another: 48 restart steps, a completion, and 48 shed steps of a new event, with a
gate post (log 7). -/
def settleFuel : Nat := 200

/-- Everything that follows of itself. -/
def settle (s : State) : State := settleFor settleFuel s

/-! ### Abort and veto stop -/

/-- The running restart step, if any, is STOPPED and its timers stop; the pointer stands (R152, R154). -/
def stopRestartStep (s : State) : State :=
  if s.restartRunning s.seq.restartPointer then
    { s with
      seq.restartStatus := setStatusAt s.seq.restartStatus s.seq.restartPointer .stopped
      seq.restartDelay := none
      seq.restartTimeout := none }
  else s

/-- A point in CLOSING whose RESTORE is pending is cancelled (R152, R154). -/
def cancelPendingRestore (s : State) (p : Fin 64) : State :=
  if s.pointState p = .closing ∧ s.flc.motion[p] = .pending .restore then cancelPoint p s else s

/-- A point in CLOSING whose RESTORE is in flight has a SHED wanted, and the order is marked as the abort's (R152; log 38). -/
def shedInFlightRestore (s : State) (p : Fin 64) : State :=
  if s.pointState p = .closing ∧ s.flc.motion[p] = .inFlight .restore then
    { wantShed p .orderDone s with flc.aborted := true }
  else s

/-- A point in AWAIT leaves the gate (R152, R154). -/
def cancelAwait (s : State) (p : Fin 64) : State := if s.pointState p = .await then cancelPoint p s else s

/-- The abort of a restart (R152). The points of each of its items are taken in point order (log 35). -/
def abortRestart (s : State) : State :=
  let s := stopRestartStep s
  let s := allPoints.foldl cancelPendingRestore s
  let s := allPoints.foldl shedInFlightRestore s
  let s := allPoints.foldl cancelAwait s
  let s := setShedding s
  let s := { s with
    seq.shedStatus := Vector.replicate 48 .notStarted
    seq.pointer := 0
    seq.target := max s.seq.depth (s.pls.active.depth s.mev.level) }
  startShedStep 0 s

/-- A veto stops the restart (R154): HALTED, and SHEDDING again if the target has risen above D. The points of each of its items are
taken in point order (log 35). -/
def vetoStop (s : State) : State :=
  let s := stopRestartStep s
  let s := allPoints.foldl cancelPendingRestore s
  let s := allPoints.foldl cancelAwait s
  checkShedding (enterHalted s)

/-! ### A change of device level at the Sequencer -/

/-- A point's grace cut at a change to SEVERE (R127). -/
def cutGrace (s : State) (p : Fin 64) : State :=
  if s.inUse p = true ∧ (s.pointState p = .warned ∨ s.pointState p = .warning) then wantShed p .orderDone s else s

/-- The event and the target at a change of device level (R114, R116). -/
def eventAtLevel (s : State) : State :=
  if s.seq.eventOpen then { s with seq.target := max s.seq.target (s.pls.active.depth s.mev.level) }
  else if s.mev.level = .quiet ∨ (s.seq.state = .startup ∧ s.seq.phase = .loading) then s
  else openEvent s

/-- The Sequencer takes a change of device level: the event and the target, the grace cut at SEVERE, in point order (log 35), and the
abort or the start of shedding, after the grace cut (R114, R116, R119, R127, R152; log 40). -/
def sequencerAtLevel (s : State) : State :=
  let s := eventAtLevel s
  let s := if s.mev.level = .severe then allPoints.foldl cutGrace s else s
  let s :=
    if s.seq.state = .restarting then
      if s.mev.level.atLeast s.pls.active.params.abortLevel then abortRestart s else s
    else checkShedding s
  settle s

end Sys2Proof.Machine
end

