-- ==== Sys2Proof/Machine/Motion.lean ====
section
/-! DEFINITION. The ground side: the arithmetic of a sample, station levels, the vote, the change of device level, quiet time and the blind timer (R18 to R41), and the station channels that feed them (R1 to R15). -/

namespace Sys2Proof.Machine

/-! ### From sample to excess (R19, R20) -/

/-- The three axis values of a sample, in mg, as the station sent them. -/
structure Sample where
  x : Int
  y : Int
  z : Int
deriving DecidableEq, Repr

/-- A signed axis value from its two bytes, low byte first (R1 section 1.2). -/
def axisOf (lo hi : Byte) : Int := (halfOf lo hi).toInt

/-- An axis value clamped to −4000..+4000 (R19). -/
def clampAxis (v : Int) : Int := max (-4000) (min 4000 v)

/-- The sample with each axis clamped (R19). -/
def Sample.clamp (a : Sample) : Sample := ⟨clampAxis a.x, clampAxis a.y, clampAxis a.z⟩

/-- The horizontal magnitude h (R20). -/
def horizontal (x y : Int) : Nat := max x.natAbs y.natAbs + min x.natAbs y.natAbs / 2

/-- The shaking value S of a clamped sample (R20). -/
def shaking (a : Sample) : Nat := max (horizontal a.x a.y) a.z.natAbs

/-- The excess e of a shaking value over the noise floor (R20). -/
def excess (shake floor : Nat) : Nat := shake - floor

/-! ### The window and the station level (R21 to R26) -/

/-- A peak raised to a greater value, unless the peaks stand between a close and the next opening (R26, R27; log 48). -/
def raisePeak (stand : Bool) (peak v : Nat) : Nat := if stand then peak else max peak v

/-- An arrival enters the window: the newest value is appended, the oldest of 100 leaves, and W and I follow, and the peak index
with I unless the peaks stand (R21, R26; log 48). -/
def StationEval.enter (stand : Bool) (v : Nat) (e : StationEval) : StationEval :=
  let full := decide (100 ≤ e.window.length)
  let sum := (if full then e.sum - e.window.headD 0 else e.sum) + v
  { e with
    window := (if full then e.window.drop 1 else e.window) ++ [v]
    sum := sum
    index := sum / 10
    peakIndex := raisePeak stand e.peakIndex (sum / 10) }

/-- The window clear (R21). The peaks stand (R26). -/
def StationEval.clear (e : StationEval) : StationEval :=
  { e with window := [], sum := 0, index := 0, level := .quiet, fallHold := 0 }

/-- The threshold of a level; QUIET has none and stands at 0 (R22). -/
def Params.threshold (p : Params) : Level → Nat
  | .quiet => 0
  | .tremor => p.t1
  | .strong => p.t2
  | .severe => p.t3

/-- The highest level whose threshold is at or below an index (R22). -/
def Params.levelOf (p : Params) (index : Nat) : Level :=
  if p.t3 ≤ index then .severe else if p.t2 ≤ index then .strong else if p.t1 ≤ index then .tremor else .quiet

/-- One step down (R23). -/
def Level.down : Level → Level
  | .quiet => .quiet
  | .tremor => .quiet
  | .strong => .tremor
  | .severe => .strong

/-- The fall point of a level (R23). -/
def Params.fallPoint (p : Params) (l : Level) : Nat := p.threshold l * 3 / 4

/-- The station level after an arrival: R22, then R23. -/
def StationEval.evaluate (p : Params) (e : StationEval) : StationEval :=
  if e.level.rank < (p.levelOf e.index).rank then { e with level := p.levelOf e.index, fallHold := 0 }
  else if e.level = .quiet then { e with fallHold := 0 }
  else if p.fallPoint e.level ≤ e.index then { e with fallHold := 0 }
  else if p.fallHold ≤ e.fallHold + 1 then { e with level := e.level.down, fallHold := 0 }
  else { e with fallHold := e.fallHold + 1 }

/-- The state with one evaluation record changed. -/
def State.modEval (s : State) (i : Fin 6) (f : StationEval → StationEval) : State :=
  { s with mev.evals := s.mev.evals.set i (f s.mev.evals[i]) }

/-- The state with one channel changed. -/
def State.modChannel (s : State) (i : Fin 6) (f : Channel → Channel) : State :=
  { s with siu := s.siu.set i (f s.siu[i]) }

/-! ### The vote (R28 to R32) -/

/-- The vote over the levels of the HEALTHY stations with vote count `k` (R29). -/
def vote (k : Nat) (levels : List Level) : Level :=
  let need := min k levels.length
  if need ≤ levels.countP (fun l => l.atLeast .severe) then .severe
  else if need ≤ levels.countP (fun l => l.atLeast .strong) then .strong
  else if need ≤ levels.countP (fun l => l.atLeast .tremor) then .tremor
  else .quiet

/-- The device level that the vote gives now (R29). -/
def State.votedLevel (s : State) : Level :=
  vote s.pls.active.params.voteCount (s.healthyStations.map (fun i => s.mev.evals[i].level))

/-- Quiet time set to 0; from a value above 0 this is quiet cleared (R34, R35). -/
def clearQuiet (s : State) : State :=
  let cleared := { s with mev.quiet := 0, mev.quietHanded := false }
  if 0 < s.mev.quiet then trackerQuietCleared cleared else cleared

/-- A RELEASED line asserted, if its assigned level is met by the device level (R40). -/
def assertLine (l : Fin 4) (s : State) : State :=
  let assigned := s.pls.active.params.dtLevels[l]
  if s.dtu.lines[l] = false ∧ assigned ≠ .quiet ∧ s.mev.level.atLeast assigned = true then
    post (.dt l true) { s with dtu.lines := s.dtu.lines.set l true }
  else s

/-- Every line compared with the device level, in line order (R40; log 35). -/
def assertLines (s : State) : State := assertLine 3 (assertLine 2 (assertLine 1 (assertLine 0 s)))

/-- The NO_PLAN trip (R105). -/
def noPlanTrip (s : State) : State :=
  if s.mev.level = .severe ∧ s.seq.state = .noPlan ∧ s.flc.tripSent = false then
    postTripAll { s with flc.tripSent := true }
  else s

/-- The device level changes (R31), and the peak level rises with it unless the peaks stand (R27; log 48). The hand-overs are taken in
the order DTU, Sequencer, FLC (log 6). -/
def changeLevel (new : Level) (s : State) : State :=
  let old := s.mev.level
  let s := { s with mev.level := new }
  let s := raiseAll .level (post (.level old new s.mev.healthy s.greatestIndex) s)
  let s := if s.mev.peaksStand = false ∧ s.mev.peakLevel.rank < new.rank then { s with mev.peakLevel := new } else s
  let s := if new = .quiet then s else clearQuiet s
  noPlanTrip (sequencerAtLevel (assertLines s))

/-- The device level recomputed; while H is 0 it is held (R30, R32). -/
def recompute (s : State) : State :=
  if s.mev.healthy = 0 then s
  else if s.votedLevel = s.mev.level then s
  else changeLevel s.votedLevel s

/-! ### Health changes (R15, R28, R33) -/

/-- What a change of H from or to 0 does: the blind timer, BLIND, and quiet time (R33, R34). `h` is H before. -/
def healthyCountEdge (h : Nat) (s : State) : State :=
  if h = 0 ∧ s.mev.healthy ≠ 0 then
    let s := { s with mev.blindTimer := none }
    if s.mev.blind then reportFalse .blind { s with mev.blind := false } else s
  else if h ≠ 0 ∧ s.mev.healthy = 0 then
    clearQuiet { s with mev.blindTimer := some 0 }
  else s

/-- The peak healthy index raised by the index of a station, if it is HEALTHY and the peaks do not stand (R27; log 48). -/
def raisePeakHealthy (i : Fin 6) (s : State) : State :=
  if s.siu[i].health = .healthy then
    { s with mev.peakHealthy := raisePeak s.mev.peaksStand s.mev.peakHealthy s.mev.evals[i].index }
  else s

/-- A health change as the MEV takes it: H, the peak healthy index, the edges of H, and the vote (R27, R28, R30, R33). -/
def healthChange (i : Fin 6) (s : State) : State :=
  let h := s.mev.healthy
  let s := { s with mev.healthy := s.healthyStations.length }
  recompute (healthyCountEdge h (raisePeakHealthy i s))

/-- A change of a channel's health state: the STATION record, then the hand-over to the MEV with its records (R14, R15; log 34). -/
def setHealth (i : Fin 6) (new : Health) (s : State) : State :=
  let old := s.siu[i].health
  let s := s.modChannel i (fun c => { c with health := new })
  healthChange i (post (.station i old new) s)

/-! ### Arrivals (R11, R14, R21) -/

/-- The vote after a change of a station's level, if the station is HEALTHY (R30). -/
def revote (i : Fin 6) (old : Level) (s : State) : State :=
  if s.siu[i].health = .healthy ∧ s.mev.evals[i].level ≠ old then recompute s else s

/-- The window of a station cleared (R21, R30). -/
def clearWindow (i : Fin 6) (s : State) : State :=
  revote i s.mev.evals[i].level (s.modEval i StationEval.clear)

/-- The settle count after an arrival in SETTLING, and HEALTHY at 100 (R11). -/
def settleArrival (i : Fin 6) (s : State) : State :=
  if s.siu[i].health = .settling then
    let s := s.modChannel i (fun c => { c with settle := min (c.settle + 1) 100 })
    if s.siu[i].settle = 100 then setHealth i .healthy s else s
  else s

/-- An excess value enters a station's window: window, peak index and peak healthy index, level, vote (R21 to R24, R26, R27,
R30; logs 20, 48). -/
def enterArrival (i : Fin 6) (v : Nat) (s : State) : State :=
  let s := raisePeakHealthy i (s.modEval i (StationEval.enter s.mev.peaksStand v))
  let old := s.mev.evals[i].level
  revote i old (s.modEval i (StationEval.evaluate s.pls.active.params))

/-- An arrival of an excess value at a station, and then the settle count (R21, R11). -/
def arrival (i : Fin 6) (v : Nat) (s : State) : State := settleArrival i (enterArrival i v s)

/-- The peak shaking value raised to a greater shaking value, unless the peaks stand (R26, R27; log 48). -/
def raisePeakShaking (i : Fin 6) (shake : Nat) (s : State) : State :=
  s.modEval i (fun r => { r with peakShaking := raisePeak s.mev.peaksStand r.peakShaking shake })

/-- A sample handed to the MEV: the clamp and its count, the excess returned to the channel, the window entry with the level and
the vote, the peak shaking value, which stands above an event that this sample opens (R27), and then the settle count (R14, R19,
R20, R26, R11). -/
def takeSample (i : Fin 6) (a : Sample) (s : State) : State :=
  let c := a.clamp
  let s := if c = a then s else s.modChannel i (fun ch => { ch with clamped := saturate (ch.clamped + 1) })
  let e := excess (shaking c) s.pls.active.stations[i].floor
  let s := s.modChannel i (fun ch => { ch with lastExcess := e })
  settleArrival i (raisePeakShaking i (shaking c) (enterArrival i e s))

/-- `n` fillers, each carrying the last accepted excess value (R8). -/
def takeFillers (i : Fin 6) : Nat → State → State
  | 0, s => s
  | n + 1, s => takeFillers i n (arrival i s.siu[i].lastExcess s)

/-! ### Frames (R2, R5 to R10) -/

/-- A frame counted as a check error, with FRAME_CHECK raised (R2). -/
def countCheckError (i : Fin 6) (s : State) : State :=
  raiseFault .frameCheck (.station i) (s.modChannel i (fun c => { c with checkErrors := saturate (c.checkErrors + 1) }))

/-- A sample that starts a new window: the window clear, the settle count, the sample and the sequence number (R9, R10). -/
def newWindow (i : Fin 6) (seq : Byte) (a : Sample) (s : State) : State :=
  let s := clearWindow i s
  let s := s.modChannel i (fun c => { c with settle := 0 })
  (takeSample i a s).modChannel i (fun c => { c with lastSeq := some seq })

/-- A station starts settling (R10). -/
def startSettling (i : Fin 6) (seq : Byte) (a : Sample) (s : State) : State :=
  newWindow i seq a (setHealth i .settling s)

/-- A station resettles (R9). -/
def resettle (i : Fin 6) (seq : Byte) (a : Sample) (s : State) : State :=
  let s := s.modChannel i (fun c => { c with resettles := saturate (c.resettles + 1) })
  newWindow i seq a (if s.siu[i].health = .healthy then setHealth i .settling s else s)

/-- The gap g of R7, (new − last − 1) mod 256. -/
def gapOf (last new : Byte) : Nat := (new - last - 1).toNat

/-- A valid frame of a SETTLING or HEALTHY station: a duplicate, in order, a short gap, or a long one (R6 to R9). -/
def continueWindow (i : Fin 6) (seq : Byte) (a : Sample) (s : State) : State :=
  match s.siu[i].lastSeq with
  | none => resettle i seq a s
  | some last =>
    if seq = last then s.modChannel i (fun c => { c with duplicates := saturate (c.duplicates + 1) })
    else
      let g := gapOf last seq
      if 5 ≤ g then resettle i seq a s
      else
        let s := s.modChannel i (fun c => { c with gapFills := saturate (c.gapFills + g) })
        (takeSample i a (takeFillers i g s)).modChannel i (fun c => { c with lastSeq := some seq })

/-- A valid frame, by the channel's health state; it first restarts the gap timer (R5). -/
def validFrame (i : Fin 6) (seq : Byte) (a : Sample) (s : State) : State :=
  let s := s.modChannel i (fun c => { c with gap := some 200 })
  match s.siu[i].health with
  | .offline => startSettling i seq a s
  | .lost => startSettling i seq a s
  | .settling => continueWindow i seq a s
  | .healthy => continueWindow i seq a s
  | .disabled => s

/-- The four checks of a complete frame, in order (R2). -/
def checkFrame (i : Fin 6) (bytes : List Byte) (bad : Bool) (s : State) : State :=
  if bad || !checkHolds bytes then countCheckError i s
  else match bytes with
    | [_, id, seq, st, xl, xh, yl, yh, zl, zh, _, _] =>
      if st ≠ 0 ∧ st ≠ 1 then countCheckError i s
      else if id.toNat ≠ i.val then s.modChannel i (fun c => { c with foreign := saturate (c.foreign + 1) })
      else if st = 1 then s.modChannel i (fun c => { c with selfTest := saturate (c.selfTest + 1) })
      else validFrame i seq ⟨axisOf xl xh, axisOf yl yh, axisOf zl zh⟩ s
    | _ => s

/-- A byte at a sensor port; while the channel is DISABLED the receiver is off (R1). -/
def sensorByte (i : Fin 6) (s : State) (b : LineByte) : State :=
  if s.siu[i].health = .disabled then s
  else
    let r := s.siu[i].rx.feed 0xc3 12 b
    let s := s.modChannel i (fun c => { c with rx := r.1 })
    match r.2 with
    | none => s
    | some f => checkFrame i f.1 f.2 s

/-- The bytes of an optional operand. -/
def optionBytes : Option LineByte → List LineByte
  | none => []
  | some b => [b]

/-- A partial frame abandoned by an idle: counted and raised as a check error, and the receiver hunts (R1, R2). -/
def abandonFrame (i : Fin 6) (s : State) : State :=
  match s.siu[i].rx with
  | .hunt => s
  | .collect _ _ => countCheckError i (s.modChannel i (fun c => { c with rx := .hunt }))

/-- SENSOR_FRAME: bytes arrive on a sensor port (R1, R2, R5 to R11; log 4). -/
def execSensorFrame (i : Fin 6) (bytes : List LineByte) (s : State) : Host.Outcome State Fault Refusal :=
  .next (bytes.foldl (sensorByte i) s)

/-- SENSOR_IDLE_ABANDON: an idle of more than 1 ms, and the byte that ends it, treated in HUNT (R1). -/
def execSensorIdleAbandon (i : Fin 6) (next : Option LineByte) (s : State) : Host.Outcome State Fault Refusal :=
  .next (if s.siu[i].health = .disabled then s else (optionBytes next).foldl (sensorByte i) (abandonFrame i s))

/-- GAP_TIMER_EXPIRY: a SETTLING or HEALTHY station becomes LOST, with STATION_LOST if it was HEALTHY (R12). The fault is raised
last, after the records of the health change (log 34). -/
def gapExpiry (i : Fin 6) (s : State) : State :=
  let old := s.siu[i].health
  if s.siu[i].gap.isSome ∧ (old = .settling ∨ old = .healthy) then
    let s := setHealth i .lost (s.modChannel i (fun c => { c with gap := none }))
    if old = .healthy then raiseFault .stationLost (.station i) s else s
  else s

/-- GAP_TIMER_EXPIRY (R12). -/
def execGapTimerExpiry (i : Fin 6) (s : State) : Host.Outcome State Fault Refusal := .next (gapExpiry i s)

/-- BLIND_TIMER_EXPIRY: the running blind timer reaches 2000 ms and BLIND becomes true (R33). -/
def execBlindTimerExpiry (s : State) : Host.Outcome State Fault Refusal :=
  .next (if s.mev.blindTimer.isSome ∧ s.mev.blind = false then
      reportTrue .blind .none { s with mev.blindTimer := some 2000, mev.blind := true }
    else s)

/-- Whether quiet time is growing and quiet reached has not been handed in this run (R34, R35). -/
def State.quietGrowing (s : State) : Bool :=
  s.mev.level == .quiet && decide (s.mev.healthy ≠ 0) && !s.mev.quietHanded

/-- QUIET_REACHED: quiet reached is handed to the Sequencer and the tracker (R35, R117, R132; log 33). -/
def execQuietReached (s : State) : Host.Outcome State Fault Refusal :=
  .next (if s.quietGrowing then
      trackerQuietReached (quietRule
        { s with mev.quiet := max s.mev.quiet s.pls.active.quietMs, mev.quietHanded := true })
    else s)

end Sys2Proof.Machine
end

