-- ==== Sys2Proof/Machine/Resolution.lean ====
section
/-! DEFINITION. How the Point Manager takes what the field loop brings: results (R69, R70), feedback (R74 to R76), the deferred SHED (R67), lamps, the hand-over to the Sequencer (R68, R79), and a station becoming UNREACHABLE (R77). -/

namespace Sys2Proof.Machine

/-- The result of an order (f04 section 4.4). -/
inductive Result where
  | done | refusedLocked | outputFault | noReply
deriving DecidableEq, Repr

/-- The result byte of a reply frame (f11 section 11.3). -/
def resultOf (b : Byte) : Option Result :=
  if b = 0 then some .done else if b = 1 then some .refusedLocked else if b = 2 then some .outputFault else none

/-- The cause that a result gives (R69, R70). -/
def Result.cause : Result → Cause
  | .done => .orderDone
  | .refusedLocked => .refused
  | .outputFault => .outputFault
  | .noReply => .noReply

/-- An output status of a reply (f11 section 11.3): true for CLOSED, lockout OPEN, latch set, relay ON. -/
structure OutputStatus where
  closed : Bool
  lockOpen : Bool
  button : Bool
  relayOn : Bool
deriving DecidableEq, Repr

/-- The status that a byte holds; bits 4 to 7 are not read (f11 section 11.3). -/
def outputStatus (b : Byte) : OutputStatus := ⟨b.getLsbD 0, b.getLsbD 1, b.getLsbD 2, b.getLsbD 3⟩

/-! ### Results -/

/-- A WARN DONE: WARNED with its grace running, or, with a grace of 0 s, OPENING at once (R69, R72). -/
def warnDone (p : Fin 64) (s : State) : State :=
  let g := s.pls.active.points[p].grace
  if g = 0 then wantShedBare p .orderDone s
  else (changePoint p .warned .orderDone s).modPoint p (fun e => { e with grace := some (g * 1000) })

/-- A RESTORE DONE: SETTLING with its settle timer running, or, with a settle time of 0 s, ENERGISED (R69, R73). -/
def restoreDone (p : Fin 64) (s : State) : State :=
  let t := s.pls.active.points[p].settle
  if t = 0 then changePoint p .energised .orderDone s
  else (changePoint p .settling .orderDone s).modPoint p (fun e => { e with settle := some (t * 1000) })

/-- A DONE at a point, by the order's kind (R69). -/
def resultDone (k : MotionKind) (p : Fin 64) (s : State) : State :=
  match k with
  | .warn => warnDone p s
  | .shed => changePoint p .shed .orderDone s
  | .restore => restoreDone p s

/-- A NO_REPLY at a point, by the order's kind (R70); the POINT record comes before the FAULT record (log 36). -/
def resultNoReply (k : MotionKind) (p : Fin 64) (s : State) : State :=
  match k with
  | .warn => wantShedBare p .noReply s
  | .shed => raiseFault .loopNoReply (.point p) (changePoint p .failed .noReply s)
  | .restore => raiseFault .loopNoReply (.point p) (changePoint p .failed .noReply s)

/-- A result at the point of its motion order (R69, R70); the POINT record comes before the FAULT record (log 36). -/
def resultAt (k : MotionKind) (p : Fin 64) (r : Result) (s : State) : State :=
  match r with
  | .done => resultDone k p s
  | .refusedLocked => changePoint p .locked .refused s
  | .outputFault => raiseFault .outputFault (.point p) (changePoint p .failed .outputFault s)
  | .noReply => resultNoReply k p s

/-- Step 1 of R68: the result; nothing for a point that has left use since the post (log 19), for which no OUTPUT_FAULT or LOOP_NO_REPLY
is raised either (R69, R175; log 47), or for a LAMP or POLL (R71). -/
def applyResult (f : InFlight) (r : Result) (s : State) : State :=
  match f.order with
  | .motion k p => if f.voided || s.pointState p == .unused then s else resultAt k p r s
  | .lamp _ _ => s
  | .poll _ => s
  | .tripAll => s

/-! ### Feedback -/

/-- The state that a contact shows (R74, R75). -/
def shownState (closed : Bool) : PointState := if closed then .energised else .shed

/-- A point that feedback finds moved, with EXTERNAL_CHANGE (R75); the POINT record comes before the FAULT record (log 36). -/
def externalChange (p : Fin 64) (new : PointState) (s : State) : State :=
  raiseFault .externalChange (.point p) (changePoint p new .feedback s)

/-- The contact compared with the state (R75), also of a point that the same reply's OUTPUT_FAULT has made FAILED, whether or not its
deferred SHED waits (log 38). -/
def compareContact (p : Fin 64) (closed : Bool) (s : State) : State :=
  match s.pointState p with
  | .energised => if closed then s else externalChange p .shed s
  | .warned => if closed then s else externalChange p .shed s
  | .settling => if closed then s else externalChange p .shed s
  | .shed => if closed then externalChange p .energised s else s
  | .await => if closed then externalChange p .energised s else s
  | .failed => changePoint p (shownState closed) .feedback s
  | .warning => s
  | .opening => s
  | .closing => s
  | .unused => s
  | .unknown => s
  | .locked => s

/-- The lockout applied (R74), and, where it changes nothing, the contact compared (R75). -/
def applyLockout (p : Fin 64) (o : OutputStatus) (s : State) : State :=
  if o.lockOpen then
    if s.pointState p = .locked ∨ s.pointState p = .unused then s else changePoint p .locked .lockout (withdraw p s)
  else match s.pointState p with
    | .locked => changePoint p (shownState o.closed) .lockout s
    | .unknown => changePoint p (shownState o.closed) .feedback s
    | _ => compareContact p o.closed s

/-- A reported button latch, taken against the state after R74 and R75 (R76). -/
def applyButton (p : Fin 64) (o : OutputStatus) (s : State) : State :=
  if o.button = true ∧ s.pointState p = .await then s.modPoint p (fun e => { e with buttonSeen := true }) else s

/-- Step 2 of R68 for one point of the replying station: nothing for a point not in use (R74 to R76). -/
def feedbackAt (o : OutputStatus) (p : Fin 64) (s : State) : State :=
  if s.inUse p then
    let s := s.modPoint p (fun e =>
      { e with
        contact := if o.closed then .closed else .opened
        lockout := if o.lockOpen then .opened else .normal
        relay := if o.relayOn then .on else .off })
    applyButton p o (applyLockout p o s)
  else s

/-- Step 2 of R68: the four output statuses, point by point in output order (log 37); a NO_REPLY brings none. -/
def feedback (st : Fin 16) (outs : Option (Vector OutputStatus 4)) (s : State) : State :=
  match outs with
  | none => s
  | some v =>
    feedbackAt v[3] (pointAt st 3) (feedbackAt v[2] (pointAt st 2)
      (feedbackAt v[1] (pointAt st 1) (feedbackAt v[0] (pointAt st 0) s)))

/-! ### The deferred SHED, lamps and hand-over -/

/-- Whether the SHED is posted even for a point that the reply shows OPEN: the order is a RESTORE that was in flight at an abort, and it
has been answered OUTPUT_FAULT (R152 point 3; log 38). -/
def State.abortPosts (s : State) (k : MotionKind) (r : Result) : Bool := k == .restore && r == .outputFault && s.flc.aborted

/-- Step 3 of R68: the deferred SHED of the point whose order resolved (R67), and of a RESTORE that an abort met (R152; log 38). -/
def takeDeferred (f : InFlight) (r : Result) (s : State) : State :=
  match f.order with
  | .motion k p =>
    if s.ptm.points[p].deferred = false then s
    else
      let s := s.modPoint p (fun e => { e with deferred := false })
      match s.pointState p with
      | .locked => s
      | .shed => if s.abortPosts k r then wantShedBare p r.cause s else s
      | .unused => s
      | _ => wantShedBare p r.cause s
  | .lamp _ _ => s
  | .poll _ => s
  | .tripAll => s

/-- A point of the running restart step that has become SHED is placed in AWAIT at once (R144). -/
def rejoinGate (p : Fin 64) (s : State) : State :=
  if s.restartRunning s.seq.restartPointer = true ∧ s.pointState p = .shed
      ∧ (s.pls.active.restartStep s.seq.restartPointer).points.contains p = true then
    placeAwait p s
  else s

/-- Step 5 of R68 for one point: a change of state handed to the Sequencer (R79): enforcement and R144. Only the net change of the
reply is handed over (log 39). -/
def handOver (before : Vector PointEntry 64) (s : State) (p : Fin 64) : State :=
  if s.pointState p = before[p].state then s else rejoinGate p (enforce p s)

/-- Step 4 of R68 for one point: its lamp, against the state it had before the reply (R77, R78). -/
def lampAfter (before : Vector PointEntry 64) (s : State) (p : Fin 64) : State := settleLamp p before[p].state s

/-- The PTM takes a resolution whole (R68). Steps 4 and 5 take the station's points in output order (log 37). Enforcement and R144 at
every changed point come before the steps' waits and the gate, which `settle` evaluates after the resolution (log 42). -/
def takeResolution (f : InFlight) (st : Fin 16) (r : Result) (outs : Option (Vector OutputStatus 4)) (s : State) : State :=
  let before := s.ptm.points
  let s := takeDeferred f r (feedback st outs (applyResult f r s))
  let s := (stationPoints st).foldl (lampAfter before) s
  (stationPoints st).foldl (handOver before) s

/-! ### A station becomes UNREACHABLE -/

/-- A point of a station that has become UNREACHABLE (R77). -/
def unreachablePoint (s : State) (p : Fin 64) : State :=
  if s.inUse p then
    let s := s.modPoint p (fun e => { e with contact := .unknown, lockout := .unknown, relay := .unknown })
    match s.pointState p with
    | .energised => movePoint p .unknown .noReply s
    | .shed => movePoint p .unknown .noReply s
    | .locked => movePoint p .unknown .noReply s
    | .failed => movePoint p .unknown .noReply s
    | _ => s
  else s

/-- A configured station declared UNREACHABLE, at the PTM, its points in output order (R77; log 35). -/
def stationUnreachable (st : Fin 16) (s : State) : State :=
  if s.pls.active.configured st then (stationPoints st).foldl unreachablePoint s else s

/-- The lowest configured station that is UNREACHABLE (R101, R178). -/
def State.lowestUnreachable (s : State) : Option (Fin 16) :=
  (List.finRange 16).find? (fun st => s.pls.active.configured st && s.flc.reach[st] == .unreachable)

/-- The STATION_UNREACHABLE condition re-evaluated and, on a change, reported (R101); `cause` is the station whose change is
being taken. -/
def checkUnreachable (cause : Option (Fin 16)) (s : State) : State :=
  match s.lowestUnreachable with
  | some low => if s.fmn.condUnreachable then s else reportTrue .stationUnreachable (.loadStation (cause.getD low)) s
  | none => if s.fmn.condUnreachable then reportFalse .stationUnreachable s else s

end Sys2Proof.Machine
end

