-- ==== Sys2Proof/Machine/Loop.lean ====
section
/-! DEFINITION. The field loop's commands: the end of an order frame, replies, timeouts, polls and the restore spacing (R93 to R104). -/

namespace Sys2Proof.Machine

/-- The load station an order goes to; TRIP_ALL goes to none (R86). -/
def Order.station : Order → Option (Fin 16)
  | .motion _ p => some (stationOf p)
  | .lamp _ p => some (stationOf p)
  | .poll st => some st
  | .tripAll => none

/-- The slot of a resolved order: a motion slot becomes EMPTY, no other slot is reserved (R87). -/
def freeSlot (o : Order) (s : State) : State :=
  match o with
  | .motion _ p => { s with flc.motion := s.flc.motion.set p .empty }
  | .lamp _ _ => s
  | .poll _ => s
  | .tripAll => s

/-- The restore spacing, started when the resolved order is a RESTORE (R104). -/
def spacingAfter (o : Order) (s : State) : State :=
  match o with
  | .motion .restore _ => startSpacing s
  | .motion .warn _ => s
  | .motion .shed _ => s
  | .lamp _ _ => s
  | .poll _ => s
  | .tripAll => s

/-- A resolved POLL clears its station's start-up mark, and may complete the round (R103, R111). -/
def pollResolved (o : Order) (s : State) : State :=
  match o with
  | .poll st => checkRound { s with flc.marks := s.flc.marks.set st false }
  | .motion _ _ => s
  | .lamp _ _ => s
  | .tripAll => s

/-- The loop has no order in flight, and the FLC chooses again (R92). -/
def chooseAfter (s : State) : State := choose { s with flc.inFlight := none, flc.aborted := false }

/-- A resolution of the in-flight order: the slot, the spacing, the PTM, the start-up mark, what follows, and the next choice
(R97 points 2 to 5, R98; log 8). -/
def resolve (f : InFlight) (st : Fin 16) (r : Result) (outs : Option (Vector OutputStatus 4)) (s : State) : State :=
  let s := spacingAfter f.order (freeSlot f.order s)
  chooseAfter (settle (pollResolved f.order (takeResolution f st r outs s)))

/-! ### The end of a frame -/

/-- The end of an order frame that expects a reply: the loop is released and the reply timer starts at 20 ms (R93). -/
def orderFrameEnd (s : State) : State :=
  match s.flc.tx, s.flc.inFlight with
  | some _, some f =>
    if f.order = .tripAll then s
    else { s with flc.tx := none, flc.timedOut := false, flc.inFlight := some { f with timer := some 20 } }
  | _, _ => s

/-- ORDER_FRAME_END (R93). -/
def execOrderFrameEnd (s : State) : Host.Outcome State Fault Refusal := .next (orderFrameEnd s)

/-- The end of a TRIP_ALL frame resolves it, and the FLC chooses again (R99). -/
def tripAllFrameEnd (s : State) : State :=
  match s.flc.tx, s.flc.inFlight with
  | some _, some f => if f.order = .tripAll then chooseAfter { s with flc.tx := none, flc.timedOut := false } else s
  | _, _ => s

/-- TRIP_ALL_FRAME_END (R99). -/
def execTripAllFrameEnd (s : State) : Host.Outcome State Fault Refusal := .next (tripAllFrameEnd s)

/-! ### Replies -/

/-- A loop frame error counted (R95, R106). -/
def countLoopError (s : State) : State := { s with flc.frameErrors := saturate (s.flc.frameErrors + 1) }

/-- A stale reply counted (R96, R106). -/
def countStale (s : State) : State := { s with flc.stale := saturate (s.flc.stale + 1) }

/-- A matching reply: the station is REACHABLE, the reply timer stops, and the order resolves (R97, R100, R101). -/
def matchingReply (f : InFlight) (st : Fin 16) (r : Result) (outs : Vector OutputStatus 4) (s : State) : State :=
  let s := { s with
    flc.reach := s.flc.reach.set st .reachable
    flc.noReply := s.flc.noReply.set st 0
    flc.inFlight := some { f with timer := none } }
  resolve f st r (some outs) (checkUnreachable (some st) s)

/-- A reply frame either matches the in-flight order or is stale (R96); while a frame is being sent there is no attempt that it could
answer, and it is stale (R98; log 49). -/
def replyFrameTaken (src tag : Byte) (r : Result) (outs : Vector OutputStatus 4) (s : State) : State :=
  match s.flc.tx, s.flc.inFlight with
  | none, some f =>
    match f.order.station with
    | none => countStale s
    | some st => if src.toNat = st.val + 1 ∧ tag = f.tag then matchingReply f st r outs s else countStale s
  | _, _ => countStale s

/-- A collected frame is a reply frame when its check holds, its source lies in 1..16 and its result is known (R95). -/
def loopFrame (bytes : List Byte) (bad : Bool) (s : State) : State :=
  match bytes with
  | [_, src, tag, res, o0, o1, o2, o3, _, _] =>
    match resultOf res with
    | none => countLoopError s
    | some r =>
      if !bad && checkHolds bytes && decide (1 ≤ src.toNat) && decide (src.toNat ≤ 16) then
        replyFrameTaken src tag r #v[outputStatus o0, outputStatus o1, outputStatus o2, outputStatus o3] s
      else countLoopError s
  | _ => countLoopError s

/-- Whether the loop receiver is on: it is off while the part is sending (R95; log 21), but a reply that arrives at the moment of a
timeout is received, whatever the timeout has sent (R98; log 49). -/
def Flc.receives (f : Flc) : Bool := f.tx.isNone || f.timedOut

/-- A byte on the loop, taken while the receiver is on (R95). The frame that it completes is the one that the moment of a timeout lets in
(R98; log 49). -/
def loopByte (s : State) (b : LineByte) : State :=
  if s.flc.receives then
    let r := s.flc.rx.feed 0x5b 10 b
    match r.2 with
    | none => { s with flc.rx := r.1 }
    | some f => loopFrame f.1 f.2 { s with flc.rx := r.1, flc.timedOut := false }
  else s

/-- LOOP_REPLY_FRAME: bytes arrive on the field loop (R95 to R97; log 4). -/
def execLoopReplyFrame (bytes : List LineByte) (s : State) : Host.Outcome State Fault Refusal :=
  .next (bytes.foldl loopByte s)

/-- A frame under collection abandoned by an idle, and counted (R95). -/
def abandonReply (s : State) : State :=
  match s.flc.rx with
  | .hunt => s
  | .collect _ _ => countLoopError { s with flc.rx := .hunt, flc.timedOut := false }

/-- LOOP_IDLE_ABANDON: an idle of more than 200 µs, and the byte that ends it (R95). -/
def execLoopIdleAbandon (next : Option LineByte) (s : State) : Host.Outcome State Fault Refusal :=
  .next ((optionBytes next).foldl loopByte (abandonReply s))

/-! ### Timeouts -/

/-- The no-reply count raised, and the station UNREACHABLE at 3, handed on before anything else (R98, R100, R101, R77). -/
def countNoReply (st : Fin 16) (s : State) : State :=
  let n : Nat := min (s.flc.noReply[st] + 1) 3
  let counted : State := { s with flc.noReply := s.flc.noReply.set st n }
  if n = 3 ∧ s.flc.reach[st] ≠ Reach.unreachable then
    stationUnreachable st (checkUnreachable (some st) { counted with flc.reach := s.flc.reach.set st .unreachable })
  else counted

/-- What follows a timeout: the next attempt, or NO_REPLY (R98). -/
def afterTimeout (f : InFlight) (st : Fin 16) (s : State) : State :=
  if f.attempts < 3 ∧ s.flc.reach[st] ≠ .unreachable then
    { s with flc := s.flc.attempt f.order (f.attempts + 1) f.voided }
  else resolve f st .noReply none { s with flc.inFlight := some { f with timer := none } }

/-- The reply timer of the in-flight order runs out (R98; a reply at the same moment: log 49). -/
def replyTimeout (s : State) : State :=
  match s.flc.inFlight with
  | none => s
  | some f =>
    match f.order.station, f.timer with
    | some st, some _ => afterTimeout f st (countNoReply st { s with flc.timedOut := true })
    | _, _ => s

/-- REPLY_TIMEOUT (R98). -/
def execReplyTimeout (s : State) : Host.Outcome State Fault Refusal := .next (replyTimeout s)

/-- POLL_TIMER_EXPIRY: the poll slots are set and the timer starts again (R102). -/
def execPollTimerExpiry (s : State) : Host.Outcome State Fault Refusal :=
  .next (if s.flc.pollTimer.isSome then
      { pollConfigured s with flc.pollTimer := some s.pls.active.params.pollInterval }
    else s)

/-- RESTORE_SPACING_EXPIRY: the spacing ends and the gate is evaluated (R104, R150). -/
def execRestoreSpacingExpiry (s : State) : Host.Outcome State Fault Refusal :=
  .next (if s.flc.spacing.isSome then settle { s with flc.spacing := none } else s)

end Sys2Proof.Machine
end

