-- ==== Sys2Proof/Machine/Timers.lean ====
section
/-! DEFINITION. The expiries of the points' timers, of the step timers and of the consent window (R72, R73, R124, R125, R135, R145, R146). -/

namespace Sys2Proof.Machine

/-- A point's grace runs out: a SHED is wanted, cause ORDER_DONE (R72). -/
def graceExpiry (p : Fin 64) (s : State) : State :=
  if s.ptm.points[p].grace.isSome ∧ s.pointState p = .warned then wantShed p .orderDone s else s

/-- GRACE_TIMER_EXPIRY (R72). -/
def execGraceTimerExpiry (p : Fin 64) (s : State) : Host.Outcome State Fault Refusal := .next (graceExpiry p s)

/-- A point's settle timer runs out: ENERGISED, cause ORDER_DONE, and the Sequencer is told (R73, R79). -/
def settleExpiry (p : Fin 64) (s : State) : State :=
  if s.ptm.points[p].settle.isSome ∧ s.pointState p = .settling then settle (movePoint p .energised .orderDone s) else s

/-- SETTLE_TIMER_EXPIRY (R73). -/
def execSettleTimerExpiry (p : Fin 64) (s : State) : Host.Outcome State Fault Refusal := .next (settleExpiry p s)

/-- SHED_DELAY_EXPIRY: the running TIMER shed step is DONE (R124). -/
def execShedDelayExpiry (s : State) : Host.Outcome State Fault Refusal :=
  .next (if s.seq.shedDelay.isSome ∧ s.shedRunning s.seq.pointer = true then settle (shedStepDone s.seq.pointer s) else s)

/-- A WARNED point of a timed-out shed step (R125 point 3). -/
def shedWarned (s : State) (p : Fin 64) : State := if s.pointState p = .warned then wantShed p .timeout s else s

/-- The running shed step times out (R125); its WARNED points are taken in the order of its list (log 35). -/
def shedTimeout (k : Nat) (s : State) : State :=
  let s := post (.step .shed k .timedOut) s
  let s := raiseFault .stepTimeout (.step .shed k) s
  let s := (s.pls.active.shedStep k).points.foldl shedWarned s
  settle (afterShedDone k s)

/-- SHED_STEP_TIMEOUT (R125). -/
def execShedStepTimeout (s : State) : Host.Outcome State Fault Refusal :=
  .next (if s.seq.shedTimeout.isSome ∧ s.shedRunning s.seq.pointer = true then shedTimeout s.seq.pointer s else s)

/-- RESTART_DELAY_EXPIRY: the running TIMER restart step is DONE (R145). -/
def execRestartDelayExpiry (s : State) : Host.Outcome State Fault Refusal :=
  .next (if s.seq.restartDelay.isSome ∧ s.restartRunning s.seq.restartPointer = true then
      settle (restartStepDone s.seq.restartPointer s)
    else s)

/-- An AWAIT point of a timed-out restart step (R146 point 3). -/
def failAwait (s : State) (p : Fin 64) : State := if s.pointState p = .await then movePoint p .failed .timeout s else s

/-- The running restart step times out (R146); its AWAIT points are taken in the order of its list (log 35). -/
def restartTimeout (k : Nat) (s : State) : State :=
  let s := post (.step .restart k .timedOut) s
  let s := raiseFault .stepTimeout (.step .restart k) s
  let s := (s.pls.active.restartStep k).points.foldl failAwait s
  settle (afterRestartDone k s)

/-- RESTART_STEP_TIMEOUT (R146). -/
def execRestartStepTimeout (s : State) : Host.Outcome State Fault Refusal :=
  .next (if s.seq.restartTimeout.isSome ∧ s.restartRunning s.seq.restartPointer = true then
      restartTimeout s.seq.restartPointer s
    else s)

/-- CONSENT_WINDOW_EXPIRY: in ONE, the held consent ends with EXPIRED and the tracker is OPEN (R135). -/
def execConsentWindowExpiry (s : State) : Host.Outcome State Fault Refusal :=
  .next (if s.ctk.window.isSome ∧ s.ctk.state = .one then consentBackToOpen .expired s else s)

end Sys2Proof.Machine
end

