-- ==== Sys2Proof/Machine/Image.lean ====
section
/-! DEFINITION. Validation (R55), the stored image and the walk that loads it (R183, R184), the writes of a save (R189), the two resets, and the ends of a load and of a save (R185, R186, R190). -/

namespace Sys2Proof.Machine

/-! ### Validation (R55) -/

/-- A failed check: the reason 1..11, the chain code (0 NONE, 1 SHED, 2 RESTART) and the item (R55, R193). -/
structure Invalid where
  reason : Nat
  chain : Nat
  item : Nat
deriving DecidableEq, Repr

/-- The stations that are enabled. -/
def Plan.enabledCount (p : Plan) : Nat := p.stations.toList.countP StationRec.enabled

/-- The place of the first present step that follows an absent one, given which steps are present from number `k`. -/
def gapFrom (k : Nat) (seenAbsent : Bool) : List Bool → Option Nat
  | [] => none
  | true :: rest => if seenAbsent then some k else gapFrom (k + 1) seenAbsent rest
  | false :: rest => gapFrom (k + 1) true rest

/-- The place of the first level that is below the one before it, from number `k`. -/
def fallFrom (k : Nat) (last : Level) : List Level → Option Nat
  | [] => none
  | l :: rest => if l.rank < last.rank then some k else fallFrom (k + 1) l rest

/-- The first entry that stands in the list a second time. -/
def firstRepeat (seen : List (Fin 64)) : List (Fin 64) → Option (Fin 64)
  | [] => none
  | p :: rest => if seen.contains p then some p else firstRepeat (p :: seen) rest

/-- The place of the first entry of which a test holds, from number `k`. -/
def placeFrom {α : Type} (test : α → Bool) (k : Nat) : List α → Option Nat
  | [] => none
  | x :: rest => if test x then some k else placeFrom test (k + 1) rest

/-- The points listed in the shed chain, in the order of R55. -/
def Plan.shedListed (p : Plan) : List (Fin 64) := p.shedSteps.flatMap ShedStep.points

/-- The points listed in the restart chain, in the order of R55. -/
def Plan.restartListed (p : Plan) : List (Fin 64) := p.restartSteps.flatMap RestartStep.points

/-- A failure in the shed chain, else one in the restart chain. -/
def byChain (reason : Nat) (shed restart : Option Nat) : Option Invalid :=
  match shed with
  | some i => some ⟨reason, 1, i⟩
  | none => restart.map (fun i => ⟨reason, 2, i⟩)

/-- Check 1, THRESHOLD_ORDER. -/
def checkThresholds (p : Plan) : Option Invalid :=
  if p.params.t2 ≤ p.params.t1 then some ⟨1, 0, 1⟩ else if p.params.t3 ≤ p.params.t2 then some ⟨1, 0, 2⟩ else none

/-- Check 2, VOTE_COUNT. -/
def checkVoteCount (p : Plan) : Option Invalid :=
  if p.enabledCount = 0 ∨ p.enabledCount < p.params.voteCount then some ⟨2, 0, p.enabledCount⟩ else none

/-- Check 3, SHED_EMPTY. -/
def checkShedEmpty (p : Plan) : Option Invalid := if (p.shedStep 0).present then none else some ⟨3, 1, 0⟩

/-- Check 4, CHAIN_GAP. -/
def checkGap (p : Plan) : Option Invalid :=
  byChain 4 (gapFrom 0 false (p.shedSteps.map ShedStep.present)) (gapFrom 0 false (p.restartSteps.map RestartStep.present))

/-- Check 5, TRIGGER_ORDER. -/
def checkTriggers (p : Plan) : Option Invalid :=
  byChain 5 (fallFrom 0 .quiet ((p.shedSteps.filter ShedStep.present).map ShedStep.trigger)) none

/-- Check 6, POINT_NOT_IN_USE. -/
def checkInUse (p : Plan) : Option Invalid :=
  let free (l : List (Fin 64)) : Option Nat := (l.find? (fun i => !p.points[i].inUse)).map Fin.val
  byChain 6 (free p.shedListed) (free p.restartListed)

/-- Check 7, POINT_REPEATED. -/
def checkRepeated (p : Plan) : Option Invalid :=
  byChain 7 ((firstRepeat [] p.shedListed).map Fin.val) ((firstRepeat [] p.restartListed).map Fin.val)

/-- A present shed step whose TIMER delay is not below its timeout. -/
def ShedStep.lateTimer (h : ShedStep) : Bool := h.present && h.wait == .timer && decide (h.timeout ≤ h.delay)

/-- A present restart step whose TIMER delay is not below its timeout. -/
def RestartStep.lateTimer (k : RestartStep) : Bool := k.present && k.wait == .timer && decide (k.timeout ≤ k.delay)

/-- Check 8, TIMER_EXCEEDS_TIMEOUT. -/
def checkTimers (p : Plan) : Option Invalid :=
  byChain 8 (placeFrom ShedStep.lateTimer 0 p.shedSteps) (placeFrom RestartStep.lateTimer 0 p.restartSteps)

/-- Check 9, WEIGHT_OVER_BUDGET. -/
def checkWeights (p : Plan) : Option Invalid :=
  byChain 9 none ((p.restartListed.find? (fun i => decide (p.params.inrushBudget < p.points[i].weight))).map Fin.val)

/-- Check 10, EDIT_RIGHT_MISSING. -/
def checkEditRight (p : Plan) : Option Invalid := if p.rights.toList.any Rights.edit then none else some ⟨10, 0, 0⟩

/-- Check 11, CONSENT_RIGHTS_MISSING. -/
def checkConsentRights (p : Plan) : Option Invalid :=
  let n := p.rights.toList.countP Rights.consent
  if 2 ≤ n then none else some ⟨11, 0, n⟩

/-- Validation: the eleven checks in order, and the first failure (R55). -/
def Plan.validate (p : Plan) : Option Invalid :=
  [checkThresholds, checkVoteCount, checkShedEmpty, checkGap, checkTriggers, checkInUse, checkRepeated, checkTimers,
   checkWeights, checkEditRight, checkConsentRights].findSome? (fun check => check p)

/-! ### The image (R183) -/

/-- A block: the prefix with type, content size and check, then the content (f11 section 11.6). -/
def blockBytes (type : Byte) (content : List Byte) : List Byte :=
  [type] ++ halfBytes content.length ++ [blockCheck content] ++ content

/-- The blocks of an image and its end byte, types 1 to 7 in order (R189 step 2). -/
def Plan.blocks (p : Plan) : List Byte :=
  blockBytes 1 p.params.bytes
    ++ blockBytes 2 (p.stations.toList.flatMap StationRec.bytes)
    ++ blockBytes 3 (p.points.toList.flatMap PointRec.bytes)
    ++ blockBytes 4 (p.shed.toList.flatMap ShedStep.bytes)
    ++ blockBytes 5 (p.restart.toList.flatMap RestartStep.bytes)
    ++ blockBytes 6 (p.rights.toList.flatMap Rights.bytes ++ p.policy.toList.flatMap Policy.bytes)
    ++ blockBytes 7 (p.labels.toList.flatMap labelBytes)
    ++ [0]

/-- The image of a plan, as a save leaves it in the store (R183, R189). -/
def Plan.image (p : Plan) : List Byte := [0x54, 0x51] ++ p.blocks

/-! ### The load (R184) -/

/-- What a walk has taken so far, block by block. -/
structure Walk where
  params : Option Params
  stations : Option (Vector StationRec 6)
  points : Option (Vector PointRec 64)
  shed : Option (Vector ShedStep 48)
  restart : Option (Vector RestartStep 48)
  rights : Option (Vector Rights 3 × Vector Policy 12)
  labels : Option (Vector (List Byte) 64)
deriving DecidableEq, Repr

/-- A walk that has taken nothing. -/
def Walk.start : Walk := ⟨none, none, none, none, none, none, none⟩

/-- The contents of block type 6: the three RIGHTS records, then the twelve FAULT POLICY records (R183). -/
def takeRightsAndPolicy : Decoder (Vector Rights 3 × Vector Policy 12) := fun bytes => do
  let (r, rest) ← takeVector takeRights 3 bytes
  let (q, rest) ← takeVector takePolicy 12 rest
  return ((r, q), rest)

/-- A known block is entered: checks 4, 5 and 6 of R184, given what the walk holds of the type and how it takes it. -/
def enterBlock {α : Type} (d : Decoder α) (content : List Byte) (check : Byte) (held : Option α) (put : α → Walk) :
    Except LoadReason Walk :=
  match exactly d content with
  | none => .error .badStructure
  | some v =>
    if blockCheck content ≠ check then .error .badChecksum
    else if held.isSome then .error .missingBlock
    else .ok (put v)

/-- Whether a block type is known (R183). -/
def knownType (type : Byte) : Bool := decide (1 ≤ type.toNat) && decide (type.toNat ≤ 7)

/-- A block at the walk, by its type; an unknown one is stepped over (R183, R184). -/
def Walk.block (w : Walk) (type : Byte) (content : List Byte) (check : Byte) : Except LoadReason Walk :=
  match type.toNat with
  | 1 => enterBlock takeParams content check w.params (fun v => { w with params := some v })
  | 2 => enterBlock (takeVector takeStation 6) content check w.stations (fun v => { w with stations := some v })
  | 3 => enterBlock (takeVector takePointRec 64) content check w.points (fun v => { w with points := some v })
  | 4 => enterBlock (takeVector takeShedStep 48) content check w.shed (fun v => { w with shed := some v })
  | 5 => enterBlock (takeVector takeRestartStep 48) content check w.restart (fun v => { w with restart := some v })
  | 6 => enterBlock takeRightsAndPolicy content check w.rights (fun v => { w with rights := some v })
  | 7 => enterBlock (takeVector takeLabel 64) content check w.labels (fun v => { w with labels := some v })
  | _ => .ok w

/-- The plan of a walk that has met types 1 to 6; a walk without LABELS gives every point an empty label (R183). -/
def Walk.plan (w : Walk) : Option Plan := do
  let params ← w.params
  let stations ← w.stations
  let points ← w.points
  let shed ← w.shed
  let restart ← w.restart
  let (rights, policy) ← w.rights
  return ⟨params, stations, points, shed, restart, rights, policy, w.labels.getD (Vector.replicate 64 [])⟩

/-- The end of the walk: check 7, then validation, check 8 (R184). -/
def Walk.finish (w : Walk) : Except LoadReason Plan :=
  match w.plan with
  | none => .error .missingBlock
  | some p => if p.validate.isSome then .error .invalidPlan else .ok p

/-- Reading a byte the EEPROM did not acknowledge, or looking for one beyond byte 8191 (R184, checks 1 and 3). -/
def readFailure (pos : Nat) : LoadReason := if pos < 8192 then .noDevice else .badStructure

/-- The walk from position `pos`, whose acknowledged bytes are `rest`; each block takes at least five bytes, so `fuel` above a fifth
of the image is enough. -/
def walkFrom : Nat → Nat → List Byte → Walk → Except LoadReason Plan
  | 0, _, _, _ => .error .badStructure
  | fuel + 1, pos, rest, w =>
    match rest with
    | [] => .error (readFailure pos)
    | type :: more =>
      if type = 0 then w.finish
      else match more with
        | lo :: hi :: check :: tail =>
          let size := halfValue lo hi
          if size < 1 ∨ 4096 < size ∨ 8192 < pos + 4 + size then .error .badStructure
          else if knownType type = true ∧ tail.length < size then .error .noDevice
          else do
            let w ← w.block type (tail.take size) check
            walkFrom fuel (pos + 4 + size) (tail.drop size) w
        | _ => .error (readFailure (pos + 1 + more.length))

/-- The load of an image, given the bytes that the EEPROM acknowledged from its first (R184; log 16). -/
def loadImage (image : List Byte) : Except LoadReason Plan :=
  match image.take 8192 with
  | a :: b :: rest => if a = 0x54 ∧ b = 0x51 then walkFrom 1640 2 rest Walk.start else .error .badSignature
  | _ => .error .noDevice

/-! ### The save (R189) -/

/-- The bytes from an offset cut into pages: the first up to `room` bytes, then 32 each. -/
def pagesFrom : Nat → Nat → Nat → List Byte → List StoreWrite
  | 0, _, _, _ => []
  | fuel + 1, offset, room, bytes =>
    match bytes with
    | [] => []
    | _ :: _ => ⟨offset, bytes.take room⟩ :: pagesFrom fuel (offset + room) 32 (bytes.drop room)

/-- The writes of a save, in their order (R189): the first signature byte as 00h, the blocks by pages of 32 bytes, whose first
holds the bytes from offset 2 (log 15), and the two signature bytes. -/
def saveWrites (p : Plan) : List StoreWrite :=
  ⟨0, [0]⟩ :: pagesFrom (p.blocks.length + 1) 2 30 p.blocks ++ [⟨0, [0x54]⟩, ⟨1, [0x51]⟩]

/-- A save begins: the snapshot is taken and the link is SAVING (R189). -/
def beginSave (p : Fin 3) (s : State) : State :=
  { s with iml.link := .saving, iml.save := some ⟨p, s.pls.active, true, saveWrites s.pls.active⟩ }

/-! ### Replies -/

/-- A reply appended to a port's queue, echoing the request in service (R159, f11 section 11.3); the next reply takes its free values
afresh (log 11). -/
def reply (p : Fin 3) (status : ReplyStatus) (payload : List Byte) (s : State) : State :=
  { s.modPort p (fun q => { q with queue := q.queue ++ [⟨q.service.getD 0, status, payload, false⟩] }) with free := s.free + 1 }

/-! ### Resets -/

/-- COLD_RESET: every block takes its cold values, and the image load begins (R107, R131, R156, R169, R174, R182). -/
def execColdReset (s : State) : Host.Outcome State Fault Refusal := 
  .next { State.reset with free := s.free, pending := s.pending }

/-- What a warm reset leaves: the DT lines, the veto flags, the journal with its clock from 0, the fault statuses, the pointer and
the capture are kept; all else starts afresh; the FAULT line is judged by the factory policy (R39, R131, R169, R174, R180, R181). -/
def warmReset (s : State) : State :=
  driveFault { State.reset with
    dtu := s.dtu
    ctk.veto := s.ctk.veto
    jrn := { s.jrn with clock := 0 }
    fmn := { Fmn.start with status := s.fmn.status, pointer := s.fmn.pointer, capture := s.fmn.capture }
    iml.lastReset := .warm
    free := s.free
    pending := s.pending }

/-- WARM_RESET (R181). -/
def execWarmReset (s : State) : Host.Outcome State Fault Refusal := .next (warmReset s)

/-! ### The end of the load -/

/-- A station at the end of the load: OFFLINE if enabled in the plan in force, its receiver in HUNT (R4). -/
def enableStation (s : State) (i : Fin 6) : State :=
  if s.pls.active.stations[i].enabled then setHealth i .offline (s.modChannel i (fun c => { c with rx := .hunt })) else s

/-- A point at the end of the load: UNKNOWN with cause NONE if in use, with no record (R64). -/
def enterUse (s : State) (p : Fin 64) : State :=
  if s.inUse p then s.modPoint p (fun e => { e with state := .unknown, cause := .none }) else s

/-- A port's watermark taken from the plan in force, also over one that a NOTICE_MASK set during the load (R156, R186; log 44). -/
def takeWatermark (s : State) (i : Fin 3) : State :=
  s.modPort i (fun p => { p with watermark := s.pls.active.params.watermark })

/-- The hand-overs of the load's end that do not depend on its outcome (R186; log 10); the stations SS0 to SS5 (log 35). -/
def loadHandOver (s : State) : State :=
  let s := (List.finRange 6).foldl enableStation s
  let s := { s with mev.blindTimer := some 0 }
  let s := allPoints.foldl enterUse s
  let s := { s with flc.pollTimer := some s.pls.active.params.pollInterval }
  driveFault ([0, 1, 2].foldl takeWatermark s)

/-- The start-up poll round begins: marks and poll slots of every configured station; with none, it is complete (R103). -/
def beginRound (s : State) : State :=
  let s := { s with flc.marks := Vector.ofFn (fun st => s.pls.active.configured st) }
  settle (checkRound (pollConfigured s))

/-- The RESET record that ends a load, followed at once by the PLAN record (R172, R185, R186); a JOURNAL_OVERRUN that either of
them causes is raised after both (R171; log 10). -/
def loadRecords (mark : PlanMark) (reason : LoadReason) (s : State) : State :=
  let g := s.pls.active.params.generation
  let first := postRecord (.reset s.iml.lastReset g) s
  let both := postRecord (.plan none g mark reason) first
  raiseOverrun (overrunPort first.jrn both.jrn) (raiseOverrun (overrunPort s.jrn first.jrn) both)

/-- The load ends in success: STARTUP goes on to POLLING (R185, R109). -/
def loadSucceeds (p : Plan) (s : State) : State :=
  let s := { s with pls.active := p, iml.link := .idle, seq.phase := .polling }
  beginRound (loadHandOver (loadRecords .loaded .none s))

/-- The load ends in failure: the factory defaults stay, and the Sequencer goes to NO_PLAN (R185, R112). -/
def loadFails (reason : LoadReason) (s : State) : State :=
  let s := { s with iml.link := .idle }
  reportTrue .noPlan .none (setSequence .noPlan (loadHandOver (loadRecords .loadFailed reason s)))

/-- The end of a running load. -/
def imageLoadEnd (image : List Byte) (s : State) : State :=
  if s.iml.link = .loading then
    match loadImage image with
    | .ok p => loadSucceeds p s
    | .error reason => loadFails reason s
  else s

/-- IMAGE_LOAD_END (R184 to R186). -/
def execImageLoadEnd (image : List Byte) (s : State) : Host.Outcome State Fault Refusal := .next (imageLoadEnd image s)

/-! ### The end of a save -/

/-- The reply of the request that began a save, unless its port has been reset since (R62, R158, R190). -/
def saveReply (f : SaveFlight) (status : ReplyStatus) (payload : List Byte) (s : State) : State :=
  if f.replyOwed then reply f.port status payload s else s

/-- A save ends in success (R190). -/
def saveSucceeds (f : SaveFlight) (s : State) : State :=
  let g := f.snapshot.params.generation
  let s := post (.plan (some f.port) g .saved .none) { s with iml.link := .idle, iml.save := none }
  saveReply f .ok (halfBytes g) s

/-- A save ends on a store-link error (R190). -/
def saveFails (f : SaveFlight) (s : State) : State :=
  let g := f.snapshot.params.generation
  let s := post (.plan (some f.port) g .saveFailed .none) { s with iml.link := .idle, iml.save := none }
  saveReply f .storeFailed [] (raiseFault .storeWrite .none s)

/-- SAVE_END (R190): `failedAt` is the number of the write that met the error, if any. -/
def execSaveEnd (failedAt : Option Nat) (s : State) : Host.Outcome State Fault Refusal :=
  .next (match s.iml.save with
    | none => s
    | some f => if failedAt.isSome then saveFails f s else saveSucceeds f s)

end Sys2Proof.Machine
end

