-- ==== Sys2Proof/Machine/Commit.lean ====
section
/-! DEFINITION. The commit: its conditions (R57), its steps (R58), and what each block does with the new plan (R16, R36, R59 to R61, R101, R129). -/

namespace Sys2Proof.Machine

/-! ### The blocks take the new plan -/

/-- The Sequencer at a commit: both chains afresh, and the target from D and the level (R129, R141). -/
def commitSequencer (s : State) : State :=
  { s with
    seq.shedStatus := Vector.replicate 48 .notStarted
    seq.pointer := 0
    seq.restartStatus := Vector.replicate 48 .notStarted
    seq.restartPointer := 0
    seq.restartDelay := none
    seq.restartTimeout := none
    seq.target := max s.seq.depth (s.pls.active.depth s.mev.level) }

/-- The order in flight marked, if it is a motion order of a point that leaves use (R59, R69; log 19). -/
def voidOrder (p : Fin 64) (s : State) : State :=
  match s.flc.inFlight with
  | none => s
  | some f =>
    match f.order with
    | .motion _ q => if q = p then { s with flc.inFlight := some { f with voided := true } } else s
    | .lamp _ _ => s
    | .poll _ => s
    | .tripAll => s

/-- A point leaves use: LAMP OFF, its pending order withdrawn, UNUSED with cause MANUAL (R59). -/
def leaveUse (p : Fin 64) (s : State) : State :=
  let s := postLamp .off p (s.modPoint p (fun e => { e with lamp := .off }))
  changePoint p .unused .manual (voidOrder p (withdraw p s))

/-- A manual AWAIT point whose new weight is above the new budget becomes SHED (R59, R151). -/
def recheckManual (p : Fin 64) (s : State) : State :=
  if s.pointState p = .await ∧ s.ptm.points[p].manual = true
      ∧ s.pls.active.params.inrushBudget < s.pls.active.points[p].weight then
    cancelPoint p s
  else s

/-- A point at a commit, by its in-use field in the old and the new plan (R59). -/
def commitPoint (old : Plan) (s : State) (p : Fin 64) : State :=
  match old.points[p].inUse, s.inUse p with
  | true, false => leaveUse p s
  | false, true => movePoint p .unknown .manual s
  | true, true => recheckManual p s
  | false, false => s

/-- A channel at a commit, by its enabled field in the old and the new plan (R16). -/
def commitStation (old : Plan) (s : State) (i : Fin 6) : State :=
  match old.stations[i].enabled, s.pls.active.stations[i].enabled with
  | false, true => setHealth i .offline (s.modChannel i (fun c => { Channel.start with health := c.health }))
  | true, false => setHealth i .disabled (s.modChannel i (fun c => { c with rx := .hunt, gap := none }))
  | true, true => s
  | false, false => s

/-- A station that has stopped being configured loses its pending POLL (R101). -/
def commitPoll (s : State) (st : Fin 16) : State :=
  if s.pls.active.configured st then s else { s with flc.polls := s.flc.polls.set st false }

/-- The FLC at a commit: poll slots, and the STATION_UNREACHABLE condition (R101; log 9). -/
def commitLoop (s : State) : State := checkUnreachable none ((List.finRange 16).foldl commitPoll s)

/-- Quiet time compared with the new quiet period (R36); in NO_PLAN an open event waits for the start-up decision (R61, R129). -/
def commitQuiet (s : State) : State :=
  if s.mev.level = .quiet ∧ s.mev.healthy ≠ 0 ∧ s.quietLongEnough = true then
    let s := { s with mev.quietHanded := true }
    trackerQuietReached (if s.seq.state = .watch then quietRule s else s)
  else { s with mev.quietHanded := false }

/-- The new plan handed to every block (R58 point 4, R60; log 24): the points P0 to P63, and the channels SS0 to SS5, each set with its
record and its vote before the next (log 35). -/
def commitHandOver (old : Plan) (s : State) : State :=
  let s := allPoints.foldl (commitPoint old) (commitSequencer s)
  let s := (List.finRange 6).foldl (commitStation old) s
  commitQuiet (recompute (driveFault (commitLoop s)))

/-- A commit takes the Sequencer out of NO_PLAN into the POLLING phase of STARTUP (R58 point 5, R61). -/
def leaveNoPlan (s : State) : State :=
  if s.seq.state = .noPlan then
    beginRound (reportFalse .noPlan (setSequence .startup { s with seq.phase := .polling }))
  else s

/-- The generation after a commit (R58). -/
def nextGeneration (g : Nat) : Nat := if 65535 ≤ g then 1 else g + 1

/-- The shadow as it becomes active, with its generation (R58 point 1). -/
def committedPlan (old shadow : Plan) : Plan :=
  { shadow with params := { shadow.params with generation := nextGeneration old.params.generation } }

/-- A commit that passes R57: points 1 to 5 of R58, and what follows of itself. -/
def commitPlan (p : Fin 3) (shadow : Plan) (s : State) : State :=
  let old := s.pls.active
  let new := committedPlan old shadow
  let s := raiseAll .claim { s with pls := ⟨new, none⟩ }
  let s := raiseAll .plan (post (.plan (some p) new.params.generation .committed .none) s)
  settle (leaveNoPlan (commitHandOver old s))

/-- The three bytes that an INVALID reply carries (R55, R57). -/
def Invalid.bytes (v : Invalid) : List Byte := [byteOf v.reason, byteOf v.chain, byteOf v.item]

/-- Conditions 2 to 5 of R57. -/
def State.mayCommit (s : State) : Bool :=
  (s.seq.state == .watch || s.seq.state == .noPlan) && s.mev.level == .quiet && !s.anyRestoring && s.iml.link != .saving

/-- The end of a commit: the reply, or with save = yes the save that will reply (R58 point 6, R62). -/
def finishCommit (p : Fin 3) (save : Bool) (s : State) : State :=
  if save then beginSave p s else reply p .ok (halfBytes s.pls.active.params.generation) s

/-- COMMIT at the PLS: the conditions of R57 in order, then R58. -/
def ownerCommit (p : Fin 3) (save : Bool) (s : State) : State :=
  match s.pls.claim with
  | none => reply p .notClaimed [] s
  | some c =>
    if c.holder ≠ p then reply p .notClaimed [] s
    else if s.mayCommit = false then reply p .busy [] s
    else match c.shadow.validate with
      | some v => reply p .invalid v.bytes s
      | none => finishCommit p save (commitPlan p c.shadow s)

end Sys2Proof.Machine
end

