-- ==== Sys2Proof/Machine/Details.lean ====
section
/-! DEFINITION. The payloads of the replies that read the part: STATUS, IDENT, the three details, and the journal's records (R84, R130, R155, R162 to R165, R173, f11 section 11.4). -/

namespace Sys2Proof.Machine

/-- A set of three port flags as a byte (R193). -/
def portSet (v : Vector Bool 3) : Byte := byteOf (flagBits v.toList)

/-- A set of fault kinds as two bytes (R193). -/
def faultSet (v : Vector Bool 12) : List Byte := halfBytes (flagBits v.toList)

/-- A fault kind, or FFh for NONE (R193). -/
def faultOrNone : Option FaultKind → Byte
  | none => 0xff
  | some k => k.code

/-- The holder of the edit claim (R42). -/
def Pls.holder (p : Pls) : Option (Fin 3) := p.claim.map Claim.holder

/-- The STATUS payload of a port, 22 bytes (R162, f11 section 11.4). -/
def State.statusBytes (s : State) (p : Fin 3) : List Byte :=
  [s.mev.level.code, byteOf s.mev.healthy] ++ halfBytes (s.mev.quiet / 1000)
    ++ [s.seq.state.code, boolCode s.seq.eventOpen, byteOf s.seq.depth, byteOf s.seq.target]
    ++ [s.ctk.state.code, portOrNone s.ctk.held, portSet s.ctk.veto]
    ++ halfBytes s.pls.active.params.generation ++ [portOrNone s.pls.holder]
    ++ faultSet s.fmn.status ++ [faultOrNone s.fmn.pointer]
    ++ [byteOf s.spu.ports[p].flags.toNat, byteOf s.jrn.unread[p], byteOf s.jrn.lost[p]]
    ++ halfBytes s.spu.ports[p].frameErrors

/-- The IDENT payload, 7 bytes: 5A17h, 0640h, the letter C, and the generation (R163, f11 section 11.4). -/
def State.identBytes (s : State) : List Byte :=
  halfBytes 0x5a17 ++ halfBytes 0x0640 ++ [0x43] ++ halfBytes s.pls.active.params.generation

/-- A last sequence number: two bytes, FFFFh for NONE (R193). -/
def seqBytes : Option Byte → List Byte
  | none => [0xff, 0xff]
  | some b => [b, 0]

/-- The STATION_DETAIL payload of a station (R164). -/
def State.stationBytes (s : State) (i : Fin 6) : List Byte :=
  let c := s.siu[i]
  let e := s.mev.evals[i]
  [c.health.code] ++ seqBytes c.lastSeq ++ [byteOf c.settle]
    ++ halfBytes c.checkErrors ++ halfBytes c.foreign ++ halfBytes c.selfTest ++ halfBytes c.duplicates
    ++ halfBytes c.gapFills ++ halfBytes c.resettles ++ halfBytes c.clamped
    ++ halfBytes e.index ++ [e.level.code] ++ halfBytes e.fallHold ++ halfBytes e.peakShaking ++ halfBytes e.peakIndex

/-- The in-flight order in the loop header: kind, destination, output, attempts; with NONE the kind is 0 and the other bytes are
free (R165, R193; log 11). -/
def inFlightBytes (free : Nat) : Option InFlight → List Byte
  | none => [0, Config.noneFill free 0, Config.noneFill free 1, Config.noneFill free 2]
  | some f => [f.order.code, byteOf f.order.dest, byteOf f.order.output, byteOf f.attempts]

/-- The loop header of POINT_DETAIL, for `n` entries (R165). -/
def State.loopHeader (s : State) (n : Nat) : List Byte :=
  inFlightBytes s.free s.flc.inFlight ++ halfBytes s.flc.stale ++ halfBytes s.flc.frameErrors
    ++ [boolCode s.flc.tripSent, boolCode (s.flc.marks.toList.any id), byteOf n]

/-- The kind and condition of a point's motion order (R84, R193). -/
def slotBytes : MotionSlot → List Byte
  | .empty => [0, 0]
  | .pending k => [k.code, 0]
  | .inFlight k => [k.code, 1]

/-- The entry of a point in POINT_DETAIL, 17 bytes (R84, R165). -/
def State.pointBytes (s : State) (p : Fin 64) : List Byte :=
  let e := s.ptm.points[p]
  let st := stationOf p
  [e.state.code, e.contact.code, e.lockout.code, e.relay.code, boolCode e.buttonSeen, e.lamp.code]
    ++ timerBytes e.grace ++ timerBytes e.settle ++ [boolCode e.deferred, boolCode e.manual, e.cause.code]
    ++ slotBytes s.flc.motion[p] ++ [s.flc.reach[st].code, byteOf s.flc.noReply[st]]

/-- The points of a range, cut at P63 (R160, R165). -/
def pointRange (first : Fin 64) (count : Nat) : List (Fin 64) :=
  allPoints.filter (fun p => decide (first.val ≤ p.val) && decide (p.val < first.val + count))

/-- The POINT_DETAIL payload (R165). -/
def State.pointDetailBytes (s : State) (first : Fin 64) (count : Nat) : List Byte :=
  s.loopHeader (pointRange first count).length ++ (pointRange first count).flatMap s.pointBytes

/-- The start-up phase as SEQUENCE_DETAIL reports it: NONE outside STARTUP (R130, R193). -/
def Seq.phaseCode (q : Seq) : Byte :=
  match q.state, q.phase with
  | .startup, .loading => 1
  | .startup, .polling => 2
  | _, _ => 0

/-- A running step: its number and its two timers; with NONE the number's byte is free and the timers read stopped (R130, R193;
log 11). -/
def runningStep (running : Bool) (k : Nat) (delay timeout : Option Nat) (free site : Nat) : List Byte :=
  if running then [byteOf k] ++ timerBytes delay ++ timerBytes timeout
  else [Config.noneFill free site] ++ timerBytes none ++ timerBytes none

/-- A chain: its length, then the statuses of its steps packed two to a byte (R130, R155, R193). -/
def chainBytes (n : Nat) (statuses : Vector StepStatus 48) : List Byte := byteOf n :: packStatuses (statuses.toList.take n)

/-- What holds the gate: the first of conditions 1, 2, 4 and 3 of R149 that fails, with the codes of R193; NONE when no point is in
AWAIT (R155; log 32). -/
def State.gateHeldBy (s : State) : Byte :=
  if allPoints.all (fun p => s.pointState p != .await) then 0
  else if s.flc.restoreOutstanding then 1
  else if s.flc.spacing.isSome then 2
  else match s.gateHead with
    | some p => if s.gateFits p then 0 else 3
    | none => 4

/-- A point, or FFh for NONE (R193). -/
def pointOrNone : Option (Fin 64) → Byte
  | none => 0xff
  | some p => byteOf p.val

/-- The restart side of SEQUENCE_DETAIL (R155). -/
def State.restartSideBytes (s : State) : List Byte :=
  let k := s.seq.restartPointer
  [byteOf k] ++ chainBytes s.pls.active.restartLen s.seq.restartStatus
    ++ runningStep (s.restartRunning k) k s.seq.restartDelay s.seq.restartTimeout s.free 4
    ++ halfBytes s.ptm.inrush ++ [pointOrNone s.gateHead, s.gateHeldBy]
    ++ timerBytes (if s.ctk.state = .one then s.ctk.window else none)

/-- The SEQUENCE_DETAIL payload (R130). -/
def State.sequenceBytes (s : State) : List Byte :=
  let k := s.seq.pointer
  [s.seq.state.code, s.seq.phaseCode, boolCode s.seq.eventOpen, byteOf s.seq.depth, byteOf s.seq.target, byteOf k]
    ++ runningStep (s.shedRunning k) k s.seq.shedDelay s.seq.shedTimeout s.free 3
    ++ chainBytes s.pls.active.shedLen s.seq.shedStatus ++ s.restartSideBytes

/-- The `k` oldest of a port's unread records, which are the newest U of the ring (R169, R173). -/
def Journal.oldestUnread (j : Journal) (p : Fin 3) (k : Nat) : List Record :=
  (j.ring.drop (j.ring.length - j.unread[p])).take k

/-- The JOURNAL_READ payload for a count already clamped (R173). -/
def Journal.readBytes (j : Journal) (p : Fin 3) (n : Nat) : List Byte :=
  let k := min n j.unread[p]
  [byteOf j.lost[p], byteOf k, byteOf (j.unread[p] - k)] ++ (j.oldestUnread p k).flatMap Record.bytes

/-- The capture in a FAULT_CLEAR reply: kind, detail, timestamp; with NONE the kind is FFh, the detail FFFFh and the timestamp's
bytes are free (R178, R193; log 11). -/
def captureBytes (free : Nat) : Option Capture → List Byte
  | none => [0xff, 0xff, 0xff] ++ (List.range 4).map (fun n => Config.noneFill free (5 + n))
  | some c => [c.kind.code] ++ c.detail.bytes ++ stampBytes c.time

/-- The FAULT_CLEAR payload: the statuses, the pointer and the capture (R178). -/
def Fmn.bytes (f : Fmn) (free : Nat) : List Byte :=
  faultSet f.status ++ [faultOrNone f.pointer] ++ captureBytes free f.capture

end Sys2Proof.Machine
end

