-- ==== Sys2Proof/Machine/Requests.lean ====
section
/-! DEFINITION. The nineteen requests as their owners take them: the right, the parameters, the effect and the reply (R50 to R57, R81, R82, R133 to R139, R160 to R173, R178, R188). -/

namespace Sys2Proof.Machine

/-- A request refused with an empty payload (R160). -/
def refuse (p : Fin 3) (status : ReplyStatus) (s : State) : State := reply p status [] s

/-- The rights that a port holds in the active plan (R47, R160). -/
def State.rightsOf (s : State) (p : Fin 3) : Rights := s.pls.active.rights[p]

/-- Check 2 of R160: a caller without the right is answered NO_RIGHT. -/
def withRight (p : Fin 3) (holds : Bool) (s : State) (taken : State) : State := if holds then taken else refuse p .noRight s

/-- Check 3 of R160 for a request with no parameter: an empty payload. -/
def withNoParam (p : Fin 3) (payload : List Byte) (s : State) (taken : State) : State :=
  match payload with
  | [] => taken
  | _ :: _ => refuse p .badParam s

/-- Check 3 of R160 for a request with one point number (R81, R82). -/
def withPoint (p : Fin 3) (payload : List Byte) (s : State) (taken : Fin 64 → State) : State :=
  match payload with
  | [b] => if h : b.toNat < 64 then taken ⟨b.toNat, h⟩ else refuse p .badParam s
  | _ => refuse p .badParam s

/-! ### Reading the part -/

/-- STATUS: the flags returned are cleared and the line re-evaluated (R162, R166). -/
def serveStatus (p : Fin 3) (payload : List Byte) (s : State) : State :=
  withNoParam p payload s
    ((reply p .ok (s.statusBytes p) s).modPort p (fun q => Port.drive { q with flags := 0 }))

/-- IDENT (R163). -/
def serveIdent (p : Fin 3) (payload : List Byte) (s : State) : State := withNoParam p payload s (reply p .ok s.identBytes s)

/-- STATION_DETAIL: the station 0..5 (R164). -/
def serveStationDetail (p : Fin 3) (payload : List Byte) (s : State) : State :=
  match payload with
  | [b] => if h : b.toNat < 6 then reply p .ok (s.stationBytes ⟨b.toNat, h⟩) s else refuse p .badParam s
  | _ => refuse p .badParam s

/-- POINT_DETAIL: the first point 0..63; the range is cut at P63, and what is left of the count is 1..6 (R160, R165). -/
def servePointDetail (p : Fin 3) (payload : List Byte) (s : State) : State :=
  match payload with
  | [f, c] =>
    if h : f.toNat < 64 then
      let n := min c.toNat (64 - f.toNat)
      if 1 ≤ n ∧ n ≤ 6 then reply p .ok (s.pointDetailBytes ⟨f.toNat, h⟩ n) s else refuse p .badParam s
    else refuse p .badParam s
  | _ => refuse p .badParam s

/-- SEQUENCE_DETAIL (R130, R155). -/
def serveSequenceDetail (p : Fin 3) (payload : List Byte) (s : State) : State :=
  withNoParam p payload s (reply p .ok s.sequenceBytes s)

/-- The journal after a read of up to `n` records by a port (R173). -/
def Journal.read (j : Journal) (p : Fin 3) (n : Nat) : Journal :=
  { j with unread := j.unread.set p (j.unread[p] - min n j.unread[p]), lost := j.lost.set p 0 }

/-- JOURNAL_READ: the count 1..255, above 4 taken as 4 (R160, R173). -/
def serveJournalRead (p : Fin 3) (payload : List Byte) (s : State) : State :=
  match payload with
  | [b] =>
    if 1 ≤ b.toNat then
      let n := min b.toNat 4
      reply p .ok (s.jrn.readBytes p n) { s with jrn := s.jrn.read p n }
    else refuse p .badParam s
  | _ => refuse p .badParam s

/-- NOTICE_MASK: the mask and the watermark 1..128 (R168); bit 7 names no flag (log 14). -/
def serveNoticeMask (p : Fin 3) (payload : List Byte) (s : State) : State :=
  match payload with
  | [m, w] =>
    if m.toNat < 128 ∧ 1 ≤ w.toNat ∧ w.toNat ≤ 128 then
      reply p .ok [m, w] (s.modPort p (fun q => Port.drive { q with mask := m.setWidth 7, watermark := w.toNat }))
    else refuse p .badParam s
  | _ => refuse p .badParam s

/-! ### The plan -/

/-- CLAIM at the PLS (R50). -/
def ownerClaim (p : Fin 3) (s : State) : State :=
  match s.pls.claim with
  | none => reply p .ok [] (raiseAll .claim { s with pls.claim := some ⟨p, s.pls.active⟩ })
  | some c => if c.holder = p then reply p .ok [] s else reply p .held [byteOf c.holder.val] s

/-- CLAIM (R50). -/
def serveClaim (p : Fin 3) (payload : List Byte) (s : State) : State :=
  withRight p (s.rightsOf p).edit s (withNoParam p payload s (ownerClaim p s))

/-- The claim dropped and the shadow discarded, with the CLAIM notice on every port (R51). -/
def dropClaim (s : State) : State := raiseAll .claim { s with pls.claim := none }

/-- Whether a port holds the claim (R42). -/
def State.holdsClaim (s : State) (p : Fin 3) : Bool := s.pls.holder == some p

/-- RELEASE (R51). -/
def serveRelease (p : Fin 3) (payload : List Byte) (s : State) : State :=
  withNoParam p payload s (if s.holdsClaim p then reply p .ok [] (dropClaim s) else reply p .notClaimed [] s)

/-- PLAN_WRITE at the PLS: the record of the shadow is replaced (R53). -/
def ownerPlanWrite (p : Fin 3) (r : PlanRecord) (s : State) : State :=
  match s.pls.claim with
  | none => reply p .notClaimed [] s
  | some c =>
    if c.holder = p then reply p .ok [] { s with pls.claim := some { c with shadow := c.shadow.write r } }
    else reply p .notClaimed [] s

/-- The record that a PLAN_WRITE payload carries, every field in range (R52). -/
def planWriteRecord : List Byte → Option PlanRecord
  | kind :: index :: content => (recordAddr kind index).bind (fun a => recordContent a content)
  | _ => none

/-- The record kind and index that a refused PLAN_WRITE names; a byte that is missing is free (R52, R160; log 12). -/
def namedRecord (free : Nat) (payload : List Byte) : List Byte :=
  [payload.getD 0 (Config.unnamedRecord free 0), payload.getD 1 (Config.unnamedRecord free 1)]

/-- PLAN_WRITE (R52, R53). -/
def servePlanWrite (p : Fin 3) (payload : List Byte) (s : State) : State :=
  withRight p (s.rightsOf p).edit s
    (match planWriteRecord payload with
      | none => reply p .badParam (namedRecord s.free payload) s
      | some r => ownerPlanWrite p r s)

/-- The shadow plan, while a claim is held (R42). -/
def Pls.shadow (q : Pls) : Option Plan := q.claim.map Claim.shadow

/-- PLAN_READ: the selector, the kind and the index (R54, R193). -/
def servePlanRead (p : Fin 3) (payload : List Byte) (s : State) : State :=
  match payload with
  | [sel, kind, index] =>
    match recordAddr kind index with
    | none => refuse p .badParam s
    | some a =>
      if sel = 0 then reply p .ok ([kind, index] ++ s.pls.active.read a) s
      else if sel = 1 then
        match s.pls.shadow with
        | none => reply p .notClaimed [] s
        | some shadow => reply p .ok ([kind, index] ++ shadow.read a) s
      else refuse p .badParam s
  | _ => refuse p .badParam s

/-- COMMIT: save, no or yes (R57, R58). -/
def serveCommit (p : Fin 3) (payload : List Byte) (s : State) : State :=
  withRight p (s.rightsOf p).edit s
    (match payload with
      | [b] => if b = 0 then ownerCommit p false s else if b = 1 then ownerCommit p true s else refuse p .badParam s
      | _ => refuse p .badParam s)

/-- SAVE at the IML (R188). -/
def ownerSave (p : Fin 3) (s : State) : State :=
  if s.seq.state = .noPlan then reply p .wrongState [] s
  else if s.iml.link = .idle then beginSave p s
  else reply p .busy [] s

/-- SAVE (R188). -/
def serveSave (p : Fin 3) (payload : List Byte) (s : State) : State :=
  withRight p (s.rightsOf p).edit s (withNoParam p payload s (ownerSave p s))

/-! ### Consent and veto -/

/-- A first consent (R133, row 5). -/
def firstConsent (p : Fin 3) (s : State) : State :=
  let s := { s with ctk.held := some p, ctk.window := some (s.pls.active.params.consentWindow * 1000) }
  reply p .acceptedFirst [] (setTracker .one (post (.consent p .first) s))

/-- The grant of the restart (R134). -/
def grantRestart (p : Fin 3) (s : State) : State :=
  let s := post (.consent p .granted) s
  let s := { s with ctk.held := none, ctk.window := none }
  let s := setTracker .inactive (setSequence .restarting s)
  reply p .granted [] (settle (beginRestart s))

/-- CONSENT at the tracker (R133). -/
def ownerConsent (p : Fin 3) (s : State) : State :=
  match s.ctk.state with
  | .inactive => reply p .wrongState [] s
  | .waitQuiet => reply p .notQuiet [] s
  | .openState => if s.ctk.veto.toList.any id then reply p .vetoed [] s else firstConsent p s
  | .one =>
    if s.ctk.veto.toList.any id then reply p .vetoed [] s
    else if s.ctk.held = some p then reply p .already [] s
    else grantRestart p s

/-- CONSENT (R133, R134). -/
def serveConsent (p : Fin 3) (payload : List Byte) (s : State) : State :=
  withRight p (s.rightsOf p).consent s (withNoParam p payload s (ownerConsent p s))

/-- A veto flag changed, with its record and the CONSENT notice (R138, R139). -/
def setVeto (p : Fin 3) (v : Bool) (s : State) : State :=
  raiseAll .consent (post (.veto p v) { s with ctk.veto := s.ctk.veto.set p v })

/-- What a veto does beyond its flag (R138): the held consent discarded, or the restart stopped (R154). -/
def vetoEffect (s : State) : State :=
  if s.seq.state = .restarting then settle (vetoStop s)
  else if s.ctk.state = .one then consentBackToOpen .discarded s
  else s

/-- VETO at the tracker (R138). -/
def ownerVeto (p : Fin 3) (s : State) : State :=
  if s.seq.state = .startup then reply p .wrongState [] s
  else if s.ctk.veto[p] then reply p .ok [] s
  else reply p .ok [] (vetoEffect (setVeto p true s))

/-- VETO (R138). -/
def serveVeto (p : Fin 3) (payload : List Byte) (s : State) : State :=
  withRight p (s.rightsOf p).veto s (withNoParam p payload s (ownerVeto p s))

/-- VETO_CLEAR (R139). -/
def serveVetoClear (p : Fin 3) (payload : List Byte) (s : State) : State :=
  withNoParam p payload s (reply p .ok [] (if s.ctk.veto[p] then setVeto p false s else s))

/-! ### Faults -/

/-- The detail of a condition as it now stands (R178). -/
def State.conditionDetail (s : State) (k : FaultKind) : Detail :=
  match k, s.lowestUnreachable with
  | .stationUnreachable, some st => .loadStation st
  | _, _ => .none

/-- One named kind cleared, and set again if its condition persists (R178 points 1 to 3). A JOURNAL_OVERRUN that the new FAULT record
causes is raised before the next named kind, so that the same request may clear it (log 46). -/
def clearKind (s : State) (k : FaultKind) : State :=
  if s.fmn.status[k.idx] then
    let s := { s with fmn.status := s.fmn.status.set k.idx false }
    let s := if s.fmn.pointer = some k then { s with fmn.pointer := none, fmn.capture := none } else s
    if s.conditionOf k then raiseFault k (s.conditionDetail k) s else s
  else s

/-- The kinds that a set names, in kind-number order (R178, R193). -/
def namedKinds (set : Nat) : List FaultKind := FaultKind.all.filter (fun k => set.testBit k.idx.val)

/-- FAULT_CLEAR at the Fault Monitor (R178). -/
def ownerFaultClear (p : Fin 3) (set : Nat) (s : State) : State :=
  let s := driveFault ((namedKinds set).foldl clearKind s)
  reply p .ok (s.fmn.bytes s.free) s

/-- FAULT_CLEAR: any set of the twelve kinds (R178); bits above 11 name no kind (log 14). -/
def serveFaultClear (p : Fin 3) (payload : List Byte) (s : State) : State :=
  match payload with
  | [lo, hi] => if halfValue lo hi < 4096 then ownerFaultClear p (halfValue lo hi) s else refuse p .badParam s
  | _ => refuse p .badParam s

/-! ### Points by hand -/

/-- MANUAL_SHED at the PTM (R81). -/
def ownerManualShed (p : Fin 3) (i : Fin 64) (s : State) : State :=
  if s.seq.state = .watch ∨ s.seq.state = .halted then
    match s.pointState i with
    | .energised => reply p .ok [] (wantShed i .manual s)
    | .failed => reply p .ok [] (wantShed i .manual s)
    | .shed => reply p .ok [] s
    | _ => reply p .wrongState [] s
  else reply p .wrongState [] s

/-- MANUAL_SHED (R81). -/
def serveManualShed (p : Fin 3) (payload : List Byte) (s : State) : State :=
  withRight p (s.rightsOf p).operate s (withPoint p payload s (fun i => ownerManualShed p i s))

/-- A point placed at the gate by hand, if its weight fits the budget (R82). -/
def placeManual (p : Fin 3) (i : Fin 64) (s : State) : State :=
  if s.pls.active.points[i].weight ≤ s.pls.active.params.inrushBudget then
    let s := s.modPoint i (fun e => { e with manual := true })
    reply p .ok [] (settle (movePoint i .await .manual s))
  else reply p .overBudget [] s

/-- MANUAL_RESTORE at the PTM (R82). -/
def ownerManualRestore (p : Fin 3) (i : Fin 64) (s : State) : State :=
  if s.seq.state = .watch then
    match s.pointState i with
    | .shed => placeManual p i s
    | .failed => placeManual p i s
    | _ => reply p .wrongState [] s
  else reply p .wrongState [] s

/-- MANUAL_RESTORE (R82). -/
def serveManualRestore (p : Fin 3) (payload : List Byte) (s : State) : State :=
  withRight p (s.rightsOf p).operate s (withPoint p payload s (fun i => ownerManualRestore p i s))

end Sys2Proof.Machine
end

