-- ==== Sys2Proof/Machine/Ports.lean ====
section
/-! DEFINITION. The supervisory ports: taking a frame (R157 to R160), the frames that are not valid, the end of a reply, the link timeout and the port reset (R158), and one command for each request of R161. -/

namespace Sys2Proof.Machine

/-! ### Taking a frame -/

/-- A frame error counted at a port (R156, R157, R159). -/
def countFrameError (p : Fin 3) (s : State) : State :=
  s.modPort p (fun q => { q with frameErrors := saturate (q.frameErrors + 1) })

/-- A valid frame makes its port UP and restarts the link timer (R158); the receiver is in HUNT after it, and a frame that was under
collection when a request command came is dropped and not counted (log 45). -/
def linkUp (p : Fin 3) (s : State) : State :=
  s.modPort p (fun q => { q with up := true, link := some (s.pls.active.params.linkTimeout * 1000), rx := .hunt })

/-- A valid frame while a request is in service: BUSY, or discarded and counted while a BUSY reply waits (R159; log 18). -/
def answerBusy (p : Fin 3) (code : Byte) (s : State) : State :=
  if s.spu.ports[p].queue.any Reply.byBusy then countFrameError p s
  else s.modPort p (fun q => { q with queue := q.queue ++ [⟨code, .busy, [], true⟩] })

/-- A request comes into service with its code (R159). -/
def enterService (p : Fin 3) (code : Byte) (s : State) : State := s.modPort p (fun q => { q with service := some code })

/-- A valid frame taken: the link, then BUSY or service (R158, R159); the link timer restarts for a valid frame that R159 then discards
as well (log 43). A payload above 120 bytes cannot stand in a valid frame and is counted as its length byte would be (R157; log 28). -/
def takeFrame (p : Fin 3) (code : Byte) (payload : List Byte) (serve : State → State) (s : State) : State :=
  if 120 < payload.length then countFrameError p s
  else
    let s := linkUp p s
    if s.spu.ports[p].service.isSome then answerBusy p code s else serve (enterService p code s)

/-- A request by its code; every other code is answered UNKNOWN_REQUEST (R160, R161). -/
def serveCode (p : Fin 3) (code : Byte) (payload : List Byte) (s : State) : State :=
  match code.toNat with
  | 0x01 => serveStatus p payload s
  | 0x02 => serveIdent p payload s
  | 0x03 => serveStationDetail p payload s
  | 0x04 => servePointDetail p payload s
  | 0x05 => serveSequenceDetail p payload s
  | 0x06 => serveJournalRead p payload s
  | 0x07 => serveNoticeMask p payload s
  | 0x10 => serveClaim p payload s
  | 0x11 => serveRelease p payload s
  | 0x12 => servePlanWrite p payload s
  | 0x13 => servePlanRead p payload s
  | 0x14 => serveCommit p payload s
  | 0x15 => serveSave p payload s
  | 0x20 => serveConsent p payload s
  | 0x21 => serveVeto p payload s
  | 0x22 => serveVetoClear p payload s
  | 0x28 => serveFaultClear p payload s
  | 0x30 => serveManualShed p payload s
  | 0x31 => serveManualRestore p payload s
  | _ => refuse p .unknownRequest s

/-- A collected frame is valid when its check holds and no byte came with a stop-bit error; else it is discarded and counted (R157). -/
def requestFrame (p : Fin 3) (bytes : List Byte) (bad : Bool) (s : State) : State :=
  if bad || !checkHolds bytes then countFrameError p s
  else
    let code := bytes.getD 2 0
    let payload := (bytes.drop 3).take (bytes.getD 1 0).toNat
    takeFrame p code payload (serveCode p code payload) s

/-- A byte at a supervisory port (R157). -/
def requestByte (p : Fin 3) (s : State) (b : LineByte) : State :=
  let r := s.spu.ports[p].rx.feedRequest b
  let s := s.modPort p (fun q => { q with rx := r.1 })
  match r.2 with
  | .nothing => s
  | .tooLong => countFrameError p s
  | .frame bytes bad => requestFrame p bytes bad s

/-- REQUEST_FRAME_INVALID: bytes arrive on a supervisory port; a frame that is not valid is discarded and counted (R157). Bytes that
make a valid frame are taken as that frame (log 4). -/
def execRequestFrameInvalid (p : Fin 3) (bytes : List LineByte) (s : State) : Host.Outcome State Fault Refusal :=
  .next (bytes.foldl (requestByte p) s)

/-- A partial frame abandoned by an idle, and counted (R157). -/
def abandonRequest (p : Fin 3) (s : State) : State :=
  match s.spu.ports[p].rx with
  | .hunt => s
  | .collect _ _ => countFrameError p (s.modPort p (fun q => { q with rx := .hunt }))

/-- REQUEST_IDLE_ABANDON: an idle of more than 5 ms, and the byte that ends it (R157). -/
def execRequestIdleAbandon (p : Fin 3) (next : Option LineByte) (s : State) : Host.Outcome State Fault Refusal :=
  .next ((optionBytes next).foldl (requestByte p) (abandonRequest p s))

/-- REQUEST_WHILE_BUSY: a valid frame of any code (R159; log 5). -/
def execRequestWhileBusy (p : Fin 3) (code : Byte) (payload : List Byte) (s : State) : Host.Outcome State Fault Refusal :=
  .next (takeFrame p code payload (serveCode p code payload) s)

/-- UNKNOWN_REQUEST: a valid frame with a code that the table of R161 does not list (R160; log 5). -/
def execUnknownRequest (p : Fin 3) (code : Byte) (payload : List Byte) (s : State) : Host.Outcome State Fault Refusal :=
  .next (takeFrame p code payload (fun t => serveCode p code payload t) s)

/-! ### The end of a reply -/

/-- The oldest reply leaves the queue; the reply of the request in service ends that service (R159). -/
def Port.sent (q : Port) : Port :=
  match q.tail with
  | some _ => { q with tail := none }
  | none =>
    match q.queue with
    | [] => q
    | r :: rest => { q with queue := rest, service := if r.byBusy then q.service else none }

/-- REPLY_SENT: the last byte of a reply is sent (R159; log 18). -/
def execReplySent (p : Fin 3) (s : State) : Host.Outcome State Fault Refusal := .next (s.modPort p Port.sent)

/-! ### The port reset (R158) -/

/-- Points 1 and 2 of R158 at the port itself: flags, mask, watermark, request, queue, receiver, and the line. -/
def Port.resetTo (watermark : Nat) (q : Port) : Port :=
  Port.drive { q with
    up := false
    link := none
    flags := 0
    mask := 0x7f
    watermark := watermark
    service := none
    queue := []
    tail := q.tail.or q.queue.head?
    rx := .hunt }

/-- The reply of a save that the port awaited is not sent (R158 point 2, R62, R190). -/
def abandonSaveReply (p : Fin 3) (s : State) : State :=
  match s.iml.save with
  | none => s
  | some f => if f.port = p then { s with iml.save := some { f with replyOwed := false } } else s

/-- A held consent of the port withdrawn (R158 point 4, R136). -/
def withdrawConsent (p : Fin 3) (s : State) : State :=
  if s.ctk.held = some p then consentBackToOpen .withdrawn s else s

/-- The port reset (R158). -/
def portReset (p : Fin 3) (s : State) : State :=
  let s := s.modPort p (Port.resetTo s.pls.active.params.watermark)
  let s := abandonSaveReply p s
  let s := if s.holdsClaim p then dropClaim s else s
  raiseFault .portLink (.port p) (withdrawConsent p s)

/-- LINK_TIMEOUT: the link timer of an UP port runs out (R158). -/
def execLinkTimeout (p : Fin 3) (s : State) : Host.Outcome State Fault Refusal :=
  .next (if s.spu.ports[p].link.isSome then portReset p s else s)

/-! ### The requests -/

/-- STATUS (R162). -/
def execStatus (p : Fin 3) (payload : List Byte) (s : State) : Host.Outcome State Fault Refusal :=
  .next (takeFrame p 0x01 payload (serveStatus p payload) s)

/-- IDENT (R163). -/
def execIdent (p : Fin 3) (payload : List Byte) (s : State) : Host.Outcome State Fault Refusal :=
  .next (takeFrame p 0x02 payload (serveIdent p payload) s)

/-- STATION_DETAIL (R164). -/
def execStationDetail (p : Fin 3) (payload : List Byte) (s : State) : Host.Outcome State Fault Refusal :=
  .next (takeFrame p 0x03 payload (serveStationDetail p payload) s)

/-- POINT_DETAIL (R165). -/
def execPointDetail (p : Fin 3) (payload : List Byte) (s : State) : Host.Outcome State Fault Refusal :=
  .next (takeFrame p 0x04 payload (servePointDetail p payload) s)

/-- SEQUENCE_DETAIL (R130, R155). -/
def execSequenceDetail (p : Fin 3) (payload : List Byte) (s : State) : Host.Outcome State Fault Refusal :=
  .next (takeFrame p 0x05 payload (serveSequenceDetail p payload) s)

/-- JOURNAL_READ (R173). -/
def execJournalRead (p : Fin 3) (payload : List Byte) (s : State) : Host.Outcome State Fault Refusal :=
  .next (takeFrame p 0x06 payload (serveJournalRead p payload) s)

/-- NOTICE_MASK (R168). -/
def execNoticeMask (p : Fin 3) (payload : List Byte) (s : State) : Host.Outcome State Fault Refusal :=
  .next (takeFrame p 0x07 payload (serveNoticeMask p payload) s)

/-- CLAIM (R50). -/
def execClaim (p : Fin 3) (payload : List Byte) (s : State) : Host.Outcome State Fault Refusal :=
  .next (takeFrame p 0x10 payload (serveClaim p payload) s)

/-- RELEASE (R51). -/
def execRelease (p : Fin 3) (payload : List Byte) (s : State) : Host.Outcome State Fault Refusal :=
  .next (takeFrame p 0x11 payload (serveRelease p payload) s)

/-- PLAN_WRITE (R52, R53). -/
def execPlanWrite (p : Fin 3) (payload : List Byte) (s : State) : Host.Outcome State Fault Refusal :=
  .next (takeFrame p 0x12 payload (servePlanWrite p payload) s)

/-- PLAN_READ (R54). -/
def execPlanRead (p : Fin 3) (payload : List Byte) (s : State) : Host.Outcome State Fault Refusal :=
  .next (takeFrame p 0x13 payload (servePlanRead p payload) s)

/-- COMMIT (R57, R58). -/
def execCommit (p : Fin 3) (payload : List Byte) (s : State) : Host.Outcome State Fault Refusal :=
  .next (takeFrame p 0x14 payload (serveCommit p payload) s)

/-- SAVE (R188). -/
def execSave (p : Fin 3) (payload : List Byte) (s : State) : Host.Outcome State Fault Refusal :=
  .next (takeFrame p 0x15 payload (serveSave p payload) s)

/-- CONSENT (R133, R134). -/
def execConsent (p : Fin 3) (payload : List Byte) (s : State) : Host.Outcome State Fault Refusal :=
  .next (takeFrame p 0x20 payload (serveConsent p payload) s)

/-- VETO (R138). -/
def execVeto (p : Fin 3) (payload : List Byte) (s : State) : Host.Outcome State Fault Refusal :=
  .next (takeFrame p 0x21 payload (serveVeto p payload) s)

/-- VETO_CLEAR (R139). -/
def execVetoClear (p : Fin 3) (payload : List Byte) (s : State) : Host.Outcome State Fault Refusal :=
  .next (takeFrame p 0x22 payload (serveVetoClear p payload) s)

/-- FAULT_CLEAR (R178). -/
def execFaultClear (p : Fin 3) (payload : List Byte) (s : State) : Host.Outcome State Fault Refusal :=
  .next (takeFrame p 0x28 payload (serveFaultClear p payload) s)

/-- MANUAL_SHED (R81). -/
def execManualShed (p : Fin 3) (payload : List Byte) (s : State) : Host.Outcome State Fault Refusal :=
  .next (takeFrame p 0x30 payload (serveManualShed p payload) s)

/-- MANUAL_RESTORE (R82). -/
def execManualRestore (p : Fin 3) (payload : List Byte) (s : State) : Host.Outcome State Fault Refusal :=
  .next (takeFrame p 0x31 payload (serveManualRestore p payload) s)

end Sys2Proof.Machine
end

