-- ==== Sys2Proof/Machine/Time.lean ====
section
/-! DEFINITION. Time: what 1 ms does to the clock, quiet time and the running timers, and which expiry is due (log 1). -/

namespace Sys2Proof.Machine

/-- A running timer counted down by 1 ms, to 0. -/
def countDown (t : Option Nat) : Option Nat := t.map (fun n => n - 1)

/-- A channel after 1 ms (R12). -/
def Channel.elapse (c : Channel) : Channel := { c with gap := countDown c.gap }

/-- A point entry after 1 ms (R72, R73). -/
def PointEntry.elapse (e : PointEntry) : PointEntry := { e with grace := countDown e.grace, settle := countDown e.settle }

/-- A port after 1 ms (R158). -/
def Port.elapse (p : Port) : Port := { p with link := countDown p.link }

/-- Quiet time after 1 ms: it grows while the level is QUIET and H is 1 or more, to 3,600,000 ms (R34). -/
def Mev.quietAfter (m : Mev) : Nat :=
  if m.level = .quiet ∧ m.healthy ≠ 0 then min (m.quiet + 1) 3600000 else m.quiet

/-- The Motion Evaluator after 1 ms (R33, R34). -/
def Mev.elapse (m : Mev) : Mev :=
  { m with quiet := m.quietAfter, blindTimer := m.blindTimer.map (fun t => min (t + 1) 2000) }

/-- The in-flight order after 1 ms (R93). -/
def InFlight.elapse (f : InFlight) : InFlight := { f with timer := countDown f.timer }

/-- The part after 1 ms in which nothing arrives and nothing expires (R34, R169 and the rules of the timers). -/
def elapse (s : State) : State :=
  { s with
    siu := s.siu.map Channel.elapse
    mev := s.mev.elapse
    ptm.points := s.ptm.points.map PointEntry.elapse
    seq.shedDelay := countDown s.seq.shedDelay
    seq.shedTimeout := countDown s.seq.shedTimeout
    seq.restartDelay := countDown s.seq.restartDelay
    seq.restartTimeout := countDown s.seq.restartTimeout
    ctk.window := countDown s.ctk.window
    flc.inFlight := s.flc.inFlight.map InFlight.elapse
    flc.pollTimer := countDown s.flc.pollTimer
    flc.spacing := countDown s.flc.spacing
    flc.timedOut := false
    spu.ports := s.spu.ports.map Port.elapse
    jrn.clock := s.jrn.clock + 1 }

/-- A timer that has run out. -/
def isDue (t : Option Nat) : Bool := t == some 0

/-- The expiry, if the test holds. -/
def dueIf (b : Bool) (i : Instr) : List Instr := if b then [i] else []

/-- The expiries of the six stations that are due, in station order (R12). -/
def State.dueGaps (s : State) : List Instr :=
  (List.finRange 6).flatMap (fun i => dueIf (isDue s.siu[i].gap) (.gapTimerExpiry i))

/-- Whether the in-flight order's reply timer has run out (R98). -/
def State.replyDue (s : State) : Bool :=
  match s.flc.inFlight with
  | none => false
  | some f => isDue f.timer

/-- Every expiry that is due, in the order of the rows of the table (log 1). -/
def State.dueExpiries (s : State) : List Instr :=
  s.dueGaps
    ++ dueIf (s.mev.blindTimer == some 2000 && !s.mev.blind) .blindTimerExpiry
    ++ dueIf (s.quietGrowing && s.quietLongEnough) .quietReached
    ++ dueIf s.replyDue .replyTimeout
    ++ dueIf (isDue s.flc.pollTimer) .pollTimerExpiry
    ++ dueIf (isDue s.flc.spacing) .restoreSpacingExpiry
    ++ allPoints.flatMap (fun p => dueIf (isDue s.ptm.points[p].grace) (.graceTimerExpiry p))
    ++ allPoints.flatMap (fun p => dueIf (isDue s.ptm.points[p].settle) (.settleTimerExpiry p))
    ++ dueIf (isDue s.seq.shedDelay) .shedDelayExpiry
    ++ dueIf (isDue s.seq.shedTimeout) .shedStepTimeout
    ++ dueIf (isDue s.seq.restartDelay) .restartDelayExpiry
    ++ dueIf (isDue s.seq.restartTimeout) .restartStepTimeout
    ++ dueIf (isDue s.ctk.window) .consentWindowExpiry
    ++ ([0, 1, 2] : List (Fin 3)).flatMap (fun i => dueIf (isDue s.spu.ports[i].link) (.linkTimeout i))

/-- What the part does with no command waiting: the first expiry that is due joins the queue, or, with none due, 1 ms passes (log 1). -/
def idle (s : State) : State :=
  match s.dueExpiries with
  | [] => elapse s
  | i :: _ => { s with pending := [i] }

end Sys2Proof.Machine
end

