-- ==== Sys2Proof/Machine/Dispatch.lean ====
section
/-! DEFINITION. Which meaning each command has: one arm for each constructor of Instr. -/

namespace Sys2Proof.Machine

/-- The effect of a command on everything but the queue. -/
def exec (i : Instr) (s : State) : Host.Outcome State Fault Refusal :=
  match i with
  | .coldReset => Sys2Proof.Machine.execColdReset s
  | .warmReset => Sys2Proof.Machine.execWarmReset s
  | .imageLoadEnd image => Sys2Proof.Machine.execImageLoadEnd image s
  | .saveEnd failedAt => Sys2Proof.Machine.execSaveEnd failedAt s
  | .sensorFrame ss bytes => Sys2Proof.Machine.execSensorFrame ss bytes s
  | .sensorIdleAbandon ss b => Sys2Proof.Machine.execSensorIdleAbandon ss b s
  | .gapTimerExpiry ss => Sys2Proof.Machine.execGapTimerExpiry ss s
  | .blindTimerExpiry => Sys2Proof.Machine.execBlindTimerExpiry s
  | .quietReached => Sys2Proof.Machine.execQuietReached s
  | .orderFrameEnd => Sys2Proof.Machine.execOrderFrameEnd s
  | .tripAllFrameEnd => Sys2Proof.Machine.execTripAllFrameEnd s
  | .loopReplyFrame bytes => Sys2Proof.Machine.execLoopReplyFrame bytes s
  | .loopIdleAbandon b => Sys2Proof.Machine.execLoopIdleAbandon b s
  | .replyTimeout => Sys2Proof.Machine.execReplyTimeout s
  | .pollTimerExpiry => Sys2Proof.Machine.execPollTimerExpiry s
  | .restoreSpacingExpiry => Sys2Proof.Machine.execRestoreSpacingExpiry s
  | .graceTimerExpiry p => Sys2Proof.Machine.execGraceTimerExpiry p s
  | .settleTimerExpiry p => Sys2Proof.Machine.execSettleTimerExpiry p s
  | .shedDelayExpiry => Sys2Proof.Machine.execShedDelayExpiry s
  | .shedStepTimeout => Sys2Proof.Machine.execShedStepTimeout s
  | .restartDelayExpiry => Sys2Proof.Machine.execRestartDelayExpiry s
  | .restartStepTimeout => Sys2Proof.Machine.execRestartStepTimeout s
  | .consentWindowExpiry => Sys2Proof.Machine.execConsentWindowExpiry s
  | .linkTimeout p => Sys2Proof.Machine.execLinkTimeout p s
  | .requestFrameInvalid p bytes => Sys2Proof.Machine.execRequestFrameInvalid p bytes s
  | .requestIdleAbandon p b => Sys2Proof.Machine.execRequestIdleAbandon p b s
  | .requestWhileBusy p code payload => Sys2Proof.Machine.execRequestWhileBusy p code payload s
  | .replySent p => Sys2Proof.Machine.execReplySent p s
  | .unknownRequest p code payload => Sys2Proof.Machine.execUnknownRequest p code payload s
  | .status p payload => Sys2Proof.Machine.execStatus p payload s
  | .ident p payload => Sys2Proof.Machine.execIdent p payload s
  | .stationDetail p payload => Sys2Proof.Machine.execStationDetail p payload s
  | .pointDetail p payload => Sys2Proof.Machine.execPointDetail p payload s
  | .sequenceDetail p payload => Sys2Proof.Machine.execSequenceDetail p payload s
  | .journalRead p payload => Sys2Proof.Machine.execJournalRead p payload s
  | .noticeMask p payload => Sys2Proof.Machine.execNoticeMask p payload s
  | .claim p payload => Sys2Proof.Machine.execClaim p payload s
  | .release p payload => Sys2Proof.Machine.execRelease p payload s
  | .planWrite p payload => Sys2Proof.Machine.execPlanWrite p payload s
  | .planRead p payload => Sys2Proof.Machine.execPlanRead p payload s
  | .commit p payload => Sys2Proof.Machine.execCommit p payload s
  | .save p payload => Sys2Proof.Machine.execSave p payload s
  | .consent p payload => Sys2Proof.Machine.execConsent p payload s
  | .veto p payload => Sys2Proof.Machine.execVeto p payload s
  | .vetoClear p payload => Sys2Proof.Machine.execVetoClear p payload s
  | .faultClear p payload => Sys2Proof.Machine.execFaultClear p payload s
  | .manualShed p payload => Sys2Proof.Machine.execManualShed p payload s
  | .manualRestore p payload => Sys2Proof.Machine.execManualRestore p payload s

end Sys2Proof.Machine
end

