-- ==== Sys2Proof/WellFormed.lean ====
section
/-! DEFINITION. Which commands the links can bring: the checks on a command's operands. -/

namespace Sys2Proof

/-- The request codes of R161. -/
def requestCodes : List Byte :=
  [0x01, 0x02, 0x03, 0x04, 0x05, 0x06, 0x07, 0x10, 0x11, 0x12, 0x13, 0x14, 0x15, 0x20, 0x21, 0x22, 0x28, 0x30, 0x31]

/-- A request frame's payload has at most 120 bytes (R157). -/
def payloadFits (payload : List Byte) : Bool := decide (payload.length ≤ 120)

/-- A burst of received bytes holds at least one byte and at most one frame of `n` bytes (log 4). -/
def burstFits (n : Nat) (bytes : List LineByte) : Bool :=
  decide (1 ≤ bytes.length) && decide (bytes.length ≤ n)

/-- The operand checks: an image of at most 8192 bytes (R183), a sensor burst of at most 12 bytes (R1), a loop burst of at
most 10 (R95), a supervisory burst of at most 125 (f08 section 8.2), payloads of at most 120 bytes (R157), and an unlisted
code for UNKNOWN_REQUEST (R160). -/
def Instr.wf : Instr → Bool
  | .coldReset => true
  | .warmReset => true
  | .imageLoadEnd image => decide (image.length ≤ 8192)
  | .saveEnd _ => true
  | .sensorFrame _ bytes => burstFits 12 bytes
  | .sensorIdleAbandon _ _ => true
  | .gapTimerExpiry _ => true
  | .blindTimerExpiry => true
  | .quietReached => true
  | .orderFrameEnd => true
  | .tripAllFrameEnd => true
  | .loopReplyFrame bytes => burstFits 10 bytes
  | .loopIdleAbandon _ => true
  | .replyTimeout => true
  | .pollTimerExpiry => true
  | .restoreSpacingExpiry => true
  | .graceTimerExpiry _ => true
  | .settleTimerExpiry _ => true
  | .shedDelayExpiry => true
  | .shedStepTimeout => true
  | .restartDelayExpiry => true
  | .restartStepTimeout => true
  | .consentWindowExpiry => true
  | .linkTimeout _ => true
  | .requestFrameInvalid _ bytes => burstFits 125 bytes
  | .requestIdleAbandon _ _ => true
  | .requestWhileBusy _ _ payload => payloadFits payload
  | .replySent _ => true
  | .unknownRequest _ code payload => !requestCodes.contains code && payloadFits payload
  | .status _ payload => payloadFits payload
  | .ident _ payload => payloadFits payload
  | .stationDetail _ payload => payloadFits payload
  | .pointDetail _ payload => payloadFits payload
  | .sequenceDetail _ payload => payloadFits payload
  | .journalRead _ payload => payloadFits payload
  | .noticeMask _ payload => payloadFits payload
  | .claim _ payload => payloadFits payload
  | .release _ payload => payloadFits payload
  | .planWrite _ payload => payloadFits payload
  | .planRead _ payload => payloadFits payload
  | .commit _ payload => payloadFits payload
  | .save _ payload => payloadFits payload
  | .consent _ payload => payloadFits payload
  | .veto _ payload => payloadFits payload
  | .vetoClear _ payload => payloadFits payload
  | .faultClear _ payload => payloadFits payload
  | .manualShed _ payload => payloadFits payload
  | .manualRestore _ payload => payloadFits payload

end Sys2Proof
end

