-- ==== Sys2Proof/Safety.lean ====
section
/-! DEFINITION. What the part keeps true: the invariants that the statements speak of, and the words they use for what a request does to its port. -/

namespace Sys2Proof.Machine

/-! ### Records in range -/

/-- A PARAMETERS record in range (R44). -/
def Params.inRange (p : Params) : Prop :=
  (1 ≤ p.t1 ∧ p.t1 ≤ 60000) ∧ (1 ≤ p.t2 ∧ p.t2 ≤ 60000) ∧ (1 ≤ p.t3 ∧ p.t3 ≤ 60000)
    ∧ (1 ≤ p.voteCount ∧ p.voteCount ≤ 3) ∧ (50 ≤ p.fallHold ∧ p.fallHold ≤ 1000)
    ∧ (60 ≤ p.quietPeriod ∧ p.quietPeriod ≤ 3600) ∧ (30 ≤ p.consentWindow ∧ p.consentWindow ≤ 600)
    ∧ p.abortLevel ≠ .quiet ∧ (1 ≤ p.inrushBudget ∧ p.inrushBudget ≤ 1023) ∧ p.restoreSpacing ≤ 2000
    ∧ (200 ≤ p.pollInterval ∧ p.pollInterval ≤ 5000) ∧ (1 ≤ p.linkTimeout ∧ p.linkTimeout ≤ 60)
    ∧ (1 ≤ p.watermark ∧ p.watermark ≤ 128) ∧ p.generation ≤ 65535

/-- A STATION record in range (R45). -/
def StationRec.inRange (r : StationRec) : Prop := r.floor ≤ 255

/-- A POINT record in range (R45). -/
def PointRec.inRange (r : PointRec) : Prop := r.grace ≤ 600 ∧ r.weight ≤ 255 ∧ r.settle ≤ 60

/-- A SHED STEP record in range (R46). -/
def ShedStep.inRange (h : ShedStep) : Prop :=
  h.points.length ≤ 8 ∧ h.points.Nodup ∧ h.trigger ≠ .quiet ∧ h.delay ≤ 600 ∧ 1 ≤ h.timeout ∧ h.timeout ≤ 600

/-- A RESTART STEP record in range (R46). -/
def RestartStep.inRange (k : RestartStep) : Prop :=
  k.points.length ≤ 8 ∧ k.points.Nodup ∧ k.delay ≤ 600 ∧ 1 ≤ k.timeout ∧ k.timeout ≤ 600

/-- A LABEL in range (R48). -/
def labelInRange (l : List Byte) : Prop := l.length ≤ 16 ∧ ∀ b ∈ l, 0x20 ≤ b.toNat ∧ b.toNat ≤ 0x7e

/-- A plan whose records are all in range (R44 to R48). -/
def Plan.inRange (p : Plan) : Prop :=
  p.params.inRange ∧ (∀ i : Fin 6, p.stations[i].inRange) ∧ (∀ i : Fin 64, p.points[i].inRange)
    ∧ (∀ i : Fin 48, p.shed[i].inRange) ∧ (∀ i : Fin 48, p.restart[i].inRange) ∧ ∀ i : Fin 64, labelInRange p.labels[i]

/-! ### Invariants -/

/-- The journal's bounds (R169): at most 128 records, no unread count above the records held, no lost count above 255. -/
def JournalOk (j : Journal) : Prop :=
  j.ring.length ≤ 128 ∧ ∀ p : Fin 3, j.unread[p] ≤ j.ring.length ∧ j.lost[p] ≤ 255

/-- Every attention line stands asserted exactly while a flag is both set and enabled (R166). -/
def AttentionOk (s : State) : Prop :=
  ∀ p : Fin 3, s.spu.ports[p].attention = (s.spu.ports[p].flags &&& s.spu.ports[p].mask != 0)

/-- The FAULT line stands as the statuses and the policy in force say (R180). -/
def FaultLineOk (s : State) : Prop := s.fmn.line = s.faultLineNow

/-- The healthy count is the number of HEALTHY channels (R15, R28). -/
def HealthyOk (s : State) : Prop := s.mev.healthy = s.healthyStations.length

/-- A window of at most 100 values, each 0..6000, with its sum and index (R18, R21). -/
def WindowOk (e : StationEval) : Prop :=
  e.window.length ≤ 100 ∧ (∀ v ∈ e.window, v ≤ 6000) ∧ e.sum = e.window.sum ∧ e.index = e.sum / 10

/-- Every window, and every last accepted excess value that a filler may carry into one (R3, R18, R21). -/
def MotionOk (s : State) : Prop := ∀ i : Fin 6, WindowOk s.mev.evals[i] ∧ s.siu[i].lastExcess ≤ 6000

/-- While the image load runs, the Sequencer is in the LOADING phase of STARTUP (R109, R182). -/
def LoadingOk (s : State) : Prop := s.iml.link = .loading → s.seq.state = .startup ∧ s.seq.phase = .loading

/-- A held consent and the consent window exist exactly in ONE, and the tracker is INACTIVE outside HALTED (R131). -/
def TrackerOk (s : State) : Prop :=
  (s.ctk.held.isSome = true ↔ s.ctk.state = .one) ∧ (s.ctk.window.isSome = true ↔ s.ctk.state = .one)
    ∧ (s.seq.state ≠ .halted → s.ctk.state = .inactive)

/-- The replies of a port's queue that are not BUSY replies of R159. -/
def Port.ownReplies (q : Port) : Nat := q.queue.countP (fun r => !r.byBusy)

/-- The BUSY replies of R159 in a port's queue. -/
def Port.busyReplies (q : Port) : Nat := q.queue.countP Reply.byBusy

/-- Whether a save in flight still owes a port its reply (R62, R158). -/
def State.owesReply (s : State) (p : Fin 3) : Prop := ∃ f, s.iml.save = some f ∧ f.replyOwed = true ∧ f.port = p

/-- The reply queues (R159): at most one BUSY reply and at most one reply of the request in service, whose request is still in service;
a port that a save owes a reply has its request in service and no reply yet; and a save is in flight only while SAVING (R182). -/
def QueuesOk (s : State) : Prop :=
  (∀ p : Fin 3, s.spu.ports[p].busyReplies ≤ 1 ∧ s.spu.ports[p].ownReplies ≤ 1
    ∧ (s.spu.ports[p].ownReplies = 1 → s.spu.ports[p].service.isSome = true)
    ∧ (s.owesReply p → s.spu.ports[p].service.isSome = true ∧ s.spu.ports[p].ownReplies = 0))
  ∧ (s.iml.save.isSome = true → s.iml.link = .saving)

/-- A point is UNUSED exactly while it is not in use in the active plan, and none is in use while the load runs (R59, R63, R64). -/
def UseOk (s : State) : Prop :=
  (∀ p : Fin 64, s.inUse p = false ↔ s.pointState p = .unused) ∧ (s.iml.link = .loading → ∀ p : Fin 64, s.inUse p = false)

/-- A motion slot is IN_FLIGHT exactly while its order is the one in flight on the loop (R87, R94). -/
def FlightOk (s : State) : Prop :=
  ∀ (p : Fin 64) (k : MotionKind), s.flc.motion[p] = .inFlight k ↔ ∃ f, s.flc.inFlight = some f ∧ f.order = .motion k p

/-- The state in which a point waits for a motion order (R65). -/
def MotionKind.moving : MotionKind → PointState
  | .warn => .warning
  | .shed => .opening
  | .restore => .closing

/-- A state that has no motion order (R65). -/
def PointState.still (st : PointState) : Prop := st ≠ .warning ∧ st ≠ .opening ∧ st ≠ .closing

/-- Each point's state corresponds to its motion slot (R65): the moving state of the order that is pending or in flight there, and no
moving state with none. An order in flight whose point has left use is nobody's (R69; log 19). -/
def SlotsOk (s : State) : Prop :=
  ∀ p : Fin 64, match s.flc.motion[p] with
    | .empty => (s.pointState p).still
    | .pending k => s.pointState p = k.moving
    | .inFlight k => ∀ f, s.flc.inFlight = some f →
      (f.voided = false → s.pointState p = k.moving) ∧ (f.voided = true → (s.pointState p).still)

/-- The sum of the inrush weights of the points in CLOSING or SETTLING (R79, R149). -/
def State.inrushCounted (s : State) : Nat :=
  (allPoints.map (fun p => if (s.pointState p).counts then s.pls.active.points[p].weight else 0)).sum

/-- The inrush in use is that sum, and never exceeds the inrush budget (R79, R149). -/
def InrushOk (s : State) : Prop :=
  s.ptm.inrush = s.inrushCounted ∧ s.ptm.inrush ≤ s.pls.active.params.inrushBudget

/-- The plant: the points, their slots, the order in flight and the inrush in use, with the tracker and the load they rest on: no point
is in use while the load runs, and no consent ends it. -/
def PlantOk (s : State) : Prop := LoadingOk s ∧ TrackerOk s ∧ UseOk s ∧ FlightOk s ∧ SlotsOk s ∧ InrushOk s

/-- The depth D and the shed target (R108, R115, R116): D never above the target, both within 0..48 and 0 with no event open, and D at
least 1 in HALTED and RESTARTING, where, as in SHEDDING, an event is open, and 0 in STARTUP, NO_PLAN and WATCH (R129). -/
def DepthOk (q : Seq) : Prop :=
  q.depth ≤ q.target ∧ q.target ≤ 48 ∧ (q.eventOpen = false → q.target = 0)
    ∧ (q.state = .halted ∨ q.state = .restarting → 1 ≤ q.depth)
    ∧ (q.state = .shedding → q.eventOpen = true)
    ∧ (q.state = .startup ∨ q.state = .noPlan ∨ q.state = .watch → q.depth = 0)

/-- The chains (R108, R120, R141, R148): a shed step is RUNNING exactly in SHEDDING, at the shed pointer and below the target; a restart
step exactly in RESTARTING, at the restart pointer and below the length of the chain; so at most one runs. -/
def StepsOk (s : State) : Prop :=
  s.seq.pointer ≤ 48 ∧ s.seq.restartPointer ≤ 48 ∧ (s.seq.state = .shedding → s.seq.pointer < s.seq.target)
    ∧ (∀ k : Fin 48, s.seq.shedStatus[k] = .running ↔ s.seq.state = .shedding ∧ k.val = s.seq.pointer)
    ∧ ∀ k : Fin 48, s.seq.restartStatus[k] = .running
      ↔ s.seq.state = .restarting ∧ k.val = s.seq.restartPointer ∧ k.val < s.pls.active.restartLen

/-- The Sequencer: the depth and the steps, with the tracker and the load they rest on; and the plan in force has its H0, but for the
factory defaults of LOADING and NO_PLAN (R56, R112). -/
def ChainsOk (s : State) : Prop :=
  LoadingOk s ∧ TrackerOk s ∧ DepthOk s.seq ∧ StepsOk s
    ∧ (s.seq.state ≠ .noPlan → ¬ (s.seq.state = .startup ∧ s.seq.phase = .loading) → 0 < s.pls.active.shedLen)

/-- The plan in force (R42, R49, R58): the factory defaults in LOADING and in NO_PLAN, and otherwise one in range that passes
validation; a shadow is in range, since every write keeps it so (R52, R53). -/
def PlanOk (s : State) : Prop :=
  LoadingOk s ∧ TrackerOk s
    ∧ (if s.seq.state = .noPlan ∨ (s.seq.state = .startup ∧ s.seq.phase = .loading) then s.pls.active = Plan.factory
       else s.pls.active.inRange ∧ s.pls.active.validate = none)
    ∧ ∀ c, s.pls.claim = some c → c.shadow.inRange

/-! ### Words of the statements -/

/-- The answer of the load walk at a known block (R184, checks 4 to 6): the content must be the encoding of a value in range, its bytes
must sum to the check modulo 256, and the type must not have been met; then the value is put where the walk holds it. -/
def blockRule {α : Type} (encode : α → List Byte) (inRange : α → Prop) (held : Option α) (put : α → Walk) (content : List Byte)
    (check : Byte) (answer : Except LoadReason Walk) : Prop :=
  ((∀ v, content = encode v → ¬ inRange v) → answer = .error .badStructure)
    ∧ ∀ v, content = encode v → inRange v →
      ((content.map BitVec.toNat).sum % 256 ≠ check.toNat → answer = .error .badChecksum)
        ∧ ((content.map BitVec.toNat).sum % 256 = check.toNat → held.isSome = true → answer = .error .missingBlock)
        ∧ ((content.map BitVec.toNat).sum % 256 = check.toNat → held = none → answer = .ok (put v))

/-- The store after a write, whose bytes replace those at its offset (R189). -/
def StoreWrite.applied (store : List Byte) (w : StoreWrite) : List Byte :=
  store.take w.offset ++ w.bytes ++ store.drop (w.offset + w.bytes.length)

/-- A port free to take a request (R159). -/
def Ready (s : State) (p : Fin 3) : Prop := s.spu.ports[p].service = none

/-- The state in which a valid frame has been taken into service at a free port: the port is UP, its link timer restarted, its receiver
in HUNT (R158, R159). -/
def State.taken (s : State) (p : Fin 3) (code : Byte) : State :=
  s.modPort p (fun q =>
    { q with up := true, link := some (s.pls.active.params.linkTimeout * 1000), rx := .hunt, service := some code })

/-- The state in which a port's reply to the request in service has joined its queue (R159); the model's own
count of replies, behind the free values, rises (log 11). -/
def State.replied (s : State) (p : Fin 3) (code : Byte) (status : ReplyStatus) (payload : List Byte) : State :=
  { s.modPort p (fun q => { q with queue := q.queue ++ [⟨code, status, payload, false⟩] }) with free := s.free + 1 }

/-- The state in which a request has been taken and answered at once, and nothing else has changed. -/
def State.answered (s : State) (p : Fin 3) (code : Byte) (status : ReplyStatus) (payload : List Byte) : State :=
  (s.taken p code).replied p code status payload

end Sys2Proof.Machine

namespace Sys2Proof

/-- The commands of the requests that need a right, with the right each needs (R161). -/
def Instr.rightNeeded : Instr → Option (Fin 3 × (Machine.Rights → Bool))
  | .claim p _ => some (p, Machine.Rights.edit)
  | .planWrite p _ => some (p, Machine.Rights.edit)
  | .commit p _ => some (p, Machine.Rights.edit)
  | .save p _ => some (p, Machine.Rights.edit)
  | .consent p _ => some (p, Machine.Rights.consent)
  | .veto p _ => some (p, Machine.Rights.veto)
  | .manualShed p _ => some (p, Machine.Rights.operate)
  | .manualRestore p _ => some (p, Machine.Rights.operate)
  | _ => none

/-- The request that a command of a row of R161 brings: its port, its code and its payload. -/
def Instr.request : Instr → Option (Fin 3 × Byte × List Byte)
  | .status p l => some (p, 0x01, l)
  | .ident p l => some (p, 0x02, l)
  | .stationDetail p l => some (p, 0x03, l)
  | .pointDetail p l => some (p, 0x04, l)
  | .sequenceDetail p l => some (p, 0x05, l)
  | .journalRead p l => some (p, 0x06, l)
  | .noticeMask p l => some (p, 0x07, l)
  | .claim p l => some (p, 0x10, l)
  | .release p l => some (p, 0x11, l)
  | .planWrite p l => some (p, 0x12, l)
  | .planRead p l => some (p, 0x13, l)
  | .commit p l => some (p, 0x14, l)
  | .save p l => some (p, 0x15, l)
  | .consent p l => some (p, 0x20, l)
  | .veto p l => some (p, 0x21, l)
  | .vetoClear p l => some (p, 0x22, l)
  | .faultClear p l => some (p, 0x28, l)
  | .manualShed p l => some (p, 0x30, l)
  | .manualRestore p l => some (p, 0x31, l)
  | .requestWhileBusy p code l => some (p, code, l)
  | .unknownRequest p code l => some (p, code, l)
  | _ => none

/-- The commands that can change the active plan, the claim or the shadow (R42). -/
def Instr.touchesPlan : Instr → Bool
  | .coldReset => true
  | .warmReset => true
  | .imageLoadEnd _ => true
  | .linkTimeout _ => true
  | .requestFrameInvalid _ _ => true
  | .requestIdleAbandon _ _ => true
  | .requestWhileBusy _ _ _ => true
  | .unknownRequest _ _ _ => true
  | .claim _ _ => true
  | .release _ _ => true
  | .planWrite _ _ => true
  | .commit _ _ => true
  | _ => false

/-- The commands that can change a sensor channel (R3). -/
def Instr.touchesChannels : Instr → Bool
  | .coldReset => true
  | .warmReset => true
  | .imageLoadEnd _ => true
  | .sensorFrame _ _ => true
  | .sensorIdleAbandon _ _ => true
  | .gapTimerExpiry _ => true
  | .requestFrameInvalid _ _ => true
  | .requestIdleAbandon _ _ => true
  | .requestWhileBusy _ _ _ => true
  | .unknownRequest _ _ _ => true
  | .commit _ _ => true
  | _ => false

/-- The commands that can change the store link or the save in flight (R182). -/
def Instr.touchesStore : Instr → Bool
  | .coldReset => true
  | .warmReset => true
  | .imageLoadEnd _ => true
  | .saveEnd _ => true
  | .linkTimeout _ => true
  | .requestFrameInvalid _ _ => true
  | .requestIdleAbandon _ _ => true
  | .requestWhileBusy _ _ _ => true
  | .unknownRequest _ _ _ => true
  | .commit _ _ => true
  | .save _ _ => true
  | _ => false

/-- The commands that bring bytes of any request to a port: whole frames of any code, or single bytes. -/
def Instr.bringsAnyRequest : Instr → Bool
  | .requestFrameInvalid _ _ => true
  | .requestIdleAbandon _ _ => true
  | .requestWhileBusy _ _ _ => true
  | .unknownRequest _ _ _ => true
  | _ => false

end Sys2Proof

namespace Sys2Proof.Machine

/-- A command that grants the restart (R133, R134): a CONSENT, or bytes that may be one, at a free port that holds the right and does
not hold the first consent, in ONE with no veto. -/
def grantsRestart (c : Instr) (s : State) : Prop :=
  s.seq.state = .halted ∧ s.ctk.state = .one ∧ (∀ q : Fin 3, s.ctk.veto[q] = false)
    ∧ ∃ p : Fin 3, Ready s p ∧ s.pls.active.rights[p].consent = true ∧ s.ctk.held ≠ some p
      ∧ (c.request = some (p, 0x20, []) ∨ ∃ bytes, c = .requestFrameInvalid p bytes)

/-- A command in which a restart completes, and so closes the open event (R117, R148): it begins in RESTARTING, or grants the restart,
and leaves RESTARTING with the restart pointer at the length of the chain. -/
def restartEnded (c : Instr) (s t : State) : Prop :=
  s.seq.eventOpen = true ∧ (s.seq.state = .restarting ∨ grantsRestart c s) ∧ t.seq.state ≠ .restarting
    ∧ t.pls.active.restartLen ≤ t.seq.restartPointer

/-- A command in which quiet reached closes the open event (R36, R117): QUIET_REACHED, or a COMMIT, or bytes that may be one, in WATCH
or NO_PLAN with D 0; the level is QUIET after it, no event is open, and every line is released. -/
def closedAtQuiet (c : Instr) (s t : State) : Prop :=
  s.seq.eventOpen = true ∧ s.seq.depth = 0 ∧ (s.seq.state = .watch ∨ s.seq.state = .noPlan)
    ∧ (c = .quietReached ∨ (∃ p b, c.request = some (p, 0x14, [b])) ∨ ∃ p bytes, c = .requestFrameInvalid p bytes)
    ∧ t.mev.level = .quiet ∧ t.seq.eventOpen = false ∧ t.seq.depth = 0 ∧ t.seq.target = 0
    ∧ (∀ l : Fin 4, t.dtu.lines[l] = false) ∧ t.flc.tripSent = false

end Sys2Proof.Machine
end

