-- ==== Sys2Proof/Certificates/Slice0/Obligations.lean ====
section
/-! DEFINITION. The statements for the provers. Each says what a command, a rule or the machine does; a docstring names the log entry where
the model chose. -/

open Sys2Proof Sys2Proof.Machine

/-! ### The machine: steps and resets -/

/-- A step takes the command at the front of the queue and runs it with the queue's rest. With no command waiting, 1 ms passes, or, if
an expiry is due, it joins the queue: the model's choice (log 1). The ms raises the clock, quiet time and the blind timer, and
takes one from every other running timer: gap, grace, settle, both chains, consent window, reply, poll, spacing and link. A
timer's expiry is due when the timer has run down to 0, that of the blind timer when it stands at 2000 ms with BLIND false, and
quiet reached when quiet time grows, stands at the quiet period and has not been handed; the due ones are queued one at a time, in
the order of the rows of the table (log 1). With the ms the moment of a timeout is over (log 49). -/
def Obligations.StepRunsFrontCommandOrIdles : Prop :=
  (∀ (c : Instr) (rest : List Instr) (s : State), step { s with pending := c :: rest } = exec c { s with pending := rest })
    ∧ (∀ s : State, s.pending = [] →
      (s.dueExpiries = [] →
        step s = .next (elapse s) ∧ (elapse s).jrn = { s.jrn with clock := s.jrn.clock + 1 }
          ∧ (elapse s).mev = { s.mev with
              quiet := if s.mev.level = .quiet ∧ s.mev.healthy ≠ 0 then min (s.mev.quiet + 1) 3600000 else s.mev.quiet
              blindTimer := s.mev.blindTimer.map (fun t => min (t + 1) 2000) }
          ∧ (∀ i : Fin 6, (elapse s).siu[i] = { s.siu[i] with gap := countDown s.siu[i].gap })
          ∧ (∀ p : Fin 3, (elapse s).spu.ports[p] = { s.spu.ports[p] with link := countDown s.spu.ports[p].link })
          ∧ (∀ p : Fin 64, (elapse s).ptm.points[p] = { s.ptm.points[p] with
              grace := countDown s.ptm.points[p].grace, settle := countDown s.ptm.points[p].settle })
          ∧ (elapse s).ptm.inrush = s.ptm.inrush
          ∧ (elapse s).seq = { s.seq with
              shedDelay := countDown s.seq.shedDelay, shedTimeout := countDown s.seq.shedTimeout
              restartDelay := countDown s.seq.restartDelay, restartTimeout := countDown s.seq.restartTimeout }
          ∧ (elapse s).ctk = { s.ctk with window := countDown s.ctk.window }
          ∧ (elapse s).flc = { s.flc with
              inFlight := s.flc.inFlight.map (fun f => { f with timer := countDown f.timer })
              pollTimer := countDown s.flc.pollTimer, spacing := countDown s.flc.spacing, timedOut := false }
          ∧ (elapse s).pls = s.pls ∧ (elapse s).dtu = s.dtu ∧ (elapse s).fmn = s.fmn ∧ (elapse s).iml = s.iml
          ∧ (elapse s).pending = [])
        ∧ ∀ i rest, s.dueExpiries = i :: rest → step s = .next { s with pending := [i] })
    ∧ (countDown none = none ∧ ∀ n : Nat, countDown (some n) = some (n - 1))
    ∧ ∀ s : State,
      let due (test : Bool) (c : Instr) : List Instr := if test then [c] else []
      let ran (timer : Option Nat) : Bool := timer == some 0
      s.dueExpiries
        = (List.finRange 6).flatMap (fun i => due (ran s.siu[i].gap) (.gapTimerExpiry i))
          ++ due (s.mev.blindTimer == some 2000 && !s.mev.blind) .blindTimerExpiry
          ++ due (s.mev.level == .quiet && decide (s.mev.healthy ≠ 0) && !s.mev.quietHanded
            && decide (s.pls.active.params.quietPeriod * 1000 ≤ s.mev.quiet)) .quietReached
          ++ due (match s.flc.inFlight with
            | none => false
            | some f => ran f.timer) .replyTimeout
          ++ due (ran s.flc.pollTimer) .pollTimerExpiry ++ due (ran s.flc.spacing) .restoreSpacingExpiry
          ++ (List.finRange 64).flatMap (fun p => due (ran s.ptm.points[p].grace) (.graceTimerExpiry p))
          ++ (List.finRange 64).flatMap (fun p => due (ran s.ptm.points[p].settle) (.settleTimerExpiry p))
          ++ due (ran s.seq.shedDelay) .shedDelayExpiry ++ due (ran s.seq.shedTimeout) .shedStepTimeout
          ++ due (ran s.seq.restartDelay) .restartDelayExpiry ++ due (ran s.seq.restartTimeout) .restartStepTimeout
          ++ due (ran s.ctk.window) .consentWindowExpiry
          ++ (List.finRange 3).flatMap (fun p => due (ran s.spu.ports[p].link) (.linkTimeout p))

/-- Every command completes, whatever the state, and leaves the queue as it stands. That one which finds nothing to act on completes
with no effect is the model's choice (log 3). -/
def Obligations.EveryCommandCompletes : Prop :=
  ∀ (c : Instr) (s : State), ∃ t, exec c s = .next t ∧ t.pending = s.pending

/-- The part right after a cold reset, item by item, as the tables of the chapters give it. That no peak stands then is the model's
reading (log 48). -/
def Obligations.ResetValues : Prop :=
  (∀ i : Fin 6, State.reset.siu[i] = ⟨.hunt, .disabled, none, 0, 0, none, 0, 0, 0, 0, 0, 0, 0⟩
      ∧ State.reset.mev.evals[i] = ⟨[], 0, 0, .quiet, 0, 0, 0⟩)
    ∧ State.reset.mev.level = .quiet ∧ State.reset.mev.healthy = 0 ∧ State.reset.mev.quiet = 0
    ∧ State.reset.mev.blindTimer = none ∧ State.reset.mev.blind = false ∧ State.reset.mev.peakLevel = .quiet
    ∧ State.reset.mev.peakHealthy = 0 ∧ State.reset.mev.peaksStand = false ∧ (∀ l : Fin 4, State.reset.dtu.lines[l] = false)
    ∧ State.reset.pls = ⟨Plan.factory, none⟩
    ∧ (∀ p : Fin 64, State.reset.ptm.points[p]
        = ⟨.unused, .unknown, .unknown, .unknown, false, .off, none, none, false, false, .none⟩)
    ∧ State.reset.ptm.inrush = 0
    ∧ State.reset.seq.state = .startup ∧ State.reset.seq.phase = .loading ∧ State.reset.seq.eventOpen = false
    ∧ State.reset.seq.depth = 0 ∧ State.reset.seq.target = 0 ∧ State.reset.seq.pointer = 0
    ∧ State.reset.seq.restartPointer = 0
    ∧ (∀ k : Fin 48, State.reset.seq.shedStatus[k] = .notStarted ∧ State.reset.seq.restartStatus[k] = .notStarted)
    ∧ State.reset.seq.shedDelay = none ∧ State.reset.seq.shedTimeout = none ∧ State.reset.seq.restartDelay = none
    ∧ State.reset.seq.restartTimeout = none
    ∧ State.reset.ctk.state = .inactive ∧ State.reset.ctk.held = none ∧ State.reset.ctk.window = none
    ∧ (∀ p : Fin 3, State.reset.ctk.veto[p] = false)
    ∧ (∀ p : Fin 64, State.reset.flc.motion[p] = .empty ∧ State.reset.flc.lamps[p] = none)
    ∧ (∀ st : Fin 16, State.reset.flc.polls[st] = false ∧ State.reset.flc.reach[st] = .unpolled
        ∧ State.reset.flc.noReply[st] = 0 ∧ State.reset.flc.marks[st] = false)
    ∧ State.reset.flc.broadcast = false ∧ State.reset.flc.inFlight = none ∧ State.reset.flc.tag = 0
    ∧ State.reset.flc.pollTimer = none ∧ State.reset.flc.spacing = none ∧ State.reset.flc.tripSent = false
    ∧ State.reset.flc.stale = 0 ∧ State.reset.flc.frameErrors = 0 ∧ State.reset.flc.rx = .hunt
    ∧ State.reset.flc.timedOut = false ∧ State.reset.flc.aborted = false
    ∧ (∀ p : Fin 3, State.reset.spu.ports[p] = ⟨false, none, none, [], none, 0, 0x7f, 16, 0, .hunt, false⟩
        ∧ State.reset.jrn.unread[p] = 0 ∧ State.reset.jrn.lost[p] = 0)
    ∧ State.reset.jrn.ring = [] ∧ State.reset.jrn.clock = 0
    ∧ (∀ k : FaultKind, State.reset.fmn.status[k.idx] = false ∧ State.reset.conditionOf k = false)
    ∧ State.reset.fmn.pointer = none ∧ State.reset.fmn.capture = none ∧ State.reset.fmn.line = false
    ∧ State.reset.iml.link = .loading ∧ State.reset.iml.save = none ∧ State.reset.pending = []

/-- COLD_RESET: every item takes its value after a cold reset. WARM_RESET: the DT lines, the veto flags, the journal's records and
counts, the fault statuses, the pointer and the capture are kept; the clock is 0 and every condition false; the FAULT line is
judged by the factory policy; all else starts as after a cold reset. The model's own count of replies and the queue stand (log
11). -/
def Obligations.ResetsStartAfresh : Prop :=
  (∀ s : State, exec .coldReset s = .next { State.reset with free := s.free, pending := s.pending })
    ∧ (∀ s : State, ∃ t, exec .warmReset s = .next t
      ∧ t.dtu = s.dtu ∧ t.ctk = { State.reset.ctk with veto := s.ctk.veto } ∧ t.jrn = { s.jrn with clock := 0 }
      ∧ t.fmn.status = s.fmn.status ∧ t.fmn.pointer = s.fmn.pointer ∧ t.fmn.capture = s.fmn.capture
      ∧ (∀ k : FaultKind, t.conditionOf k = false)
      ∧ (t.fmn.line = true ↔ ∃ k : FaultKind, s.fmn.status[k.idx] = true ∧ Policy.factory[k.idx].masked = false
          ∧ Policy.factory[k.idx].severity = .degrading)
      ∧ t.siu = State.reset.siu ∧ t.mev = State.reset.mev ∧ t.pls = State.reset.pls ∧ t.ptm = State.reset.ptm
      ∧ t.seq = State.reset.seq ∧ t.flc = State.reset.flc ∧ t.spu = State.reset.spu
      ∧ t.iml = { State.reset.iml with lastReset := .warm } ∧ t.pending = s.pending)

/-- Every invariant stated below holds right after a cold reset. -/
def Obligations.InvariantsHoldAtReset : Prop :=
  JournalOk State.reset.jrn ∧ AttentionOk State.reset ∧ FaultLineOk State.reset ∧ HealthyOk State.reset
    ∧ MotionOk State.reset ∧ LoadingOk State.reset ∧ TrackerOk State.reset ∧ QueuesOk State.reset
    ∧ PlantOk State.reset ∧ ChainsOk State.reset ∧ PlanOk State.reset

/-! ### Invariants that every step keeps -/

/-- The journal never holds more than 128 records, no unread count exceeds the records held, and no lost count exceeds 255. -/
def Obligations.JournalBoundsKept : Prop :=
  ∀ s t : State, JournalOk s.jrn → step s = .next t → JournalOk t.jrn

/-- Every attention line stands asserted exactly while a flag that is both set and enabled stands on its port. -/
def Obligations.AttentionLinesKept : Prop :=
 ∀ s t : State, AttentionOk s → step s = .next t → AttentionOk t

/-- The FAULT line stands asserted exactly while a kind is SET, unmasked and DEGRADING in the policy in force. -/
def Obligations.FaultLineKept : Prop :=
 ∀ s t : State, FaultLineOk s → step s = .next t → FaultLineOk t

/-- The healthy count H is the number of channels in HEALTHY. -/
def Obligations.HealthyCountKept : Prop :=
 ∀ s t : State, HealthyOk s → step s = .next t → HealthyOk t

/-- Every window holds at most 100 values of at most 6000 mg, with W their sum and I = floor(W / 10), so that W is at most 600,000 and
I at most 60,000. -/
def Obligations.WindowsKept : Prop :=
  (∀ s t : State, MotionOk s → step s = .next t → MotionOk t)
    ∧ ∀ s : State, MotionOk s → ∀ i : Fin 6, s.mev.evals[i].sum ≤ 600000 ∧ s.mev.evals[i].index ≤ 60000

/-- A held consent and the consent window exist exactly in ONE, the tracker is INACTIVE whenever the sequence state is anything but
HALTED, and while the load runs the Sequencer is in the LOADING phase of STARTUP. In LOADING and in NO_PLAN the active plan is the
factory defaults; in every other state it is in range and passes validation; a shadow is always in range. -/
def Obligations.TrackerKept : Prop :=
  (∀ s t : State, LoadingOk s ∧ TrackerOk s → step s = .next t → LoadingOk t ∧ TrackerOk t)
    ∧ ∀ s t : State, PlanOk s → step s = .next t → PlanOk t

/-- Each reply queue holds at most two replies, the reply of the request in service and one BUSY reply; a port that a save owes its
reply keeps its request in service. -/
def Obligations.ReplyQueuesKept : Prop :=
  (∀ s t : State, QueuesOk s → step s = .next t → QueuesOk t)
    ∧ ∀ s : State, QueuesOk s → ∀ p : Fin 3, s.spu.ports[p].queue.length ≤ 2

/-- Each point's state corresponds to its motion slot and to the order in flight, and is UNUSED exactly while the point is not in use;
the inrush in use is the sum of the weights of the points in CLOSING and SETTLING and stays within the budget. At most one step
runs in each chain, at its pointer, and D and the shed target stand in 0..48 with D never above the target. An order in flight of
a point that left use belongs to none (log 19). Both carry with them that the tracker and the load are in step with the sequence
state. -/
def Obligations.PlantAndChainsKept : Prop :=
  (∀ s t : State, PlantOk s → step s = .next t → PlantOk t)
    ∧ ∀ s t : State, ChainsOk s → step s = .next t → ChainsOk t

/-! ### Frames over many commands -/

/-- The active plan, the claim and the shadow, the sensor channels, and the store link with its save each change only by the commands
listed for them (Safety.lean), and by bytes that may be one of those requests. -/
def Obligations.OwnersStateChangesOnlyBy : Prop :=
  (∀ (c : Instr) (s t : State), c.touchesPlan = false → exec c s = .next t → t.pls = s.pls)
    ∧ (∀ (c : Instr) (s t : State), c.touchesChannels = false → exec c s = .next t → t.siu = s.siu)
    ∧ (∀ (c : Instr) (s t : State), c.touchesStore = false → exec c s = .next t → t.iml = s.iml)

/-- The veto flags change only by a cold reset and, each, by its own port's VETO and VETO_CLEAR; a fault status that is SET is cleared
by FAULT_CLEAR and by a cold reset only. D falls only by a reset and where a restart completes, which closes the open event; an
ASSERTED line is released only by a cold reset and where the open event closes, by quiet reached or with a restart that completes,
so that a line kept across a warm reset stays ASSERTED with no event open. A restart completes in RESTARTING or in the CONSENT
that grants it. Among what follows of itself, only the completion of a restart, which is the close of the event in WATCH, lowers D
or releases a line. -/
def Obligations.StandingFlagsChangeOnlyBy : Prop :=
  (∀ (c : Instr) (s t : State) (p : Fin 3), exec c s = .next t → c ≠ .coldReset → c.bringsAnyRequest = false →
      (∀ l, c ≠ .veto p l) → (∀ l, c ≠ .vetoClear p l) → t.ctk.veto[p] = s.ctk.veto[p])
    ∧ (∀ (c : Instr) (s t : State) (k : FaultKind), exec c s = .next t → c ≠ .coldReset → c.bringsAnyRequest = false →
      (∀ p l, c ≠ .faultClear p l) → s.fmn.status[k.idx] = true → t.fmn.status[k.idx] = true)
    ∧ (∀ (c : Instr) (s t : State), ChainsOk s → exec c s = .next t → c ≠ .coldReset → c ≠ .warmReset →
      t.seq.depth < s.seq.depth → restartEnded c s t)
    ∧ (∀ (c : Instr) (s t : State) (l : Fin 4), ChainsOk s → PlanOk s → exec c s = .next t → c ≠ .coldReset →
      s.dtu.lines[l] = true → t.dtu.lines[l] = false → closedAtQuiet c s t ∨ restartEnded c s t)
    ∧ ∀ s t : State, settleOnce s = some t →
      (t.seq.depth < s.seq.depth ∨ ∃ l : Fin 4, s.dtu.lines[l] = true ∧ t.dtu.lines[l] = false) →
      s.seq.state = .restarting ∧ s.pls.active.restartLen ≤ s.seq.restartPointer ∧ t = closeEvent (setSequence .watch s)

/-! ### The ground: frames, samples, levels and the vote -/

/-- A sample: the clamp and its count, h, S and e, the excess returned to the channel, the entry into the window with the level and
the vote, then the peak shaking value, so that it stands after an event that this very sample opens, and then the settle count. A
filler enters its excess and counts for settling. At an arrival the peak healthy index follows the index of a HEALTHY station, and
the vote is taken again if the level of a HEALTHY station has changed. In SETTLING an arrival raises the settle count, and at 100
the station becomes HEALTHY; in any other health state it stands. Between the close of an event and the next opening every peak
stands, the model's reading of R27 beside R26 (log 48). -/
def Obligations.SampleArithmetic : Prop :=
  (∀ v : Int, clampAxis v = if v < -4000 then -4000 else if 4000 < v then 4000 else v)
    ∧ (∀ x y : Int, horizontal x y = max x.natAbs y.natAbs + min x.natAbs y.natAbs / 2)
    ∧ (∀ (s : State) (i : Fin 6) (a : Sample),
      let c : Sample := ⟨clampAxis a.x, clampAxis a.y, clampAxis a.z⟩
      let shake := max (horizontal c.x c.y) c.z.natAbs
      let e := max 0 (shake - s.pls.active.stations[i].floor)
      horizontal c.x c.y ≤ 6000 ∧ shake ≤ 6000 ∧ e ≤ 6000 ∧ e ≤ shake
        ∧ (let entered := enterArrival i e
             { s with
               siu := s.siu.set i
                 { s.siu[i] with
                   lastExcess := e
                   clamped := if c = a then s.siu[i].clamped else min (s.siu[i].clamped + 1) 65535 } }
           takeSample i a s = settleArrival i
             { entered with
               mev.evals := entered.mev.evals.set i
                 { entered.mev.evals[i] with
                   peakShaking :=
                     if entered.mev.peaksStand then entered.mev.evals[i].peakShaking
                     else max entered.mev.evals[i].peakShaking shake } })
        ∧ ∀ v : Nat, arrival i v s = settleArrival i (enterArrival i v s))
    ∧ (∀ (s : State) (i : Fin 6) (v : Nat),
      let e := s.mev.evals[i].enter s.mev.peaksStand v
      let judged := e.evaluate s.pls.active.params
      let healthy := s.siu[i].health = .healthy
      let u := { s with mev := { s.mev with
        evals := s.mev.evals.set i judged
        peakHealthy := if healthy ∧ s.mev.peaksStand = false then max s.mev.peakHealthy e.index else s.mev.peakHealthy } }
      (healthy → judged.level ≠ s.mev.evals[i].level → enterArrival i v s = recompute u)
        ∧ (¬ healthy ∨ judged.level = s.mev.evals[i].level → enterArrival i v s = u))
    ∧ ∀ (s : State) (i : Fin 6),
      let n := s.siu[i].settle + 1
      let counted (k : Nat) : State := { s with siu := s.siu.set i { s.siu[i] with settle := k } }
      (s.siu[i].health ≠ .settling → settleArrival i s = s)
        ∧ (s.siu[i].health = .settling → n < 100 → settleArrival i s = counted n)
        ∧ (s.siu[i].health = .settling → 100 ≤ n → settleArrival i s = setHealth i .healthy (counted 100))

/-- An arrival enters the window as its newest value, and the oldest of 100 leaves; W, I and the peak index follow; a window clear
empties it, with level QUIET and the fall-hold counter 0, and leaves the peaks. The peak index stands where the peaks stand (log
48). -/
def Obligations.WindowArrivalAndClear : Prop :=
  ∀ (e : StationEval) (stand : Bool) (v : Nat), WindowOk e →
    let t := e.enter stand v
    t.window = (if e.window.length < 100 then e.window else e.window.drop 1) ++ [v]
      ∧ t.sum + (if e.window.length < 100 then 0 else e.window.headD 0) = e.sum + v ∧ t.sum = t.window.sum
      ∧ t.index = t.sum / 10 ∧ t.peakIndex = (if stand then e.peakIndex else max e.peakIndex t.index) ∧ t.peakShaking = e.peakShaking
      ∧ t.level = e.level ∧ t.fallHold = e.fallHold
      ∧ e.clear = ⟨[], 0, 0, .quiet, 0, e.peakShaking, e.peakIndex⟩

/-- The station level after an arrival: it rises at once to the highest level whose threshold the index has reached; else it falls one
step when the fall-hold counter reaches the fall hold, counted while the index is below three quarters of its threshold. -/
def Obligations.StationLevelRule : Prop :=
  ∀ (p : Params) (e : StationEval), p.t1 < p.t2 → p.t2 < p.t3 →
    (p.levelOf e.index = .severe ↔ p.t3 ≤ e.index)
      ∧ (p.levelOf e.index = .strong ↔ p.t2 ≤ e.index ∧ e.index < p.t3)
      ∧ (p.levelOf e.index = .tremor ↔ p.t1 ≤ e.index ∧ e.index < p.t2)
      ∧ (e.level.rank < (p.levelOf e.index).rank → e.evaluate p = { e with level := p.levelOf e.index, fallHold := 0 })
      ∧ ((p.levelOf e.index).rank ≤ e.level.rank →
        (e.level = .quiet → e.evaluate p = { e with fallHold := 0 })
          ∧ (e.level ≠ .quiet → p.threshold e.level * 3 / 4 ≤ e.index → e.evaluate p = { e with fallHold := 0 })
          ∧ (e.level ≠ .quiet → e.index < p.threshold e.level * 3 / 4 → e.fallHold + 1 < p.fallHold →
            e.evaluate p = { e with fallHold := e.fallHold + 1 })
          ∧ (e.level ≠ .quiet → e.index < p.threshold e.level * 3 / 4 → p.fallHold ≤ e.fallHold + 1 →
            (e.evaluate p).level.rank + 1 = e.level.rank ∧ (e.evaluate p).fallHold = 0
              ∧ (e.evaluate p).window = e.window ∧ (e.evaluate p).sum = e.sum ∧ (e.evaluate p).index = e.index
              ∧ (e.evaluate p).peakShaking = e.peakShaking ∧ (e.evaluate p).peakIndex = e.peakIndex))

/-- The vote: with at least one HEALTHY station, the device level is the highest level that at least min(K, H) HEALTHY stations stand
at or above, and so no higher than the highest station level among them. -/
def Obligations.VoteIsHighestSupported : Prop :=
  ∀ s : State, s.healthyStations ≠ [] → 1 ≤ s.pls.active.params.voteCount →
    let need := min s.pls.active.params.voteCount s.healthyStations.length
    let atLeast (l : Level) : Nat := s.healthyStations.countP (fun i => decide (l.rank ≤ s.mev.evals[i].level.rank))
    need ≤ atLeast s.votedLevel ∧ (∀ l : Level, s.votedLevel.rank < l.rank → atLeast l < need)
      ∧ ∃ i ∈ s.healthyStations, s.votedLevel.rank ≤ s.mev.evals[i].level.rank

/-- The device level is held while H is 0, stays when the vote gives the same level, and otherwise changes to the voted one. A change
asserts every RELEASED line whose assigned level is not NONE and is at or below the new level, and no other; no line is released
by it. A change posts the LEVEL record with its notice, raises the peak level unless the peaks stand (log 48), clears quiet time
above QUIET, and is taken by the DTU, the Sequencer and the FLC, in the model's order (log 6). In NO_PLAN the first rise to SEVERE
in an event posts TRIP_ALL into the broadcast slot, and no other change of level does. Quiet time set to 0 from above 0 is quiet
cleared: a tracker in OPEN goes to WAIT_QUIET, one in ONE as well, its held consent discarded with the record, and any other
stands. The lines are compared in line order (log 35), and each one that is asserted posts its DT record. -/
def Obligations.LevelRecomputedAndLinesAsserted : Prop :=
  (∀ s : State,
      (s.mev.healthy = 0 → recompute s = s)
        ∧ (s.mev.healthy ≠ 0 → s.votedLevel = s.mev.level → recompute s = s)
        ∧ (s.mev.healthy ≠ 0 → s.votedLevel ≠ s.mev.level →
          recompute s = changeLevel s.votedLevel s ∧ (recompute s).mev.level = s.votedLevel))
    ∧ (∀ (s : State) (l : Fin 4),
      (assertLines s).dtu.lines[l]
          = (s.dtu.lines[l] || (decide (s.pls.active.params.dtLevels[l] ≠ .quiet)
              && decide (s.pls.active.params.dtLevels[l].rank ≤ s.mev.level.rank)))
        ∧ assertLines s = { s with
            dtu := (assertLines s).dtu, jrn := (assertLines s).jrn, spu := (assertLines s).spu, fmn := (assertLines s).fmn })
    ∧ (∀ (s : State) (new : Level),
      let told := raiseAll .level (post (.level s.mev.level new s.mev.healthy s.greatestIndex)
        { s with mev := { s.mev with level := new } })
      let peaked := { told with mev := { told.mev with
        peakLevel := if told.mev.peaksStand = false ∧ told.mev.peakLevel.rank < new.rank then new else told.mev.peakLevel } }
      changeLevel new s
        = noPlanTrip (sequencerAtLevel (assertLines (if new = .quiet then peaked else clearQuiet peaked))))
    ∧ (∀ s : State,
      let first := s.mev.level = .severe ∧ s.seq.state = .noPlan ∧ s.flc.tripSent = false
      (first → noPlanTrip s = { s with flc := { s.flc with tripSent := true, broadcast := true }.choose })
        ∧ (¬ first → noPlanTrip s = s))
    ∧ (∀ s : State,
      let cleared := { s with mev := { s.mev with quiet := 0, quietHanded := false } }
      (s.mev.quiet = 0 → clearQuiet s = cleared)
        ∧ (0 < s.mev.quiet →
          (s.ctk.state = .inactive ∨ s.ctk.state = .waitQuiet → clearQuiet s = cleared)
            ∧ (s.ctk.state = .openState →
              clearQuiet s = raiseAll .consent { cleared with ctk := { s.ctk with state := .waitQuiet } })
            ∧ ∀ q, s.ctk.state = .one → s.ctk.held = some q →
              let v := post (.consent q .discarded) { cleared with ctk := { s.ctk with held := none, window := none } }
              clearQuiet s = raiseAll .consent { v with ctk := { v.ctk with state := .waitQuiet } }))
    ∧ ∀ (s : State) (l : Fin 4),
      let met := s.dtu.lines[l] = false ∧ s.pls.active.params.dtLevels[l] ≠ .quiet
        ∧ s.pls.active.params.dtLevels[l].rank ≤ s.mev.level.rank
      assertLines s = assertLine 3 (assertLine 2 (assertLine 1 (assertLine 0 s)))
        ∧ (met → assertLine l s = post (.dt l true) { s with dtu := ⟨s.dtu.lines.set l true⟩ })
        ∧ (¬ met → assertLine l s = s)

/-- SENSOR_FRAME, a complete frame of 12 bytes at an enabled channel in HUNT: the four checks in their order, each with its count, and
a frame that passes them all is handed on as valid. The bytes are the command's operand (log 4). -/
def Obligations.SensorFrameChecks : Prop :=
  ∀ (s : State) (i : Fin 6) (bs : List LineByte) (id seq st xl xh yl yh zl zh c0 c1 : Byte),
    s.siu[i].health ≠ .disabled → s.siu[i].rx = .hunt →
    bs.map LineByte.val = [0xc3, id, seq, st, xl, xh, yl, yh, zl, zh, c0, c1] →
    let good := checkHolds (bs.map LineByte.val) = true ∧ bs.any LineByte.bad = false
    let counted := raiseFault .frameCheck (.station i)
      { s with siu := s.siu.set i { s.siu[i] with checkErrors := min (s.siu[i].checkErrors + 1) 65535 } }
    (¬ good → exec (.sensorFrame i bs) s = .next counted)
      ∧ (good → st ≠ 0 → st ≠ 1 → exec (.sensorFrame i bs) s = .next counted)
      ∧ (good → (st = 0 ∨ st = 1) → id.toNat ≠ i.val → exec (.sensorFrame i bs) s = .next
        { s with siu := s.siu.set i { s.siu[i] with foreign := min (s.siu[i].foreign + 1) 65535 } })
      ∧ (good → st = 1 → id.toNat = i.val → exec (.sensorFrame i bs) s = .next
        { s with siu := s.siu.set i { s.siu[i] with selfTest := min (s.siu[i].selfTest + 1) 65535 } })
      ∧ (good → st = 0 → id.toNat = i.val → exec (.sensorFrame i bs) s = .next
        (validFrame i seq ⟨axisOf xl xh, axisOf yl yh, axisOf zl zh⟩ s))

/-- A valid frame restarts the gap timer, and is then handled by the health state: OFFLINE and LOST start settling; in SETTLING and
HEALTHY a repeated number is a duplicate, a gap of 0 to 4 is bridged by that many fillers, and a longer one makes the station
resettle. A window clear of a HEALTHY station above QUIET is followed by the vote; each filler is an arrival of the last accepted
excess value, taken whole before the next. -/
def Obligations.ValidFrameHandling : Prop :=
  (∀ (s : State) (i : Fin 6) (seq last : Byte) (a : Sample),
    let u := s.modChannel i (fun c => { c with gap := some 200 })
    let setLast (t : State) : State := t.modChannel i (fun c => { c with lastSeq := some seq })
    let fresh (t : State) : State := setLast (takeSample i a ((clearWindow i t).modChannel i (fun c => { c with settle := 0 })))
    let g := (seq.toNat + 255 - last.toNat) % 256
    (s.siu[i].health = .offline ∨ s.siu[i].health = .lost → validFrame i seq a s = fresh (setHealth i .settling u))
      ∧ (s.siu[i].health = .settling ∨ s.siu[i].health = .healthy → s.siu[i].lastSeq = some last →
        (seq = last → validFrame i seq a s
            = u.modChannel i (fun c => { c with duplicates := min (c.duplicates + 1) 65535 }))
          ∧ (seq ≠ last → g ≤ 4 → validFrame i seq a s = setLast (takeSample i a
            (takeFillers i g (u.modChannel i (fun c => { c with gapFills := min (c.gapFills + g) 65535 })))))
          ∧ (seq ≠ last → 5 ≤ g → validFrame i seq a s
            = (let v := u.modChannel i (fun c => { c with resettles := min (c.resettles + 1) 65535 })
               fresh (if s.siu[i].health = .healthy then setHealth i .settling v else v)))))
    ∧ (∀ (s : State) (i : Fin 6),
      let u := { s with mev := { s.mev with evals := s.mev.evals.set i s.mev.evals[i].clear } }
      let votes := s.siu[i].health = .healthy ∧ s.mev.evals[i].level ≠ .quiet
      (votes → clearWindow i s = recompute u) ∧ (¬ votes → clearWindow i s = u))
    ∧ (∀ (s : State) (i : Fin 6), takeFillers i 0 s = s)
    ∧ ∀ (s : State) (i : Fin 6) (n : Nat), takeFillers i (n + 1) s = takeFillers i n (arrival i s.siu[i].lastExcess s)

/-- GAP_TIMER_EXPIRY: a SETTLING or HEALTHY station becomes LOST and its timer stops; STATION_LOST is raised only if it was HEALTHY. A
change of health is posted as a STATION record, and the HEALTHY channels are counted anew. The expiry acts on a running timer,
whatever is left on it (log 2). That STATION_LOST comes after the STATION record and all that the health change does is the
model's order (log 34). The first HEALTHY station stops the blind timer and ends BLIND, whose condition is then reported false;
the loss of the last one starts the blind timer from 0 and sets quiet time to 0; the vote comes after either. The peak healthy
index rises unless the peaks stand (log 48). -/
def Obligations.GapTimerExpiryLosesStation : Prop :=
  (∀ (s : State) (i : Fin 6), s.siu[i].gap.isSome = true →
      (s.siu[i].health = .settling → exec (.gapTimerExpiry i) s
          = .next (setHealth i .lost { s with siu := s.siu.set i { s.siu[i] with gap := none } }))
        ∧ (s.siu[i].health = .healthy → exec (.gapTimerExpiry i) s
          = .next (raiseFault .stationLost (.station i)
              (setHealth i .lost { s with siu := s.siu.set i { s.siu[i] with gap := none } })))
        ∧ (s.siu[i].health = .settling ∨ s.siu[i].health = .healthy → ∃ t, exec (.gapTimerExpiry i) s = .next t
          ∧ t.siu = s.siu.set i { s.siu[i] with health := .lost, gap := none } ∧ t.pls = s.pls ∧ t.iml = s.iml
          ∧ (s.siu[i].health = .healthy → t.fmn.status[FaultKind.stationLost.idx] = true)))
    ∧ (∀ (s : State) (i : Fin 6) (new : Health),
      let t := setHealth i new s
      t.siu = s.siu.set i { s.siu[i] with health := new } ∧ t.mev.healthy = t.healthyStations.length ∧ t.pls = s.pls
        ∧ t.iml = s.iml ∧ t = healthChange i (post (.station i s.siu[i].health new)
            { s with siu := s.siu.set i { s.siu[i] with health := new } }))
    ∧ (∀ (s : State) (i : Fin 6),
      let counted := { s with mev := { s.mev with
        healthy := s.healthyStations.length
        peakHealthy := if s.siu[i].health = .healthy ∧ s.mev.peaksStand = false
          then max s.mev.peakHealthy s.mev.evals[i].index else s.mev.peakHealthy } }
      healthChange i s = recompute (healthyCountEdge s.mev.healthy counted))
    ∧ ∀ (s : State) (before : Nat),
      (before = 0 → s.mev.healthy ≠ 0 → healthyCountEdge before s = { s with
          mev := { s.mev with blindTimer := none, blind := false }
          fmn := { s.fmn with condBlind := s.fmn.condBlind && !s.mev.blind } })
        ∧ (before ≠ 0 → s.mev.healthy = 0 →
          healthyCountEdge before s = clearQuiet { s with mev := { s.mev with blindTimer := some 0 } })
        ∧ (¬ (before = 0 ∧ s.mev.healthy ≠ 0) → ¬ (before ≠ 0 ∧ s.mev.healthy = 0) → healthyCountEdge before s = s)

/-- BLIND_TIMER_EXPIRY: at 2000 ms without a HEALTHY station BLIND becomes true and is reported. QUIET_REACHED: in WATCH or NO_PLAN an
open event of depth 0 closes, its peaks then standing (log 48); otherwise a tracker in WAIT_QUIET becomes OPEN; otherwise nothing
but quiet time changes. An expiry acts on a running timer, whatever is left on it (log 2), and QUIET_REACHED sets quiet time to at
least the quiet period (log 33). -/
def Obligations.BlindAndQuietReached : Prop :=
  (∀ s : State, s.mev.blindTimer.isSome = true → s.mev.blind = false → ∃ t, exec .blindTimerExpiry s = .next t
      ∧ t.mev = { s.mev with blindTimer := some 2000, blind := true } ∧ t.fmn.condBlind = true
      ∧ t.fmn.status[FaultKind.blind.idx] = true
      ∧ t = { s with mev := t.mev, jrn := t.jrn, spu := t.spu, fmn := t.fmn })
    ∧ (∀ s : State, s.mev.level = .quiet → s.mev.healthy ≠ 0 → s.mev.quietHanded = false →
      let reached := { s with mev.quiet := max s.mev.quiet (s.pls.active.params.quietPeriod * 1000), mev.quietHanded := true }
      let closes := (s.seq.state = .watch ∨ s.seq.state = .noPlan) ∧ s.seq.eventOpen = true ∧ s.seq.depth = 0
      (closes → s.ctk.state ≠ .waitQuiet → ∃ t, exec .quietReached s = .next t
          ∧ t = closeEvent reached ∧ t.seq.eventOpen = false ∧ t.seq.depth = 0
          ∧ t.seq.target = 0 ∧ (∀ l : Fin 4, t.dtu.lines[l] = false) ∧ t.flc = { s.flc with tripSent := false }
          ∧ t.seq.state = s.seq.state ∧ t.seq.shedStatus = s.seq.shedStatus ∧ t.mev = { reached.mev with peaksStand := true } ∧ t.ctk = s.ctk
          ∧ t.siu = s.siu ∧ t.pls = s.pls ∧ t.ptm = s.ptm ∧ t.iml = s.iml)
        ∧ (¬ closes → s.ctk.state = .waitQuiet → exec .quietReached s
          = .next (raiseAll .consent { reached with ctk.state := .openState }))
        ∧ (¬ closes → s.ctk.state ≠ .waitQuiet → exec .quietReached s = .next reached))

/-- SENSOR_IDLE_ABANDON, LOOP_IDLE_ABANDON and REQUEST_IDLE_ABANDON: the partial frame is abandoned and counted, on a sensor port with
FRAME_CHECK, the receiver hunts, and the byte that ends the idle is treated there. A DISABLED channel takes no notice. After an
idle on the loop the moment of a timeout is over (log 49). -/
def Obligations.IdleAbandonsPartialFrame : Prop :=
  (∀ (s : State) (i : Fin 6) (bytes : List Byte) (bad : Bool) (b : LineByte),
      let t := raiseFault .frameCheck (.station i)
        { s with siu := s.siu.set i { s.siu[i] with rx := .hunt, checkErrors := min (s.siu[i].checkErrors + 1) 65535 } }
      (s.siu[i].health ≠ .disabled → s.siu[i].rx = .collect bytes bad →
          exec (.sensorIdleAbandon i none) s = .next t
            ∧ exec (.sensorIdleAbandon i (some b)) s
              = .next (if b.val = 0xc3 then t.modChannel i (fun c => { c with rx := .collect [0xc3] b.bad }) else t))
        ∧ (s.siu[i].health = .disabled → exec (.sensorIdleAbandon i (some b)) s = .next s))
    ∧ (∀ (s : State) (bytes : List Byte) (bad : Bool) (b : LineByte), s.flc.tx = none → s.flc.rx = .collect bytes bad →
      let t := { s with flc := { s.flc with
        rx := .hunt, frameErrors := min (s.flc.frameErrors + 1) 65535, timedOut := false } }
      exec (.loopIdleAbandon none) s = .next t
        ∧ exec (.loopIdleAbandon (some b)) s
          = .next (if b.val = 0x5b then { t with flc := { t.flc with rx := .collect [0x5b] b.bad } } else t))
    ∧ (∀ (s : State) (p : Fin 3) (bytes : List Byte) (bad : Bool) (b : LineByte), s.spu.ports[p].rx = .collect bytes bad →
      let q : Port := { s.spu.ports[p] with rx := .hunt, frameErrors := min (s.spu.ports[p].frameErrors + 1) 65535 }
      exec (.requestIdleAbandon p none) s = .next { s with spu := ⟨s.spu.ports.set p q⟩ }
        ∧ exec (.requestIdleAbandon p (some b)) s = .next
          { s with spu := ⟨s.spu.ports.set p (if b.val = 0x3c then { q with rx := .collect [0x3c] b.bad } else q)⟩ })

/-! ### Load points -/

/-- What a SHED wanted for a point does, by the content of its motion slot: while an order is in flight on the loop, and on an idle
loop, where the FLC chooses at once (log 8), so that the SHED goes out unless a TRIP_ALL or a lower point's SHED waits. The
commanded lamp of a point: BLINK while it waits in AWAIT for a button that its restart step requires, ON in FAILED, else OFF; it
is posted when it changes or the point leaves UNKNOWN (log 31), and not otherwise. -/
def Obligations.ShedWantedBySlot : Prop :=
  (∀ (s : State) (p : Fin 64) (c : Cause), s.flc.inFlight.isSome = true →
      let posted := { s with flc.motion := s.flc.motion.set p (.pending .shed) }
      (s.flc.motion[p] = .empty ∨ s.flc.motion[p] = .pending .warn →
          wantShedBare p c s = changePoint p .opening c posted)
        ∧ (s.flc.motion[p] = .pending .restore → wantShedBare p c s = changePoint p .opening .cancelled posted)
        ∧ (s.flc.motion[p] = .pending .shed → wantShedBare p c s = s)
        ∧ ((∃ k, s.flc.motion[p] = .inFlight k) → wantShedBare p c s
          = { s with ptm.points := s.ptm.points.set p { s.ptm.points[p] with deferred := true } }))
    ∧ (∀ (s : State) (p : Fin 64) (c : Cause), s.flc.inFlight = none →
      let chosen := { s with flc := { s.flc with motion := s.flc.motion.set p (.pending .shed) }.choose }
      (s.flc.motion[p] = .empty ∨ s.flc.motion[p] = .pending .warn →
          wantShedBare p c s = changePoint p .opening c chosen)
        ∧ (s.flc.motion[p] = .pending .restore → wantShedBare p c s = changePoint p .opening .cancelled chosen)
        ∧ (s.flc.motion[p] = .pending .shed → wantShedBare p c s = s)
        ∧ (s.flc.broadcast = false → (∀ q : Fin 64, q < p → s.flc.motion[q] ≠ .pending .shed) →
          chosen.flc.inFlight = some ⟨.motion .shed p, 1, s.flc.tag, none, false⟩
            ∧ chosen.flc.motion[p] = .inFlight .shed ∧ chosen.flc.tx = some (orderFrame (.motion .shed p) s.flc.tag)))
    ∧ (∀ (pl : Plan) (p : Fin 64) (e : PointEntry),
      let waits := e.state = .await ∧ e.manual = false ∧ e.buttonSeen = false
        ∧ ∃ k : Nat, pl.restartStepOf p = some k ∧ (pl.restartStep k).button = true
      (waits → commandedLamp pl p e = .blink)
        ∧ (e.state = .failed → commandedLamp pl p e = .on)
        ∧ (¬ waits → e.state ≠ .failed → commandedLamp pl p e = .off))
    ∧ (∀ (s : State) (p : Fin 64) (old : PointState),
      let m := commandedLamp s.pls.active p s.ptm.points[p]
      let due := s.inUse p = true ∧ (m ≠ s.ptm.points[p].lamp ∨ (old = .unknown ∧ s.pointState p ≠ .unknown))
      (due → settleLamp p old s = { s with
          ptm := { s.ptm with points := s.ptm.points.set p { s.ptm.points[p] with lamp := m } }
          flc := { s.flc with lamps := s.flc.lamps.set p (some m) }.choose })
        ∧ (¬ due → settleLamp p old s = s))
    ∧ ∀ (s : State) (p : Fin 64) (c : Cause),
      wantShed p c s = settleLamp p (s.pointState p) (wantShedBare p c s)
        ∧ ∀ new : PointState, movePoint p new c s = settleLamp p (s.pointState p) (changePoint p new c s)

/-- A change of a point's state: the entry with its cause, the inrush in use, and the POINT record; the grace timer runs on only in
WARNED and the settle timer only in SETTLING, the manual flag stands only in AWAIT, CLOSING and SETTLING, button seen returns to
no in AWAIT, LOCKED and UNUSED drop the deferred SHED (for LOCKED the model's reading, log 23), and no other point changes. -/
def Obligations.PointChangeRecorded : Prop :=
  ∀ (s : State) (p : Fin 64) (new : PointState) (c : Cause),
    let t := changePoint p new c s
    let e := t.ptm.points[p]
    e.state = new ∧ e.cause = c ∧ (new ≠ .warned → e.grace = none) ∧ (new ≠ .settling → e.settle = none)
      ∧ (e.manual = true → new = .await ∨ new = .closing ∨ new = .settling)
      ∧ (new = .locked ∨ new = .unused → e.deferred = false) ∧ (new = .await → e.buttonSeen = false)
      ∧ e.contact = s.ptm.points[p].contact ∧ e.lockout = s.ptm.points[p].lockout ∧ e.relay = s.ptm.points[p].relay
      ∧ e.lamp = s.ptm.points[p].lamp ∧ (∀ q : Fin 64, q ≠ p → t.ptm.points[q] = s.ptm.points[q])
      ∧ t.ptm.inrush = (if new.counts = true ∧ (s.pointState p).counts = false
          then s.ptm.inrush + s.pls.active.points[p].weight
          else if (s.pointState p).counts = true ∧ new.counts = false
          then s.ptm.inrush - s.pls.active.points[p].weight else s.ptm.inrush)
      ∧ t = post (.point p (s.pointState p) new c) { s with ptm := t.ptm }

/-- The results of a motion order at its point: the tables for DONE, REFUSED_LOCKED, OUTPUT_FAULT and NO_REPLY, with the grace and
settle timers; the POINT record precedes the FAULT record (log 36). The result of an order whose point has left use changes
nothing (log 19), nor does that of a LAMP or POLL; a deferred SHED is posted when its order resolves, unless the point is LOCKED,
SHED or UNUSED; a RESTORE that an abort met in flight and that is answered OUTPUT_FAULT has its SHED posted for a SHED point too
(R152, log 38). A resolution is taken whole, in the order result, feedback, deferred SHED, lamps, hand-over; the points of a step
are taken in output order (log 37), a point that the result made FAILED is compared with the same reply's contact, its deferred
SHED waiting or not (log 38), and only a net change is handed over (log 39), enforcement and the gate at every changed point
before any step's wait (log 42). A result that is ignored raises no fault either, the model's choice (log 47). -/
def Obligations.OrderResultTables : Prop :=
  ∀ (s : State) (p : Fin 64) (k : MotionKind),
    (∀ t, t = resultAt .shed p .done s → t.pointState p = .shed ∧ t.ptm.points[p].cause = .orderDone)
      ∧ (∀ t, t = resultAt .warn p .done s → s.pls.active.points[p].grace ≠ 0 → t.pointState p = .warned
        ∧ t.ptm.points[p].grace = some (s.pls.active.points[p].grace * 1000) ∧ t.ptm.points[p].cause = .orderDone)
      ∧ (s.pls.active.points[p].grace = 0 → resultAt .warn p .done s = wantShedBare p .orderDone s)
      ∧ (∀ t, t = resultAt .restore p .done s → s.pls.active.points[p].settle ≠ 0 → t.pointState p = .settling
        ∧ t.ptm.points[p].settle = some (s.pls.active.points[p].settle * 1000) ∧ t.ptm.points[p].cause = .orderDone)
      ∧ (s.pls.active.points[p].settle = 0 →
        resultAt .restore p .done s = changePoint p .energised .orderDone s)
      ∧ resultAt k p .refusedLocked s = changePoint p .locked .refused s
      ∧ resultAt k p .outputFault s = raiseFault .outputFault (.point p) (changePoint p .failed .outputFault s)
      ∧ resultAt .warn p .noReply s = wantShedBare p .noReply s
      ∧ (k = .shed ∨ k = .restore →
        resultAt k p .noReply s = raiseFault .loopNoReply (.point p) (changePoint p .failed .noReply s))
      ∧ (∀ (f : InFlight) (r : Result), f.order = .motion k p →
        (f.voided = true ∨ s.pointState p = .unused → applyResult f r s = s)
          ∧ (f.voided = false → s.pointState p ≠ .unused → applyResult f r s = resultAt k p r s)
          ∧ (s.ptm.points[p].deferred = false → takeDeferred f r s = s)
          ∧ (s.ptm.points[p].deferred = true →
            let spent := s.modPoint p (fun e => { e with deferred := false })
            let cause : Cause := match r with
              | .done => .orderDone
              | .refusedLocked => .refused
              | .outputFault => .outputFault
              | .noReply => .noReply
            let abortPosts := k = .restore ∧ r = .outputFault ∧ s.flc.aborted = true
            (s.pointState p = .locked ∨ s.pointState p = .unused → takeDeferred f r s = spent)
              ∧ (s.pointState p = .shed → ¬ abortPosts → takeDeferred f r s = spent)
              ∧ (s.pointState p = .shed → abortPosts → takeDeferred f r s = wantShedBare p cause spent)
              ∧ (s.pointState p ≠ .locked → s.pointState p ≠ .shed → s.pointState p ≠ .unused →
                takeDeferred f r s = wantShedBare p cause spent)))
      ∧ (∀ (f : InFlight) (r : Result), (∀ j q, f.order ≠ .motion j q) → applyResult f r s = s ∧ takeDeferred f r s = s)
      ∧ (∀ (f : InFlight) (st : Fin 16) (r : Result) (outs : Option (Vector OutputStatus 4)),
        let before := s.ptm.points
        let taken := takeDeferred f r (feedback st outs (applyResult f r s))
        let lit := [0, 1, 2, 3].foldl (fun t o => settleLamp (pointAt st o) before[pointAt st o].state t) taken
        takeResolution f st r outs s = [0, 1, 2, 3].foldl (fun t o => handOver before t (pointAt st o)) lit)
      ∧ (∀ st : Fin 16, feedback st none s = s
        ∧ ∀ v : Vector OutputStatus 4,
          feedback st (some v) s = ([0, 1, 2, 3] : List (Fin 4)).foldl (fun t o => feedbackAt v[o] (pointAt st o) t) s)
      ∧ ∀ before : Vector PointEntry 64, (s.pointState p = before[p].state → handOver before s p = s)
        ∧ (s.pointState p ≠ before[p].state → handOver before s p = rejoinGate p (enforce p s))

/-- Feedback at a point in use: the report is stored; a lockout OPEN locks it; NORMAL ends LOCKED or UNKNOWN in the state the contact
shows; otherwise a contact that contradicts its state moves it, with EXTERNAL_CHANGE unless it was FAILED; moving states are not
compared; a button latch counts in AWAIT. The POINT record precedes the FAULT record (log 36), and a point that OUTPUT_FAULT has
just made FAILED is compared like any other, its deferred SHED waiting or not (log 38). A configured station that becomes
UNREACHABLE has its in-use points' contact, lockout and relay set to UNKNOWN; those in ENERGISED, SHED, LOCKED and FAILED become
UNKNOWN with cause NO_REPLY, and the others keep their state; its points are taken in output order (log 35). -/
def Obligations.FeedbackTables : Prop :=
  (∀ (s : State) (p : Fin 64) (o : OutputStatus),
      let shown : PointState := if o.closed then .energised else .shed
      (s.inUse p = false → feedbackAt o p s = s)
        ∧ (s.inUse p = true → (feedbackAt o p s).ptm.points[p].contact = (if o.closed then .closed else .opened)
          ∧ (feedbackAt o p s).ptm.points[p].lockout = (if o.lockOpen then .opened else .normal)
          ∧ (feedbackAt o p s).ptm.points[p].relay = (if o.relayOn then .on else .off))
        ∧ (o.lockOpen = true → s.pointState p ≠ .locked → s.pointState p ≠ .unused →
          applyLockout p o s = changePoint p .locked .lockout (withdraw p s))
        ∧ (o.lockOpen = true → s.pointState p = .locked ∨ s.pointState p = .unused → applyLockout p o s = s)
        ∧ (o.lockOpen = false → s.pointState p = .locked → applyLockout p o s = changePoint p shown .lockout s)
        ∧ (o.lockOpen = false → s.pointState p = .unknown → applyLockout p o s = changePoint p shown .feedback s)
        ∧ (o.lockOpen = false → s.pointState p = .failed → applyLockout p o s = changePoint p shown .feedback s)
        ∧ (o.lockOpen = false → o.closed = true →
          s.pointState p = .energised ∨ s.pointState p = .warned ∨ s.pointState p = .settling → applyLockout p o s = s)
        ∧ (o.lockOpen = false → o.closed = false → s.pointState p = .shed ∨ s.pointState p = .await → applyLockout p o s = s)
        ∧ (o.lockOpen = false → o.closed = false →
          s.pointState p = .energised ∨ s.pointState p = .warned ∨ s.pointState p = .settling →
          applyLockout p o s = raiseFault .externalChange (.point p) (changePoint p .shed .feedback s))
        ∧ (o.lockOpen = false → o.closed = true → s.pointState p = .shed ∨ s.pointState p = .await →
          applyLockout p o s = raiseFault .externalChange (.point p) (changePoint p .energised .feedback s))
        ∧ (o.lockOpen = false → s.pointState p = .warning ∨ s.pointState p = .opening ∨ s.pointState p = .closing →
          applyLockout p o s = s))
    ∧ (∀ (s : State) (p : Fin 64) (o : OutputStatus), s.inUse p = true →
      feedbackAt o p s = applyButton p o (applyLockout p o (s.modPoint p (fun e => { e with
          contact := if o.closed then .closed else .opened
          lockout := if o.lockOpen then .opened else .normal
          relay := if o.relayOn then .on else .off })))
        ∧ (o.button = true → s.pointState p = .await →
          applyButton p o s = s.modPoint p (fun e => { e with buttonSeen := true }))
        ∧ (o.button = false ∨ s.pointState p ≠ .await → applyButton p o s = s))
    ∧ (∀ (s : State) (p : Fin 64),
      let t := unreachablePoint s p
      let leaves := s.pointState p = .energised ∨ s.pointState p = .shed ∨ s.pointState p = .locked ∨ s.pointState p = .failed
      (s.inUse p = false → t = s)
        ∧ (s.inUse p = true → t.ptm.points[p].contact = .unknown ∧ t.ptm.points[p].lockout = .unknown
          ∧ t.ptm.points[p].relay = .unknown ∧ (∀ q : Fin 64, q ≠ p → t.ptm.points[q] = s.ptm.points[q])
          ∧ (leaves → t.pointState p = .unknown ∧ t.ptm.points[p].cause = .noReply)
          ∧ (¬ leaves → t = s.modPoint p (fun e =>
            { e with contact := .unknown, lockout := .unknown, relay := .unknown }))))
    ∧ ∀ (s : State) (st : Fin 16),
      stationUnreachable st s = if s.pls.active.configured st
        then ([0, 1, 2, 3] : List (Fin 4)).foldl (fun t o => unreachablePoint t (pointAt st o)) s else s

/-- GRACE_TIMER_EXPIRY: a WARNED point whose grace runs out becomes OPENING with cause ORDER_DONE, and its SHED is posted.
SETTLE_TIMER_EXPIRY: a SETTLING point whose settle timer runs out becomes ENERGISED with cause ORDER_DONE, its weight no longer
counts, and the Sequencer evaluates what follows. An expiry acts on a running timer, whatever is left on it (log 2); what follows
of itself is taken in the model's order (log 7). -/
def Obligations.PointTimersRunOut : Prop :=
  (∀ (s : State) (p : Fin 64), s.ptm.points[p].grace.isSome = true → s.pointState p = .warned → s.flc.motion[p] = .empty →
      ∃ t, exec (.graceTimerExpiry p) s = .next t ∧ t.pointState p = .opening ∧ t.ptm.points[p].cause = .orderDone
        ∧ t.ptm.points[p].grace = none ∧ t.ptm.inrush = s.ptm.inrush
        ∧ (t.flc.motion[p] = .pending .shed ∨ t.flc.motion[p] = .inFlight .shed)
        ∧ (∀ q : Fin 64, q ≠ p → t.ptm.points[q] = s.ptm.points[q])
        ∧ t = { s with ptm := t.ptm, flc := t.flc, jrn := t.jrn, spu := t.spu, fmn := t.fmn })
    ∧ (∀ (s : State) (p : Fin 64), s.ptm.points[p].settle.isSome = true → s.pointState p = .settling →
      ∃ u, exec (.settleTimerExpiry p) s = .next (settle u) ∧ u.pointState p = .energised
        ∧ u.ptm.points[p].cause = .orderDone ∧ u.ptm.points[p].settle = none ∧ u.ptm.points[p].manual = false
        ∧ u.ptm.inrush = s.ptm.inrush - s.pls.active.points[p].weight
        ∧ (∀ q : Fin 64, q ≠ p → u.ptm.points[q] = s.ptm.points[q])
        ∧ u = { s with ptm := u.ptm, flc := u.flc, jrn := u.jrn, spu := u.spu, fmn := u.fmn })

/-! ### The field loop -/

/-- The choice of the next order: TRIP_ALL, then SHED, WARN, RESTORE, LAMP, POLL, and within a kind the lowest number. The chosen
order leaves its slot and its first attempt is sent, with the check of section 11.1 and the tag counter's value, and the counter
is one higher; with an order in flight, or no slot PENDING, nothing is chosen. The codes are those of section 11.3; a point is
output (p mod 4) of station LS((p div 4) + 1); a LAMP carries its mode, and every other argument is 0. -/
def Obligations.OrderChosenAndSent : Prop :=
  (∀ (f : Flc) (o : Order), f.nextOrder = some o →
      match o with
      | .tripAll => f.broadcast = true
      | .motion k p => f.broadcast = false ∧ f.motion[p] = .pending k ∧ (∀ q : Fin 64, q < p → f.motion[q] ≠ .pending k)
          ∧ (k ≠ .shed → ∀ q : Fin 64, f.motion[q] ≠ .pending .shed)
          ∧ (k = .restore → ∀ q : Fin 64, f.motion[q] ≠ .pending .warn)
      | .lamp m p => f.broadcast = false ∧ (∀ (q : Fin 64) (k : MotionKind), f.motion[q] ≠ .pending k)
          ∧ f.lamps[p] = some m ∧ ∀ q : Fin 64, q < p → f.lamps[q] = none
      | .poll st => f.broadcast = false ∧ (∀ (q : Fin 64) (k : MotionKind), f.motion[q] ≠ .pending k)
          ∧ (∀ q : Fin 64, f.lamps[q] = none) ∧ f.polls[st] = true ∧ ∀ r : Fin 16, r < st → f.polls[r] = false)
    ∧ (∀ f : Flc, f.nextOrder = none → f.broadcast = false ∧ (∀ (q : Fin 64) (k : MotionKind), f.motion[q] ≠ .pending k)
      ∧ (∀ q : Fin 64, f.lamps[q] = none) ∧ ∀ r : Fin 16, f.polls[r] = false)
    ∧ (∀ f : Flc,
      (f.inFlight.isSome = true ∨ f.nextOrder = none → f.choose = f)
        ∧ ∀ o, f.inFlight = none → f.nextOrder = some o →
          f.choose.inFlight = some ⟨o, 1, f.tag, none, false⟩ ∧ f.choose.tag = f.tag + 1
            ∧ (∃ c0 c1 : Byte, f.choose.tx = some [0x5a, byteOf o.dest, f.tag, o.code, byteOf o.output, o.argument, c0, c1]
              ∧ checkHolds [0x5a, byteOf o.dest, f.tag, o.code, byteOf o.output, o.argument, c0, c1] = true)
            ∧ (∀ k p, o = .motion k p → f.choose.motion = f.motion.set p (.inFlight k))
            ∧ (∀ m p, o = .lamp m p → f.choose.lamps = f.lamps.set p none)
            ∧ (∀ st, o = .poll st → f.choose.polls = f.polls.set st false)
            ∧ (o = .tripAll → f.choose.broadcast = false)
            ∧ f.choose.reach = f.reach ∧ f.choose.noReply = f.noReply ∧ f.choose.spacing = f.spacing)
    ∧ (∀ o : Order,
      match o with
      | .tripAll => o.code = 1 ∧ o.dest = 0 ∧ o.output = 0 ∧ o.argument = 0
      | .motion k p => o.code = k.code ∧ o.dest = p.val / 4 + 1 ∧ o.output = p.val % 4 ∧ o.argument = 0
      | .lamp m p => o.code = 5 ∧ o.dest = p.val / 4 + 1 ∧ o.output = p.val % 4 ∧ o.argument = m.code
      | .poll st => o.code = 6 ∧ o.dest = st.val + 1 ∧ o.output = 0 ∧ o.argument = 0)
    ∧ (MotionKind.shed.code = 2 ∧ MotionKind.warn.code = 3 ∧ MotionKind.restore.code = 4)
    ∧ (Lamp.off.code = 0 ∧ Lamp.on.code = 1 ∧ Lamp.blink.code = 2)
    ∧ ∀ (o : Order) (tag : Byte), ∃ c0 c1 : Byte,
      orderFrame o tag = [0x5a, byteOf o.dest, tag, o.code, byteOf o.output, o.argument, c0, c1]
        ∧ checkHolds (orderFrame o tag) = true

/-- ORDER_FRAME_END starts the reply timer at 20 ms; TRIP_ALL_FRAME_END resolves the TRIP_ALL, and the FLC chooses again. By the end
of a frame the moment of a timeout is over (log 49). POLL_TIMER_EXPIRY: the poll slot of every configured station is set, of no
other, and the timer starts again. The expiry acts on a running timer, whatever is left on it (log 2). -/
def Obligations.FrameEndsAndPolls : Prop :=
  (∀ (s : State) (f : InFlight) (bytes : List Byte), s.flc.tx = some bytes → s.flc.inFlight = some f →
      (f.order ≠ .tripAll → exec .orderFrameEnd s
          = .next { s with flc := { s.flc with tx := none, timedOut := false, inFlight := some { f with timer := some 20 } } })
        ∧ (f.order = .tripAll → exec .tripAllFrameEnd s
          = .next { s with flc := { s.flc with tx := none, timedOut := false, inFlight := none, aborted := false }.choose }))
    ∧ (∀ s : State, s.flc.pollTimer.isSome = true → ∃ t, exec .pollTimerExpiry s = .next t
      ∧ t = { s with flc := t.flc } ∧ t.flc.pollTimer = some s.pls.active.params.pollInterval
      ∧ (∀ st : Fin 16, s.pls.active.configured st = true →
          t.flc.polls[st] = true ∨ ∃ f, t.flc.inFlight = some f ∧ f.order = .poll st)
      ∧ (∀ st : Fin 16, s.pls.active.configured st = false →
          t.flc.polls[st] = s.flc.polls[st]
            ∨ (s.flc.polls[st] = true ∧ ∃ f, t.flc.inFlight = some f ∧ f.order = .poll st))
      ∧ (s.flc.inFlight.isSome = true → t.flc = { s.flc with
          polls := Vector.ofFn (fun st => s.flc.polls[st] || s.pls.active.configured st)
          pollTimer := some s.pls.active.params.pollInterval }))

/-- LOOP_REPLY_FRAME, a frame of 10 bytes while the part listens in HUNT: one that is no reply frame is counted as a loop frame error;
a reply frame that does not match is counted stale; a matching one makes its station REACHABLE and resolves the order. A
resolution frees the motion slot, starts the restore spacing of a RESTORE, is taken whole by the Point Manager, clears the
start-up mark of a POLL, and then the FLC chooses with no order in flight. While the part is sending nothing is received, but for
a frame that arrives at the moment of a timeout, which is then stale whatever the timeout has sent (log 49). The bytes are the
command's operand (log 4); what follows of itself, and the choice after it, come in the model's order (log 7, log 8). -/
def Obligations.LoopReplyHandling : Prop :=
  (∀ (s : State) (bs : List LineByte) (src tag res o0 o1 o2 o3 c0 c1 : Byte), s.flc.tx = none → s.flc.rx = .hunt →
      bs.map LineByte.val = [0x5b, src, tag, res, o0, o1, o2, o3, c0, c1] →
      let isReply := checkHolds (bs.map LineByte.val) = true ∧ bs.any LineByte.bad = false ∧ 1 ≤ src.toNat
        ∧ src.toNat ≤ 16 ∧ res.toNat ≤ 2
      let result : Result := if res = 0 then .done else if res = 1 then .refusedLocked else .outputFault
      (¬ isReply → exec (.loopReplyFrame bs) s
          = .next { s with flc := { s.flc with frameErrors := min (s.flc.frameErrors + 1) 65535, timedOut := false } })
        ∧ (isReply → (∀ f st, s.flc.inFlight = some f → f.order.station = some st → ¬ (src.toNat = st.val + 1 ∧ tag = f.tag)) →
          exec (.loopReplyFrame bs) s
            = .next { s with flc := { s.flc with stale := min (s.flc.stale + 1) 65535, timedOut := false } })
        ∧ (∀ f st, isReply → s.flc.inFlight = some f → f.order.station = some st → src.toNat = st.val + 1 → tag = f.tag →
          exec (.loopReplyFrame bs) s
            = .next (resolve f st result (some #v[outputStatus o0, outputStatus o1, outputStatus o2, outputStatus o3])
              (checkUnreachable (some st)
                { s with flc := { s.flc with
                    reach := s.flc.reach.set st .reachable
                    noReply := s.flc.noReply.set st 0
                    timedOut := false
                    inFlight := some { f with timer := none } } }))))
    ∧ (∀ (s : State) (bs : List LineByte) (src tag res o0 o1 o2 o3 c0 c1 : Byte),
      s.flc.tx.isSome = true → s.flc.timedOut = true → s.flc.rx = .hunt →
      bs.map LineByte.val = [0x5b, src, tag, res, o0, o1, o2, o3, c0, c1] →
      let isReply := checkHolds (bs.map LineByte.val) = true ∧ bs.any LineByte.bad = false ∧ 1 ≤ src.toNat
        ∧ src.toNat ≤ 16 ∧ res.toNat ≤ 2
      (¬ isReply → exec (.loopReplyFrame bs) s
          = .next { s with flc := { s.flc with frameErrors := min (s.flc.frameErrors + 1) 65535, timedOut := false } })
        ∧ (isReply → exec (.loopReplyFrame bs) s
          = .next { s with flc := { s.flc with stale := min (s.flc.stale + 1) 65535, timedOut := false } }))
    ∧ (∀ (s : State) (bs : List LineByte), s.flc.tx.isSome = true → s.flc.timedOut = false →
      exec (.loopReplyFrame bs) s = .next s)
    ∧ (∀ (s : State) (f : InFlight) (st : Fin 16) (r : Result) (outs : Option (Vector OutputStatus 4)),
      (∀ k p, f.order = .motion k p →
          let freed := { s with flc := { s.flc with
            motion := s.flc.motion.set p .empty
            spacing := if k ≠ .restore then s.flc.spacing
              else if s.pls.active.params.restoreSpacing = 0 then none else some s.pls.active.params.restoreSpacing } }
          resolve f st r outs s = chooseAfter (settle (takeResolution f st r outs freed)))
        ∧ (∀ m p, f.order = .lamp m p → resolve f st r outs s = chooseAfter (settle (takeResolution f st r outs s)))
        ∧ (f.order = .poll st → resolve f st r outs s
          = chooseAfter (settle (checkRound
              (let t := takeResolution f st r outs s
               { t with flc.marks := t.flc.marks.set st false })))))
    ∧ ∀ s : State, chooseAfter s = { s with flc := { s.flc with inFlight := none, aborted := false }.choose }

/-- REPLY_TIMEOUT: below three timeouts and three attempts the next attempt goes out with a new tag; the third timeout in a row makes
the station UNREACHABLE, which is reported to the Fault Monitor before it reaches the points, the model's choice (log 9); with no
attempt left, or the station UNREACHABLE, the order resolves with NO_REPLY, and what follows of itself and the next choice come in
the model's order (log 7, log 8). The expiry acts on a running timer, whatever is left on it (log 2). The condition
STATION_UNREACHABLE is true while a configured station, one with a point in use, is UNREACHABLE; when it becomes true it is
reported with the station whose change is being taken, and at a commit with the lowest such station (log 9). A timeout marks its
moment (log 49). -/
def Obligations.ReplyTimeoutHandling : Prop :=
  (∀ (s : State) (f : InFlight) (st : Fin 16) (ms : Nat), s.flc.inFlight = some f → f.order.station = some st →
    f.timer = some ms → s.flc.noReply[st] ≤ 3 →
    let n := min (s.flc.noReply[st] + 1) 3
    let counted := { s with flc := { s.flc with noReply := s.flc.noReply.set st n, timedOut := true } }
    let stopped (t : State) : State := { t with flc := { t.flc with inFlight := some { f with timer := none } } }
    (s.flc.reach[st] ≠ .unreachable → n < 3 → f.attempts < 3 → exec .replyTimeout s
        = .next { counted with flc := { counted.flc with
            inFlight := some { f with attempts := f.attempts + 1, tag := s.flc.tag, timer := none }
            tx := some (orderFrame f.order s.flc.tag)
            tag := s.flc.tag + 1 } })
      ∧ (s.flc.reach[st] ≠ .unreachable → n = 3 → exec .replyTimeout s
        = .next (resolve f st .noReply none (stopped (stationUnreachable st (checkUnreachable (some st)
            { counted with flc := { counted.flc with reach := s.flc.reach.set st .unreachable } })))))
      ∧ (s.flc.reach[st] = .unreachable ∨ (n < 3 ∧ 3 ≤ f.attempts) →
        exec .replyTimeout s = .next (resolve f st .noReply none (stopped counted))))
    ∧ (∀ (pl : Plan) (st : Fin 16), pl.configured st = true ↔ ∃ p : Fin 64, p.val / 4 = st.val ∧ pl.points[p].inUse = true)
    ∧ ∀ (s : State) (cause : Option (Fin 16)),
      let counts (st : Fin 16) : Prop := s.pls.active.configured st = true ∧ s.flc.reach[st] = .unreachable
      let was := s.fmn.condUnreachable
      ((∃ st, counts st) → was = true → checkUnreachable cause s = s)
        ∧ (∀ low, counts low → (∀ st, st < low → ¬ counts st) → was = false → checkUnreachable cause s
          = raiseFault .stationUnreachable (.loadStation (cause.getD low)) { s with fmn := { s.fmn with condUnreachable := true } })
        ∧ ((∀ st, ¬ counts st) → checkUnreachable cause s = { s with fmn := { s.fmn with condUnreachable := false } })

/-- The restore gate admits a point when it is open, no RESTORE is pending or in flight, the spacing timer is stopped, the point is
the first eligible AWAIT point in gate order, and its weight fits the budget; and only then. RESTORE_SPACING_EXPIRY: the spacing
timer stops and the gate is evaluated; a point that it admits has its RESTORE posted and becomes CLOSING, its weight counted. The
expiry acts on a running timer, whatever is left on it (log 2); what follows of itself is taken in the model's order (log 7). An
AWAIT point is eligible if it is manual, or its button has been seen, or no restart step that lists it requires the button, and,
the model's choice, its motion slot is EMPTY (log 19); the gate's order is by point number in WATCH, else by restart step and then
point number, and its head is the first eligible point. What follows of itself is, in the model's order (log 7): the running shed
step is DONE when its CONFIRM wait is met, or at once as a NONE step or one of 0 s; so is the running restart step by SETTLED; a
complete restart goes to WATCH and closes the event; and the gate posts; again and again until nothing follows, at most 200 times.
-/
def Obligations.RestoreGate : Prop :=
  (∀ (s : State) (p : Fin 64), s.gateAdmits = some p ↔
      (s.seq.state = .restarting ∨ s.seq.state = .watch)
        ∧ (∀ q : Fin 64, s.flc.motion[q] ≠ .pending .restore ∧ s.flc.motion[q] ≠ .inFlight .restore)
        ∧ s.flc.spacing = none ∧ s.gateEligible p = true
        ∧ (∀ q : Fin 64, s.gateEligible q = true → s.gateRank p ≤ s.gateRank q)
        ∧ s.ptm.inrush + s.pls.active.points[p].weight ≤ s.pls.active.params.inrushBudget)
    ∧ (∀ s : State, s.flc.spacing.isSome = true →
      let u := { s with flc := { s.flc with spacing := none } }
      exec .restoreSpacingExpiry s = .next (settle u)
        ∧ ∀ p, u.gateAdmits = some p →
          (gatePost p u).pointState p = .closing ∧ (gatePost p u).ptm.points[p].cause = .orderDone
            ∧ (u.flc.motion[p] = .empty →
              (gatePost p u).flc.motion[p] = .pending .restore ∨ (gatePost p u).flc.motion[p] = .inFlight .restore)
            ∧ (gatePost p u).ptm.inrush = s.ptm.inrush + s.pls.active.points[p].weight)
    ∧ (∀ (s : State) (p : Fin 64),
      let listed (k : Nat) : Prop := k < 48 ∧ p ∈ (s.pls.active.restartStep k).points
      (∀ k, s.pls.active.restartStepOf p = some k ↔ listed k ∧ ∀ j, j < k → ¬ listed j)
        ∧ (s.gateEligible p = true ↔ s.pointState p = .await ∧ s.flc.motion[p] = .empty
          ∧ (s.ptm.points[p].manual = true ∨ s.ptm.points[p].buttonSeen = true
            ∨ ∀ k, s.pls.active.restartStepOf p = some k → (s.pls.active.restartStep k).button = false))
        ∧ (s.seq.state = .watch → s.gateRank p = p.val)
        ∧ (s.seq.state ≠ .watch → (∀ k, s.pls.active.restartStepOf p = some k → s.gateRank p = k * 64 + p.val)
          ∧ (s.pls.active.restartStepOf p = none → s.gateRank p = 48 * 64 + p.val))
        ∧ (s.gateHead = some p ↔ s.gateEligible p = true ∧ ∀ q : Fin 64, s.gateEligible q = true → s.gateRank p ≤ s.gateRank q)
        ∧ gatePost p s = movePoint p .closing .orderDone (placeMotion .restore p s))
    ∧ (∀ s : State,
      let h := s.pls.active.shedStep s.seq.pointer
      let r := s.pls.active.restartStep s.seq.restartPointer
      let shedMet := s.shedRunning s.seq.pointer = true ∧ match h.wait with
        | .points => ∀ p ∈ h.points, s.pointState p = .shed ∨ s.pointState p = .locked ∨ s.pointState p = .failed
        | .timer => h.delay = 0
        | .none => True
      let restartMet := s.restartRunning s.seq.restartPointer = true ∧ match r.wait with
        | .points => ∀ p ∈ r.points, s.pointState p = .energised ∨ s.pointState p = .locked ∨ s.pointState p = .failed
        | .timer => r.delay = 0
        | .none => True
      let complete := s.seq.state = .restarting ∧ s.pls.active.restartLen ≤ s.seq.restartPointer
        ∧ ∀ p : Fin 64, s.pointState p ≠ .await ∧ s.pointState p ≠ .closing ∧ s.pointState p ≠ .settling
      (shedMet → settleOnce s
          = some (afterShedDone s.seq.pointer (post (.step .shed s.seq.pointer .done) s)))
        ∧ (¬ shedMet → restartMet → settleOnce s
          = some (afterRestartDone s.seq.restartPointer (post (.step .restart s.seq.restartPointer .done) s)))
        ∧ (¬ shedMet → ¬ restartMet → complete → settleOnce s = some (closeEvent (setSequence .watch s)))
        ∧ (¬ shedMet → ¬ restartMet → ¬ complete → settleOnce s = s.gateAdmits.map (fun p => gatePost p s)))
    ∧ (∀ s : State, settle s = settleFor 200 s ∧ settleFor 0 s = s
      ∧ ∀ n : Nat, settleFor (n + 1) s = match settleOnce s with
        | none => s
        | some t => settleFor n t)
    ∧ (∀ (s : State) (k : Nat),
      (s.shedRunning k = true ↔ s.seq.state = .shedding ∧ statusAt s.seq.shedStatus k = .running)
        ∧ (s.restartRunning k = true ↔ s.seq.state = .restarting ∧ statusAt s.seq.restartStatus k = .running))
    ∧ ∀ (new : SeqState) (s : State),
      setSequence new s = raiseAll .sequence (post (.sequence s.seq.state new s.seq.depth)
        { s with seq := { s.seq with state := new } })

/-! ### The chains, the event and the consent -/

/-- SHED_DELAY_EXPIRY: the running shed step is DONE, with its STEP record. SHED_STEP_TIMEOUT: TIMED_OUT is posted, STEP_TIMEOUT
raised, and a SHED wanted for each WARNED point of the step with cause TIMEOUT, in the order of its list (log 35). D and the
pointer follow, and the next step runs, or the Sequencer halts at the target; then what follows of itself is taken, in the model's
order (log 7). An expiry acts on a running timer, whatever is left on it (log 2). A shed step that starts is RUNNING with its STEP
record and its timers, and each point of its list is handled by its state. -/
def Obligations.ShedStepEnds : Prop :=
  (∀ s : State, s.seq.shedDelay.isSome = true → s.shedRunning s.seq.pointer = true →
      let k := s.seq.pointer
      let u := afterShedDone k (post (.step .shed k .done) s)
      exec .shedDelayExpiry s = .next (settle u) ∧ u.seq.depth = max s.seq.depth (k + 1) ∧ u.seq.pointer = k + 1
        ∧ statusAt u.seq.shedStatus k = .done ∧ u.seq.target = s.seq.target
        ∧ (k + 1 < s.seq.target → u.seq.state = .shedding
          ∧ (k + 1 < 48 → statusAt u.seq.shedStatus (k + 1) = .running)
          ∧ u.seq.shedTimeout = some ((s.pls.active.shedStep (k + 1)).timeout * 1000))
        ∧ (s.seq.target ≤ k + 1 → u.seq.state = .halted ∧ u.seq.shedDelay = none ∧ u.seq.shedTimeout = none))
    ∧ (∀ s : State, s.seq.shedTimeout.isSome = true → s.shedRunning s.seq.pointer = true →
      let k := s.seq.pointer
      let v := (s.pls.active.shedStep k).points.foldl
        (fun t p => if t.pointState p = .warned then wantShed p .timeout t else t)
        (raiseFault .stepTimeout (.step .shed k) (post (.step .shed k .timedOut) s))
      let u := afterShedDone k v
      exec .shedStepTimeout s = .next (settle u) ∧ u.fmn.status[FaultKind.stepTimeout.idx] = true
        ∧ u.seq.depth = max s.seq.depth (k + 1) ∧ u.seq.pointer = k + 1 ∧ statusAt u.seq.shedStatus k = .done
        ∧ (s.seq.target ≤ k + 1 → u.seq.state = .halted))
    ∧ (∀ (s : State) (k : Nat),
      let h := s.pls.active.shedStep k
      let begun := post (.step .shed k .started)
        { s with seq := { s.seq with shedStatus := setStatusAt s.seq.shedStatus k .running } }
      startShedStep k s = h.points.foldl shedStepPoint { begun with seq := { begun.seq with
        shedTimeout := some (h.timeout * 1000)
        shedDelay := if h.wait = .timer ∧ h.delay ≠ 0 then some (h.delay * 1000) else none } })
    ∧ (∀ (s : State) (p : Fin 64),
      let warns := s.flc.motion[p] = .empty ∧ s.pls.active.points[p].mode = .warnThenOpen ∧ s.mev.level ≠ .severe
      let st := s.pointState p
      (st = .locked ∨ st = .shed ∨ st = .warned ∨ st = .unused ∨ st = .await → shedStepPoint s p = s)
        ∧ (st = .energised → warns → shedStepPoint s p = movePoint p .warning .orderDone (placeMotion .warn p s))
        ∧ (st = .energised → ¬ warns → shedStepPoint s p = wantShed p .orderDone s)
        ∧ (st = .failed ∨ st = .unknown ∨ st = .settling → shedStepPoint s p = wantShed p .orderDone s)
        ∧ (st = .warning ∨ st = .opening ∨ st = .closing →
          ((∃ k, s.flc.motion[p] = .inFlight k) → shedStepPoint s p = wantShed p .orderDone s)
            ∧ ((∀ k, s.flc.motion[p] ≠ .inFlight k) → shedStepPoint s p = s)))
    ∧ ∀ (s : State) (k : Nat),
      let done := { s with seq := { s.seq with
        shedStatus := setStatusAt s.seq.shedStatus k .done, shedDelay := none, shedTimeout := none
        depth := max s.seq.depth (k + 1), pointer := k + 1 } }
      let halted := setSequence .halted done
      (k + 1 < s.seq.target → afterShedDone k s = startShedStep (k + 1) done)
        ∧ (s.seq.target ≤ k + 1 → s.ctk.state = .inactive → afterShedDone k s = raiseAll .consent { halted with
          ctk := { s.ctk with
            state := if s.pls.active.params.quietPeriod * 1000 ≤ s.mev.quiet then .openState else .waitQuiet } })

/-- RESTART_DELAY_EXPIRY and RESTART_STEP_TIMEOUT: the running restart step is DONE or times out; an AWAIT point of a step that times
out becomes FAILED with cause TIMEOUT, in the order of its list (log 35); the next step starts while there is one, and then what
follows of itself is taken, in the model's order (log 7). An expiry acts on a running timer, whatever is left on it (log 2). A
change of level at or above the abort level aborts the restart, after a grace cut at SEVERE (log 40), and any other lets it run.
An abort and a veto stop: the running step is STOPPED and the pointer stands; each AWAIT point, and each CLOSING one whose RESTORE
is pending, becomes SHED with cause CANCELLED; a RESTORE in flight gets a deferred SHED at an abort, and the mark of it (log 38),
and is left alone at a veto; D stands; an abort starts H0 afresh toward max(D, depth), a veto stop is HALTED, or SHEDDING at the
step at D if the target is above it. The points are taken in point order (log 35). A restart that begins sets its side afresh and
starts K0, if there is one. A restart step that starts is RUNNING with its STEP record and its timers, and each point of its list
is handled by its state: LOCKED is skipped with a record, SHED, FAILED and UNKNOWN become AWAIT, the others stand; a point of the
running step that becomes SHED becomes AWAIT at once. The abort posts the SEQUENCE record RESTARTING to SHEDDING once the points
are done, and the veto stop RESTARTING to HALTED, where the tracker becomes OPEN or WAIT_QUIET by quiet time, with the CONSENT
notice. -/
def Obligations.RestartStepEnds : Prop :=
  (∀ s : State, s.restartRunning s.seq.restartPointer = true →
      let k := s.seq.restartPointer
      let u := afterRestartDone k (post (.step .restart k .done) s)
      let w := (s.pls.active.restartStep k).points.foldl
        (fun t p => if t.pointState p = .await then movePoint p .failed .timeout t else t)
        (raiseFault .stepTimeout (.step .restart k) (post (.step .restart k .timedOut) s))
      (s.seq.restartDelay.isSome = true → exec .restartDelayExpiry s = .next (settle u))
        ∧ (s.seq.restartTimeout.isSome = true → exec .restartStepTimeout s = .next (settle (afterRestartDone k w)))
        ∧ ∀ t, t = u ∨ t = afterRestartDone k w →
          t.seq.restartPointer = k + 1 ∧ statusAt t.seq.restartStatus k = .done ∧ t.seq.state = .restarting
            ∧ (k + 1 < s.pls.active.restartLen → k + 1 < 48 → statusAt t.seq.restartStatus (k + 1) = .running)
            ∧ (s.pls.active.restartLen ≤ k + 1 → t.seq.restartDelay = none ∧ t.seq.restartTimeout = none))
    ∧ (∀ s : State, s.seq.state = .restarting →
      let told := eventAtLevel s
      let cut := if s.mev.level = .severe then allPoints.foldl cutGrace told else told
      (s.pls.active.params.abortLevel.rank ≤ s.mev.level.rank → sequencerAtLevel s = settle (abortRestart cut))
        ∧ (s.mev.level.rank < s.pls.active.params.abortLevel.rank → sequencerAtLevel s = settle cut))
    ∧ (∀ s : State, s.seq.state = .restarting →
      let t := abortRestart s
      t.seq.state = .shedding ∧ t.seq.depth = s.seq.depth ∧ t.seq.eventOpen = s.seq.eventOpen ∧ t.seq.pointer = 0
        ∧ t.seq.target = max s.seq.depth (s.pls.active.depth s.mev.level)
        ∧ (∀ k : Fin 48, t.seq.shedStatus[k] = if k.val = 0 then .running else .notStarted)
        ∧ t.seq.restartPointer = s.seq.restartPointer
        ∧ (s.restartRunning s.seq.restartPointer = true → t.seq.restartDelay = none ∧ t.seq.restartTimeout = none
          ∧ t.seq.restartStatus = setStatusAt s.seq.restartStatus s.seq.restartPointer .stopped)
        ∧ ∀ p : Fin 64, p ∉ (s.pls.active.shedStep 0).points →
          (s.flc.inFlight.isSome = true ∨ ∀ q : Fin 64, s.flc.motion[q] ≠ .pending .restore) →
          (s.pointState p = .await ∨ (s.pointState p = .closing ∧ s.flc.motion[p] = .pending .restore) →
              t.pointState p = .shed ∧ t.ptm.points[p].cause = .cancelled ∧ t.ptm.points[p].manual = false)
            ∧ (s.pointState p = .closing → s.flc.motion[p] = .inFlight .restore →
              t.pointState p = .closing ∧ t.ptm.points[p].deferred = true ∧ t.flc.motion[p] = .inFlight .restore)
            ∧ (s.pointState p ≠ .await → s.pointState p ≠ .closing → t.ptm.points[p] = s.ptm.points[p]))
    ∧ (∀ s : State, s.seq.state = .restarting →
      let t := vetoStop s
      let again := s.seq.depth < s.seq.target
      t.seq.depth = s.seq.depth ∧ t.seq.target = s.seq.target ∧ t.seq.eventOpen = s.seq.eventOpen
        ∧ t.seq.restartPointer = s.seq.restartPointer
        ∧ (s.restartRunning s.seq.restartPointer = true → t.seq.restartDelay = none ∧ t.seq.restartTimeout = none
          ∧ t.seq.restartStatus = setStatusAt s.seq.restartStatus s.seq.restartPointer .stopped)
        ∧ (¬ again → t.seq.state = .halted ∧ t.seq.shedStatus = s.seq.shedStatus ∧ t.seq.pointer = s.seq.pointer)
        ∧ (again → t.seq.state = .shedding ∧ t.seq.pointer = s.seq.depth
          ∧ t.seq.shedStatus = setStatusAt s.seq.shedStatus s.seq.depth .running)
        ∧ ∀ p : Fin 64, (again → p ∉ (s.pls.active.shedStep s.seq.depth).points) →
          (s.flc.inFlight.isSome = true ∨ ∀ q : Fin 64, s.flc.motion[q] ≠ .pending .restore) →
          (s.pointState p = .await ∨ (s.pointState p = .closing ∧ s.flc.motion[p] = .pending .restore) →
              t.pointState p = .shed ∧ t.ptm.points[p].cause = .cancelled ∧ t.ptm.points[p].manual = false)
            ∧ (s.pointState p ≠ .await → ¬ (s.pointState p = .closing ∧ s.flc.motion[p] = .pending .restore) →
              t.ptm.points[p] = s.ptm.points[p]))
    ∧ (∀ (s : State) (k : Nat),
      let r := s.pls.active.restartStep k
      let begun := post (.step .restart k .started)
        { s with seq := { s.seq with restartStatus := setStatusAt s.seq.restartStatus k .running } }
      startRestartStep k s = r.points.foldl restartStepPoint { begun with seq := { begun.seq with
        restartTimeout := some (r.timeout * 1000)
        restartDelay := if r.wait = .timer ∧ r.delay ≠ 0 then some (r.delay * 1000) else none } })
    ∧ (∀ (s : State) (p : Fin 64),
      let st := s.pointState p
      (st = .locked → restartStepPoint s p = post (.point p .locked .locked .lockout) s)
        ∧ (st = .shed ∨ st = .failed ∨ st = .unknown → restartStepPoint s p = movePoint p .await .orderDone s)
        ∧ (st ≠ .locked → st ≠ .shed → st ≠ .failed → st ≠ .unknown → restartStepPoint s p = s)
        ∧ (let joins := s.restartRunning s.seq.restartPointer = true ∧ st = .shed
             ∧ p ∈ (s.pls.active.restartStep s.seq.restartPointer).points
           (joins → rejoinGate p s = movePoint p .await .orderDone s) ∧ (¬ joins → rejoinGate p s = s)))
    ∧ (∀ s : State,
      let fresh := { s with seq := { s.seq with
        restartStatus := Vector.replicate 48 .notStarted, restartPointer := 0, restartDelay := none, restartTimeout := none } }
      (s.pls.active.restartLen = 0 → beginRestart s = fresh)
        ∧ (0 < s.pls.active.restartLen → beginRestart s = startRestartStep 0 fresh))
    ∧ (∀ (s : State) (k : Nat),
      let done := { s with seq := { s.seq with
        restartStatus := setStatusAt s.seq.restartStatus k .done, restartDelay := none, restartTimeout := none
        restartPointer := k + 1 } }
      (k + 1 < s.pls.active.restartLen → afterRestartDone k s = startRestartStep (k + 1) done)
        ∧ (s.pls.active.restartLen ≤ k + 1 → afterRestartDone k s = done))
    ∧ (∀ s : State,
      let k := s.seq.restartPointer
      let stopped := { s with seq := { s.seq with
        restartStatus := setStatusAt s.seq.restartStatus k .stopped, restartDelay := none, restartTimeout := none } }
      let halts := if s.restartRunning k then stopped else s
      let withdrawn := (List.finRange 64).foldl cancelPendingRestore halts
      let cancelled := (List.finRange 64).foldl cancelAwait withdrawn
      let sheds := setShedding ((List.finRange 64).foldl cancelAwait ((List.finRange 64).foldl shedInFlightRestore withdrawn))
      abortRestart s = startShedStep 0 { sheds with seq := { sheds.seq with
          shedStatus := Vector.replicate 48 .notStarted, pointer := 0
          target := max sheds.seq.depth (sheds.pls.active.depth sheds.mev.level) } }
        ∧ vetoStop s = checkShedding (enterHalted cancelled))
    ∧ (∀ (s : State) (p : Fin 64),
      let gone := movePoint p .shed .cancelled (withdraw p s)
      (s.pointState p = .closing → s.flc.motion[p] = .pending .restore → cancelPendingRestore s p = gone)
        ∧ (¬ (s.pointState p = .closing ∧ s.flc.motion[p] = .pending .restore) → cancelPendingRestore s p = s)
        ∧ (s.pointState p = .closing → s.flc.motion[p] = .inFlight .restore → shedInFlightRestore s p
          = (let w := wantShed p .orderDone s
             { w with flc := { w.flc with aborted := true } }))
        ∧ (¬ (s.pointState p = .closing ∧ s.flc.motion[p] = .inFlight .restore) → shedInFlightRestore s p = s)
        ∧ (s.pointState p = .await → cancelAwait s p = gone) ∧ (s.pointState p ≠ .await → cancelAwait s p = s)
        ∧ (∀ k, s.flc.motion[p] = .pending k → withdraw p s = { s with flc := { s.flc with motion := s.flc.motion.set p .empty } })
        ∧ ((∀ k, s.flc.motion[p] ≠ .pending k) → withdraw p s = s))
    ∧ ∀ s : State, s.ctk.state = .inactive →
      let halted := raiseAll .sequence (post (.sequence s.seq.state .halted s.seq.depth)
        { s with seq := { s.seq with state := .halted } })
      let sheds := raiseAll .sequence (post (.sequence s.seq.state .shedding s.seq.depth)
        { s with seq := { s.seq with state := .shedding } })
      enterHalted s = raiseAll .consent { halted with ctk := { s.ctk with
          state := if s.pls.active.params.quietPeriod * 1000 ≤ s.mev.quiet then .openState else .waitQuiet } }
        ∧ setShedding s = sheds

/-- An event that opens: event open yes and D 0, the shed side afresh, the target the depth of the level, the peaks reset, the EVENT
record OPENED with the device level and the greatest index, the SEQUENCE notice, and nothing of the plant, the plan or the restart
side touched. An event that closes: the EVENT record CLOSED with the peak level and the peak healthy index, the notice, D and the
target 0, the peaks left standing until the next opening frees them (log 48), each ASSERTED line released with its record, in line
order (log 35), the TRIP_ALL flag cleared, and the shed statuses and pointer as they were; above QUIET a new event opens at once,
and in WATCH it may start shedding. At a change of level the target of an open event rises to the depth of the level, and with
none open, above QUIET and outside LOADING, an event opens. A target above D starts shedding in WATCH, at H0, after the manual
restores are withdrawn (log 26), and in HALTED, at the step at D, where the tracker ends. The start-up decision: with a SHED point
or an ASSERTED line, HALTED with an event open, D, the target and the pointer at the chain's length, every step DONE, and the
chain's ENERGISED points enforced, in point order (log 35); else WATCH, and then shedding, or the close of the event, or neither.
Enforcement wants a SHED, cause ENFORCED, for a point below D that feedback or a lockout has made ENERGISED in SHEDDING or HALTED,
and for no other. Where WATCH ends, a manual point in AWAIT, or in CLOSING with its RESTORE pending, has the order withdrawn and
becomes SHED with cause CANCELLED. Where HALTED is left for SHEDDING a held consent is discarded, with its CONSENT record after
the SEQUENCE record (log 41). -/
def Obligations.EventOpens : Prop :=
  (∀ s : State,
      let t := openEvent s
      t.seq = { s.seq with
          eventOpen := true, depth := 0, shedStatus := Vector.replicate 48 .notStarted, pointer := 0, shedDelay := none
          shedTimeout := none, target := max 0 (s.pls.active.depth s.mev.level) }
        ∧ t.mev.peakLevel = s.mev.level ∧ t.mev.peakHealthy = s.greatestIndex ∧ t.mev.peaksStand = false
        ∧ (∀ i : Fin 6, t.mev.evals[i] = { s.mev.evals[i] with peakShaking := 0, peakIndex := s.mev.evals[i].index })
        ∧ t = { raiseAll .sequence (post (.event true s.mev.level s.greatestIndex)
            { s with seq := { t.seq with target := s.seq.target }, mev := t.mev }) with seq := t.seq })
    ∧ (∀ s : State,
      let told := raiseAll .sequence (post (.event false s.mev.peakLevel s.mev.peakHealthy) s)
      let released := releaseLines { told with
        seq := { told.seq with eventOpen := false, depth := 0, target := 0 }, mev := { told.mev with peaksStand := true } }
      let shut := { released with flc := { released.flc with tripSent := false } }
      (s.mev.level = .quiet → closeEvent s = shut)
        ∧ (s.mev.level ≠ .quiet → closeEvent s = checkShedding (openEvent shut)))
    ∧ (∀ (s : State) (l : Fin 4),
      (releaseLines s).dtu.lines[l] = false
        ∧ releaseLines s = releaseLine 3 (releaseLine 2 (releaseLine 1 (releaseLine 0 s)))
        ∧ (s.dtu.lines[l] = true → releaseLine l s = post (.dt l false) { s with dtu := ⟨s.dtu.lines.set l false⟩ })
        ∧ (s.dtu.lines[l] = false → releaseLine l s = s))
    ∧ (∀ s : State,
      (s.seq.eventOpen = true → eventAtLevel s
          = { s with seq := { s.seq with target := max s.seq.target (s.pls.active.depth s.mev.level) } })
        ∧ (s.seq.eventOpen = false → s.mev.level = .quiet ∨ (s.seq.state = .startup ∧ s.seq.phase = .loading) →
          eventAtLevel s = s)
        ∧ (s.seq.eventOpen = false → s.mev.level ≠ .quiet → ¬ (s.seq.state = .startup ∧ s.seq.phase = .loading) →
          eventAtLevel s = openEvent s))
    ∧ (∀ s : State,
      let t := checkShedding s
      (s.seq.target ≤ s.seq.depth → t = s)
        ∧ (s.seq.state ≠ .watch → s.seq.state ≠ .halted → t = s)
        ∧ (s.seq.depth < s.seq.target → s.seq.state = .watch ∨ s.seq.state = .halted →
          let k := if s.seq.state = .watch then 0 else s.seq.depth
          t.seq.state = .shedding ∧ t.seq.pointer = k ∧ t.seq.shedStatus = setStatusAt s.seq.shedStatus k .running
            ∧ t.seq.depth = s.seq.depth ∧ t.seq.target = s.seq.target ∧ t.seq.eventOpen = s.seq.eventOpen
            ∧ (s.seq.state = .halted → t.ctk.state = .inactive)
            ∧ ∀ p : Fin 64, p ∉ (s.pls.active.shedStep k).points →
              (s.seq.state = .watch → s.ptm.points[p].manual = true → s.pointState p = .await →
                  t.pointState p = .shed ∧ t.ptm.points[p].cause = .cancelled ∧ t.ptm.points[p].manual = false)
                ∧ (s.seq.state = .halted ∨ s.ptm.points[p].manual = false → t.ptm.points[p] = s.ptm.points[p])))
    ∧ (∀ s : State,
      let n := s.pls.active.shedLen
      let taken := (∃ p : Fin 64, s.inUse p = true ∧ s.pointState p = .shed) ∨ ∃ l : Fin 4, s.dtu.lines[l] = true
      let due := s.seq.state = .startup ∧ s.seq.phase = .polling ∧ ∀ st : Fin 16, s.flc.marks[st] = false
      let t := checkRound s
      let watch := setSequence .watch s
      (¬ due → t = s)
        ∧ (due → taken → t.seq.state = .halted ∧ t.seq.eventOpen = true ∧ t.seq.depth = n ∧ t.seq.target = n
          ∧ t.seq.pointer = n ∧ (∀ k : Fin 48, k.val < n → t.seq.shedStatus[k] = .done)
          ∧ t.ctk.state = (if s.pls.active.params.quietPeriod * 1000 ≤ s.mev.quiet then .openState else .waitQuiet)
          ∧ ∀ p : Fin 64,
            let enforced := s.inUse p = true ∧ s.pointState p = .energised
              ∧ ∃ k : Fin 48, k.val < n ∧ p ∈ s.pls.active.shed[k].points
            (enforced → s.flc.motion[p] = .empty → t.pointState p = .opening ∧ t.ptm.points[p].cause = .enforced)
              ∧ (¬ enforced → t.ptm.points[p] = s.ptm.points[p]))
        ∧ (due → ¬ taken → s.seq.depth < s.seq.target → t = checkShedding watch)
        ∧ (due → ¬ taken → s.seq.target ≤ s.seq.depth →
          let closes := s.seq.eventOpen = true ∧ s.mev.level = .quiet ∧ s.pls.active.params.quietPeriod * 1000 ≤ s.mev.quiet
          (closes → t = closeEvent watch) ∧ (¬ closes → t = watch)))
    ∧ (∀ (s : State) (p : Fin 64),
      let due := (s.seq.state = .shedding ∨ s.seq.state = .halted) ∧ s.inUse p = true ∧ s.pointState p = .energised
        ∧ (s.ptm.points[p].cause = .feedback ∨ s.ptm.points[p].cause = .lockout)
        ∧ ∃ k : Fin 48, k.val < s.seq.depth ∧ p ∈ s.pls.active.shed[k].points
      (due → enforce p s = wantShed p .enforced s) ∧ (¬ due → enforce p s = s))
    ∧ (∀ s : State, s.seq.depth < s.seq.target →
      (s.seq.state = .watch → checkShedding s
          = startShedStep 0 ((List.finRange 64).foldl withdrawManual (setShedding { s with seq := { s.seq with pointer := 0 } })))
        ∧ (s.seq.state = .halted → checkShedding s
          = startShedStep s.seq.depth (setShedding { s with seq := { s.seq with pointer := s.seq.depth } })))
    ∧ (∀ (s : State) (p : Fin 64),
      let withdrawn := s.ptm.points[p].manual = true
        ∧ (s.pointState p = .await ∨ (s.pointState p = .closing ∧ s.flc.motion[p] = .pending .restore))
      (withdrawn → withdrawManual s p = movePoint p .shed .cancelled (withdraw p s)) ∧ (¬ withdrawn → withdrawManual s p = s))
    ∧ ∀ s : State,
      let told := raiseAll .sequence (post (.sequence s.seq.state .shedding s.seq.depth)
        { s with seq := { s.seq with state := .shedding } })
      (s.ctk.state = .inactive → setShedding s = told)
        ∧ (s.ctk.state = .waitQuiet ∨ s.ctk.state = .openState →
          setShedding s = raiseAll .consent { told with ctk := { s.ctk with state := .inactive } })
        ∧ ∀ q, s.ctk.state = .one → s.ctk.held = some q →
          let v := post (.consent q .discarded) { told with ctk := { s.ctk with held := none, window := none } }
          setShedding s = raiseAll .consent { v with ctk := { v.ctk with state := .inactive } }

/-- CONSENT_WINDOW_EXPIRY in ONE: the tracker becomes OPEN, the held consent NONE, a CONSENT record EXPIRED is posted with the held
port, and the CONSENT notice is raised. The expiry acts on a running timer, whatever is left on it (log 2). -/
def Obligations.ConsentWindowExpires : Prop :=
  ∀ (s : State) (q : Fin 3), s.ctk.window.isSome = true → s.ctk.state = .one → s.ctk.held = some q →
    let v := post (.consent q .expired) { s with ctk := { s.ctk with held := none, window := none } }
    exec .consentWindowExpiry s = .next (raiseAll .consent { v with ctk := { v.ctk with state := .openState } })
      ∧ v.ctk = { s.ctk with held := none, window := none }

/-- CONSENT, checked in the order of the table: the right, the tracker, the vetoes, the held port; a first consent is held with its
window, a second one from another port is the grant. What follows of itself after the grant is taken in the model's order (log 7).
-/
def Obligations.ConsentChecks : Prop :=
  ∀ (s : State) (p : Fin 3), Ready s p →
    let noVeto := ∀ q : Fin 3, s.ctk.veto[q] = false
    let taken := s.taken p 0x20
    let held := post (.consent p .first)
      { taken with ctk := { s.ctk with held := some p, window := some (s.pls.active.params.consentWindow * 1000) } }
    let spent := post (.consent p .granted) taken
    let granted := setSequence .restarting { spent with ctk := { s.ctk with held := none, window := none } }
    (s.pls.active.rights[p].consent = false → exec (.consent p []) s = .next (s.answered p 0x20 .noRight []))
      ∧ (s.pls.active.rights[p].consent = true →
        (s.ctk.state = .inactive → exec (.consent p []) s = .next (s.answered p 0x20 .wrongState []))
          ∧ (s.ctk.state = .waitQuiet → exec (.consent p []) s = .next (s.answered p 0x20 .notQuiet []))
          ∧ (s.ctk.state = .openState ∨ s.ctk.state = .one → ¬ noVeto →
            exec (.consent p []) s = .next (s.answered p 0x20 .vetoed []))
          ∧ (s.ctk.state = .openState → noVeto → exec (.consent p []) s
            = .next ((raiseAll .consent { held with ctk := { held.ctk with state := .one } }).replied p 0x20 .acceptedFirst []))
          ∧ (s.ctk.state = .one → noVeto → s.ctk.held = some p →
            exec (.consent p []) s = .next (s.answered p 0x20 .already []))
          ∧ (s.ctk.state = .one → noVeto → s.ctk.held ≠ some p → exec (.consent p []) s
            = .next ((settle (beginRestart (raiseAll .consent
                { granted with ctk := { granted.ctk with state := .inactive } }))).replied p 0x20 .granted [])))

/-- VETO: WRONG_STATE in STARTUP; a flag already set changes nothing; otherwise the flag is set with its VETO record and the CONSENT
notice, and then, in RESTARTING, the restart is stopped, and in ONE the held consent is discarded and the tracker is OPEN.
VETO_CLEAR, which needs no right: a set flag becomes clear with its record and the notice; a clear one stands; the tracker state
stands; the reply is OK. What follows of itself after a veto stop is taken in the model's order (log 7). -/
def Obligations.VetoAndVetoClear : Prop :=
  (∀ (s : State) (p : Fin 3), Ready s p → s.pls.active.rights[p].veto = true →
      let u := raiseAll .consent (post (.veto p true)
        { s.taken p 0x21 with ctk := { s.ctk with veto := s.ctk.veto.set p true } })
      (s.seq.state = .startup → exec (.veto p []) s = .next (s.answered p 0x21 .wrongState []))
        ∧ (s.seq.state ≠ .startup → s.ctk.veto[p] = true → exec (.veto p []) s = .next (s.answered p 0x21 .ok []))
        ∧ (s.seq.state ≠ .startup → s.ctk.veto[p] = false →
          (s.seq.state = .restarting → exec (.veto p []) s = .next ((settle (vetoStop u)).replied p 0x21 .ok []))
            ∧ (s.seq.state ≠ .restarting → s.ctk.state ≠ .one → exec (.veto p []) s = .next (u.replied p 0x21 .ok []))
            ∧ ∀ q, s.seq.state ≠ .restarting → s.ctk.state = .one → s.ctk.held = some q →
              let v := post (.consent q .discarded) { u with ctk := { u.ctk with held := none, window := none } }
              exec (.veto p []) s = .next
                ((raiseAll .consent { v with ctk := { v.ctk with state := .openState } }).replied p 0x21 .ok [])))
    ∧ (∀ (s : State) (p : Fin 3), Ready s p →
      let u := raiseAll .consent (post (.veto p false)
        { s.taken p 0x22 with ctk := { s.ctk with veto := s.ctk.veto.set p false } })
      (s.ctk.veto[p] = true → exec (.vetoClear p []) s = .next (u.replied p 0x22 .ok [])
          ∧ u.ctk = { s.ctk with veto := s.ctk.veto.set p false })
        ∧ (s.ctk.veto[p] = false → exec (.vetoClear p []) s = .next (s.answered p 0x22 .ok [])))

/-! ### Taking requests -/

/-- A request whose caller lacks its right is answered NO_RIGHT, whatever its parameters; a code outside the table is answered
UNKNOWN_REQUEST; a request while one is in service restarts the link timer and is answered BUSY echoing its code, or, with a BUSY
reply already waiting, discarded and counted. A payload of the wrong length, or a parameter out of range, is answered BAD_PARAM
with no payload, once code and right have passed; a set with a bit above its last member is out of range (log 14); the reply to a
PLAN_WRITE is PlanWriteAndRead's, and the parameters of the detail requests and of PLAN_READ are theirs. Nothing else changes.
Every request row stands for the frame of its code (log 5), a BUSY reply waits until its last byte is sent (log 18), and a valid
frame restarts the link timer even when it is then discarded (log 43) and drops a frame under collection (log 45): the model's
reading. -/
def Obligations.RequestsTurnedAway : Prop :=
  (∀ (s : State) (c : Instr) (p : Fin 3) (right : Rights → Bool) (code : Byte) (payload : List Byte), Ready s p →
      c.rightNeeded = some (p, right) → c.request = some (p, code, payload) → payload.length ≤ 120 →
      right s.pls.active.rights[p] = false → exec c s = .next (s.answered p code .noRight []))
    ∧ (∀ (s : State) (p : Fin 3) (code : Byte) (payload : List Byte), Ready s p → code ∉ requestCodes → payload.length ≤ 120 →
      exec (.unknownRequest p code payload) s = .next (s.answered p code .unknownRequest []))
    ∧ (∀ (s : State) (c : Instr) (p : Fin 3) (code : Byte) (payload : List Byte), c.request = some (p, code, payload) →
      payload.length ≤ 120 → s.spu.ports[p].service.isSome = true →
      let up : Port := { s.spu.ports[p] with
        up := true, link := some (s.pls.active.params.linkTimeout * 1000), rx := .hunt }
      (s.spu.ports[p].busyReplies = 0 → exec c s
          = .next { s with spu := ⟨s.spu.ports.set p { up with queue := up.queue ++ [⟨code, .busy, [], true⟩] }⟩ })
        ∧ (s.spu.ports[p].busyReplies ≠ 0 → exec c s
          = .next { s with spu := ⟨s.spu.ports.set p { up with frameErrors := min (up.frameErrors + 1) 65535 }⟩ }))
    ∧ (∀ (s : State) (p : Fin 3) (payload : List Byte), Ready s p → payload.length ≤ 120 →
      let r := s.pls.active.rights[p]
      let refused (code : Byte) : Host.Outcome State Fault Refusal := .next (s.answered p code .badParam [])
      (payload ≠ [] → exec (.status p payload) s = refused 0x01 ∧ exec (.ident p payload) s = refused 0x02
          ∧ exec (.sequenceDetail p payload) s = refused 0x05 ∧ exec (.release p payload) s = refused 0x11
          ∧ exec (.vetoClear p payload) s = refused 0x22
          ∧ (r.edit = true → exec (.claim p payload) s = refused 0x10 ∧ exec (.save p payload) s = refused 0x15)
          ∧ (r.consent = true → exec (.consent p payload) s = refused 0x20)
          ∧ (r.veto = true → exec (.veto p payload) s = refused 0x21))
        ∧ (payload.length ≠ 1 → exec (.stationDetail p payload) s = refused 0x03
          ∧ exec (.journalRead p payload) s = refused 0x06
          ∧ (r.edit = true → exec (.commit p payload) s = refused 0x14)
          ∧ (r.operate = true → exec (.manualShed p payload) s = refused 0x30 ∧ exec (.manualRestore p payload) s = refused 0x31))
        ∧ (payload.length ≠ 2 → exec (.pointDetail p payload) s = refused 0x04
          ∧ exec (.noticeMask p payload) s = refused 0x07 ∧ exec (.faultClear p payload) s = refused 0x28)
        ∧ (payload.length ≠ 3 → exec (.planRead p payload) s = refused 0x13))
    ∧ ∀ (s : State) (p : Fin 3) (a b : Byte), Ready s p →
      let r := s.pls.active.rights[p]
      let refused (code : Byte) : Host.Outcome State Fault Refusal := .next (s.answered p code .badParam [])
      exec (.journalRead p [0]) s = refused 0x06
        ∧ (128 ≤ a.toNat ∨ b.toNat = 0 ∨ 128 < b.toNat → exec (.noticeMask p [a, b]) s = refused 0x07)
        ∧ (4096 ≤ a.toNat + 256 * b.toNat → exec (.faultClear p [a, b]) s = refused 0x28)
        ∧ (r.edit = true → a ≠ 0 → a ≠ 1 → exec (.commit p [a]) s = refused 0x14)
        ∧ (r.operate = true → 64 ≤ a.toNat →
          exec (.manualShed p [a]) s = refused 0x30 ∧ exec (.manualRestore p [a]) s = refused 0x31)

/-- REQUEST_FRAME_INVALID at a port in HUNT: a length above 120 ends the frame at once, and a complete frame whose check fails or that
holds a stop-bit error is discarded; each is counted as a frame error, with no reply and no other change; a frame that is valid is
taken (log 4). REPLY_SENT: the oldest reply leaves the queue; the reply of the request in service ends its service, a BUSY reply
does not; a reply that a port reset found being sent ends first (log 18). -/
def Obligations.InvalidFramesAndSentReplies : Prop :=
  (∀ (s : State) (p : Fin 3) (bs : List LineByte), s.spu.ports[p].rx = .hunt →
      let counted := { s with
        spu := ⟨s.spu.ports.set p { s.spu.ports[p] with frameErrors := min (s.spu.ports[p].frameErrors + 1) 65535 }⟩ }
      (∀ l : Byte, 120 < l.toNat → bs.map LineByte.val = [0x3c, l] → exec (.requestFrameInvalid p bs) s = .next counted)
        ∧ ∀ (l code c0 c1 : Byte) (payload : List Byte), payload.length = l.toNat → l.toNat ≤ 120 →
          bs.map LineByte.val = [0x3c, l, code] ++ payload ++ [c0, c1] →
          (checkHolds (bs.map LineByte.val) = false ∨ bs.any LineByte.bad = true →
              exec (.requestFrameInvalid p bs) s = .next counted)
            ∧ (checkHolds (bs.map LineByte.val) = true → bs.any LineByte.bad = false →
              exec (.requestFrameInvalid p bs) s = exec (.requestWhileBusy p code payload) s))
    ∧ (∀ (s : State) (p : Fin 3),
      (∀ r rest, s.spu.ports[p].tail = none → s.spu.ports[p].queue = r :: rest → exec (.replySent p) s
          = .next { s with spu := ⟨s.spu.ports.set p
            { s.spu.ports[p] with queue := rest, service := if r.byBusy then s.spu.ports[p].service else none }⟩ })
        ∧ (s.spu.ports[p].tail.isSome = true → exec (.replySent p) s
          = .next { s with spu := ⟨s.spu.ports.set p { s.spu.ports[p] with tail := none }⟩ }))

/-- LINK_TIMEOUT: the port goes DOWN and is reset: flags, mask, watermark, request, queue and receiver; its claim and its held consent
are given up; PORT_LINK stands SET; its veto flag, frame-error count, and every plan record stay. A reply at the head of the queue
is sent to its end and ends no request (log 18). The flags start from none and hold what points 3 to 5 raise after it: CLAIM if
the port held the claim, CONSENT if the tracker leaves ONE for OPEN, FAULT if an unmasked kind becomes SET, and JOURNAL if the
records posted bring the unread count to the watermark; the attention line follows. Of another port nothing but flags and line
changes. The expiry acts on a running timer, whatever is left on it (log 2). -/
def Obligations.LinkTimeoutResetsPort : Prop :=
  ∀ (s : State) (p : Fin 3), s.spu.ports[p].link.isSome = true → ∃ t, exec (.linkTimeout p) s = .next t
    ∧ t.spu.ports[p].up = false ∧ t.spu.ports[p].link = none ∧ t.spu.ports[p].service = none
    ∧ t.spu.ports[p].queue = [] ∧ t.spu.ports[p].mask = 0x7f ∧ t.spu.ports[p].rx = .hunt
    ∧ t.spu.ports[p].watermark = s.pls.active.params.watermark ∧ t.spu.ports[p].frameErrors = s.spu.ports[p].frameErrors
    ∧ t.spu.ports[p].tail = (match s.spu.ports[p].tail with
        | some r => some r
        | none => s.spu.ports[p].queue.head?)
    ∧ (let flags := t.spu.ports[p].flags
       let newlySet (k : FaultKind) : Prop := s.fmn.status[k.idx] = false ∧ t.fmn.status[k.idx] = true
         ∧ s.pls.active.policy[k.idx].masked = false
       flags &&& (Notice.level.bit ||| Notice.sequence.bit ||| Notice.plan.bit) = 0
        ∧ (flags &&& Notice.claim.bit ≠ 0 ↔ s.pls.holder = some p)
        ∧ (flags &&& Notice.consent.bit ≠ 0 ↔ s.ctk.held = some p ∧ s.ctk.state ≠ .openState)
        ∧ (flags &&& Notice.fault.bit ≠ 0 ↔ newlySet .portLink ∨ newlySet .journalOverrun)
        ∧ (flags &&& Notice.journal.bit ≠ 0
          ↔ s.jrn.unread[p] < t.jrn.unread[p] ∧ s.pls.active.params.watermark ≤ t.jrn.unread[p])
        ∧ t.spu.ports[p].attention = (flags != 0))
    ∧ (∀ q : Fin 3, q ≠ p → t.spu.ports[q]
        = { s.spu.ports[q] with flags := t.spu.ports[q].flags, attention := t.spu.ports[q].attention })
    ∧ t.pls.active = s.pls.active
    ∧ t.pls.claim = (if s.pls.holder = some p then none else s.pls.claim)
    ∧ (s.ctk.held = some p → t.ctk = { s.ctk with state := .openState, held := none, window := none })
    ∧ (s.ctk.held ≠ some p → t.ctk = s.ctk)
    ∧ (∀ f, s.iml.save = some f →
        t.iml = { s.iml with save := some { f with replyOwed := f.replyOwed && decide (f.port ≠ p) } })
    ∧ (s.iml.save = none → t.iml = s.iml)
    ∧ t.fmn.status[FaultKind.portLink.idx] = true
    ∧ t = { s with pls := t.pls, ctk := t.ctk, spu := t.spu, jrn := t.jrn, fmn := t.fmn, iml := t.iml }

/-! ### Reading the part -/

/-- STATUS returns its 22 bytes, among them all flags set, masked or not; it clears them, so the attention line is released, and
changes nothing else. IDENT returns the vendor code 5A17h, the part code 0640h, the letter C and the generation of the active
plan, and changes nothing. Quiet time is given in whole s, rounded down (R34). -/
def Obligations.StatusAndIdentReturn : Prop :=
  (∀ (s : State) (p : Fin 3), Ready s p →
      let faults := (List.finRange 12).foldl (fun n k => if s.fmn.status[k] then n + 2 ^ k.val else n) 0
      let vetoes := (List.finRange 3).foldl (fun n k => if s.ctk.veto[k] then n + 2 ^ k.val else n) 0
      let payload : List Byte :=
        [s.mev.level.code, byteOf s.mev.healthy, byteOf (s.mev.quiet / 1000), byteOf (s.mev.quiet / 1000 / 256),
          s.seq.state.code, boolCode s.seq.eventOpen, byteOf s.seq.depth, byteOf s.seq.target, s.ctk.state.code,
          portOrNone s.ctk.held, byteOf vetoes, byteOf s.pls.active.params.generation,
          byteOf (s.pls.active.params.generation / 256), portOrNone s.pls.holder, byteOf faults, byteOf (faults / 256),
          faultOrNone s.fmn.pointer, byteOf s.spu.ports[p].flags.toNat, byteOf s.jrn.unread[p], byteOf s.jrn.lost[p],
          byteOf s.spu.ports[p].frameErrors, byteOf (s.spu.ports[p].frameErrors / 256)]
      exec (.status p []) s = .next
        ((s.answered p 0x01 .ok payload).modPort p (fun q => { q with flags := 0, attention := false })))
    ∧ (∀ (s : State) (p : Fin 3), Ready s p →
      exec (.ident p []) s = .next (s.answered p 0x02 .ok
        [0x17, 0x5a, 0x40, 0x06, 0x43, byteOf s.pls.active.params.generation, byteOf (s.pls.active.params.generation / 256)]))

/-- STATION_DETAIL, POINT_DETAIL and SEQUENCE_DETAIL answer OK with their items, in the order of the tables, and change nothing; a
POINT_DETAIL range is cut at P63 before its count is held to 1..6, so that none is refused for running past P63, and its reply
tells the number of entries; a parameter out of range is answered BAD_PARAM. Two-byte items are sent low byte first. Bytes of an
item that reads NONE and has no code are free (log 11); timers in whole s are rounded down (log 13); what holds the gate is judged
as log 32 says. The order in flight is told by its kind, destination, output and attempts. -/
def Obligations.DetailRequestsReturn : Prop :=
  ∀ (s : State) (p : Fin 3), Ready s p →
    (∀ (i : Fin 6) (b : Byte), b.toNat = i.val →
        exec (.stationDetail p [b]) s = .next (s.answered p 0x03 .ok (s.stationBytes i))
          ∧ (s.stationBytes i).length = 27)
      ∧ (∀ b : Byte, 6 ≤ b.toNat → exec (.stationDetail p [b]) s = .next (s.answered p 0x03 .badParam []))
      ∧ (∀ (i : Fin 64) (f c : Byte), f.toNat = i.val → 1 ≤ c.toNat → min c.toNat (64 - i.val) ≤ 6 →
        let n := min c.toNat (64 - i.val)
        exec (.pointDetail p [f, c]) s = .next (s.answered p 0x04 .ok (s.pointDetailBytes i n))
          ∧ (s.pointDetailBytes i n).length = 11 + 17 * n
          ∧ s.pointDetailBytes i n = inFlightBytes s.free s.flc.inFlight
            ++ [byteOf s.flc.stale, byteOf (s.flc.stale / 256), byteOf s.flc.frameErrors, byteOf (s.flc.frameErrors / 256),
              boolCode s.flc.tripSent, boolCode (s.flc.marks.toList.any id), byteOf n]
            ++ (((List.finRange 64).drop i.val).take n).flatMap s.pointBytes)
      ∧ (∀ f c : Byte, 64 ≤ f.toNat ∨ c.toNat = 0 ∨ 6 < min c.toNat (64 - f.toNat) →
        exec (.pointDetail p [f, c]) s = .next (s.answered p 0x04 .badParam []))
      ∧ exec (.sequenceDetail p []) s = .next (s.answered p 0x05 .ok s.sequenceBytes)
      ∧ (∀ n : Nat, halfBytes n = [byteOf n, byteOf (n / 256)])
      ∧ (∀ i : Fin 6,
        let c := s.siu[i]
        let e := s.mev.evals[i]
        s.stationBytes i
          = [c.health.code] ++ (match c.lastSeq with
              | none => [0xff, 0xff]
              | some b => [b, 0])
            ++ [byteOf c.settle] ++ halfBytes c.checkErrors ++ halfBytes c.foreign ++ halfBytes c.selfTest
            ++ halfBytes c.duplicates ++ halfBytes c.gapFills ++ halfBytes c.resettles ++ halfBytes c.clamped
            ++ halfBytes e.index ++ [e.level.code] ++ halfBytes e.fallHold ++ halfBytes e.peakShaking
            ++ halfBytes e.peakIndex)
      ∧ (let inSeconds (t : Option Nat) : List Byte := match t with
           | none => [0xff, 0xff]
           | some ms => halfBytes (ms / 1000)
         (∀ i : Fin 64,
          let e := s.ptm.points[i]
          let st : Fin 16 := ⟨i.val / 4, by omega⟩
          s.pointBytes i
            = [e.state.code, e.contact.code, e.lockout.code, e.relay.code, boolCode e.buttonSeen, e.lamp.code]
              ++ inSeconds e.grace ++ inSeconds e.settle ++ [boolCode e.deferred, boolCode e.manual, e.cause.code]
              ++ (match s.flc.motion[i] with
                | .empty => [0, 0]
                | .pending k => [k.code, 0]
                | .inFlight k => [k.code, 1])
              ++ [s.flc.reach[st].code, byteOf s.flc.noReply[st]])
        ∧ (let q := s.seq
          let phase : Byte := if q.state ≠ .startup then 0 else if q.phase = .loading then 1 else 2
          let running (site k : Nat) (runs : Bool) (delay timeout : Option Nat) : List Byte :=
            if runs then [byteOf k] ++ inSeconds delay ++ inSeconds timeout
            else [Config.noneFill s.free site, 0xff, 0xff, 0xff, 0xff]
          let waiting := ∃ i : Fin 64, s.pointState i = .await
          s.sequenceBytes
            = [q.state.code, phase, boolCode q.eventOpen, byteOf q.depth, byteOf q.target, byteOf q.pointer]
              ++ running 3 q.pointer (s.shedRunning q.pointer) q.shedDelay q.shedTimeout
              ++ [byteOf s.pls.active.shedLen] ++ packStatuses (q.shedStatus.toList.take s.pls.active.shedLen)
              ++ [byteOf q.restartPointer, byteOf s.pls.active.restartLen]
              ++ packStatuses (q.restartStatus.toList.take s.pls.active.restartLen)
              ++ running 4 q.restartPointer (s.restartRunning q.restartPointer) q.restartDelay q.restartTimeout
              ++ halfBytes s.ptm.inrush
              ++ [match s.gateHead with
                | none => 0xff
                | some i => byteOf i.val]
              ++ [s.gateHeldBy] ++ inSeconds (if s.ctk.state = .one then s.ctk.window else none)
            ∧ (¬ waiting → s.gateHeldBy = 0)
            ∧ (waiting → s.flc.restoreOutstanding = true → s.gateHeldBy = 1)
            ∧ (waiting → s.flc.restoreOutstanding = false → s.flc.spacing ≠ none → s.gateHeldBy = 2)
            ∧ (waiting → s.flc.restoreOutstanding = false → s.flc.spacing = none →
              s.gateHeldBy = match s.gateHead with
                | none => 4
                | some i => if s.ptm.inrush + s.pls.active.points[i].weight ≤ s.pls.active.params.inrushBudget then 0 else 3)))
      ∧ packStatuses [] = [] ∧ (∀ a : StepStatus, packStatuses [a] = [byteOf a.code])
      ∧ (∀ (a b : StepStatus) (rest : List StepStatus),
        packStatuses (a :: b :: rest) = byteOf (a.code + 16 * b.code) :: packStatuses rest)
      ∧ (∀ n : Nat, inFlightBytes n none = [0, Config.noneFill n 0, Config.noneFill n 1, Config.noneFill n 2])
      ∧ ∀ (n : Nat) (f : InFlight), inFlightBytes n (some f)
        = match f.order with
          | .tripAll => [1, 0, 0, byteOf f.attempts]
          | .motion k i => [match k with
              | .shed => 2
              | .warn => 3
              | .restore => 4, byteOf (i.val / 4 + 1), byteOf (i.val % 4), byteOf f.attempts]
          | .lamp _ i => [5, byteOf (i.val / 4 + 1), byteOf (i.val % 4), byteOf f.attempts]
          | .poll st => [6, byteOf (st.val + 1), 0, byteOf f.attempts]

/-- JOURNAL_READ: a count above 4 is taken as 4; the reply holds the lost count, k, what stays unread, and the k oldest unread
records; the caller's unread count falls by k and its lost count is 0; no other port's counts and no notice change. -/
def Obligations.JournalReadReturns : Prop :=
  ∀ (s : State) (p : Fin 3) (b : Byte), Ready s p → 1 ≤ b.toNat →
    let k := min (min b.toNat 4) s.jrn.unread[p]
    let after := { s with jrn := { s.jrn with
      unread := s.jrn.unread.set p (s.jrn.unread[p] - k), lost := s.jrn.lost.set p 0 } }
    exec (.journalRead p [b]) s = .next (after.answered p 0x06 .ok
      ([byteOf s.jrn.lost[p], byteOf k, byteOf (s.jrn.unread[p] - k)]
        ++ ((s.jrn.ring.drop (s.jrn.ring.length - s.jrn.unread[p])).take k).flatMap Record.bytes))

/-- NOTICE_MASK replaces the mask and the watermark, sets and clears no flag, and re-evaluates the line at once. -/
def Obligations.NoticeMaskReplaces : Prop :=
  ∀ (s : State) (p : Fin 3) (m w : Byte), Ready s p → m.toNat < 128 → 1 ≤ w.toNat → w.toNat ≤ 128 →
    exec (.noticeMask p [m, w]) s = .next ((s.answered p 0x07 .ok [m, w]).modPort p (fun q =>
      { q with mask := m.setWidth 7, watermark := w.toNat, attention := q.flags &&& m.setWidth 7 != 0 }))

/-! ### The plan -/

/-- CLAIM and RELEASE: a free claim is granted, with a shadow copied from the active plan and the CLAIM notice; the holder's own CLAIM
changes nothing; another port's is answered HELD with the holder. RELEASE by the holder discards the shadow, with the notice; by
another port it is answered NOT_CLAIMED. -/
def Obligations.ClaimAndRelease : Prop :=
  ∀ (s : State) (p : Fin 3), Ready s p →
    (s.pls.active.rights[p].edit = true →
      (s.pls.claim = none → exec (.claim p []) s = .next ((raiseAll .claim
          { s.taken p 0x10 with pls := { s.pls with claim := some ⟨p, s.pls.active⟩ } }).replied p 0x10 .ok []))
        ∧ ∀ c, s.pls.claim = some c →
          (c.holder = p → exec (.claim p []) s = .next (s.answered p 0x10 .ok []))
            ∧ (c.holder ≠ p →
              exec (.claim p []) s = .next (s.answered p 0x10 .held [byteOf c.holder.val])))
      ∧ (s.pls.holder = some p → exec (.release p []) s = .next ((raiseAll .claim
          { s.taken p 0x11 with pls := { s.pls with claim := none } }).replied p 0x11 .ok []))
      ∧ (s.pls.holder ≠ some p → exec (.release p []) s = .next (s.answered p 0x11 .notClaimed []))

/-- PLAN_WRITE: content out of range is answered BAD_PARAM naming the kind and the index; else the holder's shadow takes the record,
and any other caller is answered NOT_CLAIMED; the generation field of a PARAMETERS record is not taken. PLAN_READ returns the
content of a record of the active plan, or of the shadow while a claim is held, whichever port holds it, and changes nothing; a
kind, an index or a selector out of range is answered BAD_PARAM. A RIGHTS byte above its last bit is out of range (log 14); a
PLAN_WRITE of fewer than 2 bytes is left out here (log 12). A payload stands for a record exactly when it is the kind, an index in
the kind's range, and the encoding of a record whose fields are all in the ranges of R44 to R48. -/
def Obligations.PlanWriteAndRead : Prop :=
  (∀ (s : State) (p : Fin 3) (kind index : Byte) (content : List Byte), Ready s p → content.length ≤ 118 →
      s.pls.active.rights[p].edit = true →
      (planWriteRecord (kind :: index :: content) = none →
          exec (.planWrite p (kind :: index :: content)) s = .next (s.answered p 0x12 .badParam [kind, index]))
        ∧ ∀ r, planWriteRecord (kind :: index :: content) = some r →
          (∀ c, s.pls.claim = some c → c.holder = p →
              exec (.planWrite p (kind :: index :: content)) s = .next
                ({ s with pls := { s.pls with claim := some { c with shadow := c.shadow.write r } } }.answered p 0x12 .ok []))
            ∧ (s.pls.holder ≠ some p →
              exec (.planWrite p (kind :: index :: content)) s = .next (s.answered p 0x12 .notClaimed []))
            ∧ ∀ q : Plan, (q.write r).params.generation = q.params.generation)
    ∧ (∀ (s : State) (p : Fin 3) (sel kind index : Byte), Ready s p →
      (∀ a, recordAddr kind index = some a →
          exec (.planRead p [0, kind, index]) s
              = .next (s.answered p 0x13 .ok ([kind, index] ++ s.pls.active.read a))
            ∧ (∀ c, s.pls.claim = some c → exec (.planRead p [1, kind, index]) s
              = .next (s.answered p 0x13 .ok ([kind, index] ++ c.shadow.read a)))
            ∧ (s.pls.claim = none →
              exec (.planRead p [1, kind, index]) s = .next (s.answered p 0x13 .notClaimed [])))
        ∧ (recordAddr kind index = none ∨ 1 < sel.toNat →
          exec (.planRead p [sel, kind, index]) s = .next (s.answered p 0x13 .badParam [])))
    ∧ ∀ (kind index : Byte) (content : List Byte) (r : PlanRecord), planWriteRecord (kind :: index :: content) = some r ↔
      match r with
      | .params q => kind = 0 ∧ index = 0 ∧ content = q.bytes ∧ q.inRange
      | .station i q => kind = 1 ∧ index = byteOf i.val ∧ content = q.bytes ∧ q.inRange
      | .point i q => kind = 2 ∧ index = byteOf i.val ∧ content = q.bytes ∧ q.inRange
      | .shedStep i q => kind = 3 ∧ index = byteOf i.val ∧ content = q.bytes ∧ q.inRange
      | .restartStep i q => kind = 4 ∧ index = byteOf i.val ∧ content = q.bytes ∧ q.inRange
      | .rights i q => kind = 5 ∧ index = byteOf i.val ∧ content = q.bytes
      | .policy i q => kind = 6 ∧ index = byteOf i.val ∧ content = q.bytes
      | .label i l => kind = 7 ∧ index = byteOf i.val ∧ content = labelBytes l ∧ labelInRange l

/-- Every record of a plan in range survives its encoding: the payload that PLAN_READ returns for it, sent back in a PLAN_WRITE, names
the same record. The fields stand in the order of the tables of chapter 3, two-byte quantities low byte first. A record is
addressed by its kind and an index in the kind's range; a write replaces the record at its address, whose read then gives the
written content, but for the generation, and every other record reads as before. -/
def Obligations.PlanRecordRoundTrip : Prop :=
  (∀ (p : Plan) (kind index : Byte) (a : RecordAddr), p.inRange → recordAddr kind index = some a →
    ∃ r, planWriteRecord (kind :: index :: p.read a) = some r ∧ p.write r = p)
    ∧ (∀ q : Params, q.bytes = halfBytes q.t1 ++ halfBytes q.t2 ++ halfBytes q.t3 ++ [byteOf q.voteCount]
        ++ halfBytes q.fallHold ++ halfBytes q.quietPeriod ++ halfBytes q.consentWindow ++ [q.abortLevel.code]
        ++ halfBytes q.inrushBudget ++ halfBytes q.restoreSpacing ++ halfBytes q.pollInterval ++ [byteOf q.linkTimeout]
        ++ q.dtLevels.toList.map Level.code ++ [byteOf q.watermark] ++ halfBytes q.generation ∧ q.bytes.length = 28)
    ∧ (∀ q : StationRec, q.bytes = [boolCode q.enabled, byteOf q.floor])
    ∧ (∀ q : PointRec, q.bytes
        = [boolCode q.inUse, if q.mode = .openOnly then 0 else 1] ++ halfBytes q.grace ++ [byteOf q.weight, byteOf q.settle])
    ∧ (∀ q : ShedStep, q.bytes = [byteOf q.points.length] ++ q.points.map (fun i => byteOf i.val)
        ++ [q.trigger.code, q.wait.code] ++ halfBytes q.delay ++ halfBytes q.timeout)
    ∧ (∀ q : RestartStep, q.bytes = [byteOf q.points.length] ++ q.points.map (fun i => byteOf i.val) ++ [q.wait.code]
        ++ halfBytes q.delay ++ halfBytes q.timeout ++ [boolCode q.button])
    ∧ (∀ q : Rights, q.bytes = [byteOf ((if q.edit then 1 else 0) + (if q.consent then 2 else 0) + (if q.veto then 4 else 0)
        + if q.operate then 8 else 0)])
    ∧ (∀ q : Policy, q.bytes = [boolCode q.masked, if q.severity = .advisory then 0 else 1])
    ∧ (∀ l : List Byte, labelBytes l = [byteOf l.length] ++ l)
    ∧ (∀ (kind index : Byte) (a : RecordAddr), recordAddr kind index = some a ↔ match a with
      | .params => kind = 0 ∧ index = 0
      | .station i => kind = 1 ∧ index = byteOf i.val
      | .point i => kind = 2 ∧ index = byteOf i.val
      | .shedStep i => kind = 3 ∧ index = byteOf i.val
      | .restartStep i => kind = 4 ∧ index = byteOf i.val
      | .rights i => kind = 5 ∧ index = byteOf i.val
      | .policy i => kind = 6 ∧ index = byteOf i.val
      | .label i => kind = 7 ∧ index = byteOf i.val)
    ∧ (∀ (p : Plan) (a : RecordAddr), p.read a = match a with
      | .params => p.params.bytes
      | .station i => p.stations[i].bytes
      | .point i => p.points[i].bytes
      | .shedStep i => p.shed[i].bytes
      | .restartStep i => p.restart[i].bytes
      | .rights i => p.rights[i].bytes
      | .policy i => p.policy[i].bytes
      | .label i => labelBytes p.labels[i])
    ∧ (∀ (p : Plan) (r : PlanRecord), p.write r = match r with
      | .params q => { p with params := { q with generation := p.params.generation } }
      | .station i q => { p with stations := p.stations.set i q }
      | .point i q => { p with points := p.points.set i q }
      | .shedStep i q => { p with shed := p.shed.set i q }
      | .restartStep i q => { p with restart := p.restart.set i q }
      | .rights i q => { p with rights := p.rights.set i q }
      | .policy i q => { p with policy := p.policy.set i q }
      | .label i l => { p with labels := p.labels.set i l })
    ∧ ∀ (p : Plan) (r : PlanRecord),
      let named : RecordAddr × List Byte := match r with
        | .params q => (.params, { q with generation := p.params.generation }.bytes)
        | .station i q => (.station i, q.bytes)
        | .point i q => (.point i, q.bytes)
        | .shedStep i q => (.shedStep i, q.bytes)
        | .restartStep i q => (.restartStep i, q.bytes)
        | .rights i q => (.rights i, q.bytes)
        | .policy i q => (.policy i, q.bytes)
        | .label i l => (.label i, labelBytes l)
      (p.write r).read named.1 = named.2 ∧ ∀ a, a ≠ named.1 → (p.write r).read a = p.read a

/-- Validation passes exactly when the thresholds rise, the stations can meet the vote count, H0 is present, neither chain has a gap,
the triggers never fall, every listed point is in use and listed once in its chain, every TIMER delay is below its timeout, every
restart weight fits the budget, and the EDIT and CONSENT rights are held. It fails with the first check that fails, in the order
of R55, and reports the check's number, the chain, the shed chain before the restart chain, and the item: for a step the first in
number, for a point the first in the order of the lists, for a repeated point its second appearance. -/
def Obligations.ValidationPasses : Prop :=
  (∀ p : Plan, p.validate = none ↔
    (p.params.t1 < p.params.t2 ∧ p.params.t2 < p.params.t3)
      ∧ (1 ≤ p.stations.toList.countP StationRec.enabled ∧ p.params.voteCount ≤ p.stations.toList.countP StationRec.enabled)
      ∧ p.shed[0].points ≠ []
      ∧ (∀ i j : Fin 48, i < j → p.shed[j].points ≠ [] → p.shed[i].points ≠ [])
      ∧ (∀ i j : Fin 48, i < j → p.restart[j].points ≠ [] → p.restart[i].points ≠ [])
      ∧ (∀ i j : Fin 48, i < j → p.shed[i].points ≠ [] → p.shed[j].points ≠ [] →
        p.shed[i].trigger.rank ≤ p.shed[j].trigger.rank)
      ∧ (∀ (k : Fin 48) (q : Fin 64), q ∈ p.shed[k].points ∨ q ∈ p.restart[k].points → p.points[q].inUse = true)
      ∧ (p.shed.toList.flatMap ShedStep.points).Nodup ∧ (p.restart.toList.flatMap RestartStep.points).Nodup
      ∧ (∀ k : Fin 48, p.shed[k].points ≠ [] → p.shed[k].wait = .timer → p.shed[k].delay < p.shed[k].timeout)
      ∧ (∀ k : Fin 48, p.restart[k].points ≠ [] → p.restart[k].wait = .timer → p.restart[k].delay < p.restart[k].timeout)
      ∧ (∀ (k : Fin 48) (q : Fin 64), q ∈ p.restart[k].points → p.points[q].weight ≤ p.params.inrushBudget)
      ∧ (∃ i : Fin 3, p.rights[i].edit = true)
      ∧ ∃ i j : Fin 3, i ≠ j ∧ p.rights[i].consent = true ∧ p.rights[j].consent = true)
  ∧ ∀ (p : Plan) (v : Invalid), p.validate = some v ↔
    let present (chain k : Nat) : Prop := k < 48 ∧ if chain = 1 then (p.shedStep k).points ≠ [] else (p.restartStep k).points ≠ []
    let listed (chain : Nat) : List (Fin 64) :=
      if chain = 1 then p.shed.toList.flatMap ShedStep.points else p.restart.toList.flatMap RestartStep.points
    let gap (chain k : Nat) : Prop := present chain k ∧ ∃ j, j < k ∧ ¬ present chain j
    let falls (k : Nat) : Prop := present 1 (k + 1) ∧ (p.shedStep (k + 1)).trigger.rank < (p.shedStep k).trigger.rank
    let late (chain k : Nat) : Prop := present chain k ∧ if chain = 1
      then (p.shedStep k).wait = .timer ∧ (p.shedStep k).timeout ≤ (p.shedStep k).delay
      else (p.restartStep k).wait = .timer ∧ (p.restartStep k).timeout ≤ (p.restartStep k).delay
    let unused (q : Fin 64) : Prop := p.points[q].inUse = false
    let heavy (q : Fin 64) : Prop := p.params.inrushBudget < p.points[q].weight
    let enabled := p.stations.toList.countP StationRec.enabled
    let editors := p.rights.toList.countP Rights.edit
    let consenters := p.rights.toList.countP Rights.consent
    let firstStep (bad : Nat → Prop) (k : Nat) : Prop := bad k ∧ ∀ j, j < k → ¬ bad j
    let firstPoint (bad : Fin 64 → Prop) (l : List (Fin 64)) (n : Nat) : Prop :=
      ∃ a q b, l = a ++ q :: b ∧ bad q ∧ (∀ x ∈ a, ¬ bad x) ∧ q.val = n
    let repeated (l : List (Fin 64)) (n : Nat) : Prop := ∃ a q b, l = a ++ q :: b ∧ q ∈ a ∧ a.Nodup ∧ q.val = n
    let passes (n : Nat) : Prop := match n with
      | 1 => p.params.t1 < p.params.t2 ∧ p.params.t2 < p.params.t3
      | 2 => 1 ≤ enabled ∧ p.params.voteCount ≤ enabled
      | 3 => present 1 0
      | 4 => ∀ chain k, (chain = 1 ∨ chain = 2) → ¬ gap chain k
      | 5 => ∀ k, ¬ falls k
      | 6 => ∀ q, q ∈ listed 1 ∨ q ∈ listed 2 → ¬ unused q
      | 7 => (listed 1).Nodup ∧ (listed 2).Nodup
      | 8 => ∀ chain k, (chain = 1 ∨ chain = 2) → ¬ late chain k
      | 9 => ∀ q, q ∈ listed 2 → ¬ heavy q
      | 10 => 1 ≤ editors
      | _ => 2 ≤ consenters
    let failure : Prop := match v.reason with
      | 1 => v.chain = 0 ∧ (p.params.t2 ≤ p.params.t1 ∧ v.item = 1
          ∨ p.params.t1 < p.params.t2 ∧ p.params.t3 ≤ p.params.t2 ∧ v.item = 2)
      | 2 => v.chain = 0 ∧ v.item = enabled ∧ (enabled = 0 ∨ enabled < p.params.voteCount)
      | 3 => v.chain = 1 ∧ v.item = 0 ∧ ¬ present 1 0
      | 4 => v.chain = 1 ∧ firstStep (gap 1) v.item ∨ v.chain = 2 ∧ (∀ k, ¬ gap 1 k) ∧ firstStep (gap 2) v.item
      | 5 => v.chain = 1 ∧ ∃ k, v.item = k + 1 ∧ firstStep falls k
      | 6 => v.chain = 1 ∧ firstPoint unused (listed 1) v.item
          ∨ v.chain = 2 ∧ (∀ q ∈ listed 1, ¬ unused q) ∧ firstPoint unused (listed 2) v.item
      | 7 => v.chain = 1 ∧ repeated (listed 1) v.item ∨ v.chain = 2 ∧ (listed 1).Nodup ∧ repeated (listed 2) v.item
      | 8 => v.chain = 1 ∧ firstStep (late 1) v.item ∨ v.chain = 2 ∧ (∀ k, ¬ late 1 k) ∧ firstStep (late 2) v.item
      | 9 => v.chain = 2 ∧ firstPoint heavy (listed 2) v.item
      | 10 => v.chain = 0 ∧ v.item = 0 ∧ editors = 0
      | 11 => v.chain = 0 ∧ v.item = consenters ∧ consenters < 2
      | _ => False
    (∀ n, 1 ≤ n → n < v.reason → passes n) ∧ failure

/-- COMMIT: the conditions in their order, each with its reply, the claim and the shadow kept; a commit that passes them replaces the
active plan by the shadow with the next generation, ends the claim, and answers OK with the generation, or, with save = yes,
begins the save that will answer. The commit raises the CLAIM notice, posts the PLAN record COMMITTED and raises the PLAN notice;
the Sequencer's chains start afresh with the target of the new plan, points and channels are set (CommitPointsAndStations),
pending polls of stations no longer configured are withdrawn, STATION_UNREACHABLE is re-evaluated (log 9), the FAULT line is
re-evaluated, the vote is taken again, quiet time is compared with the new quiet period, and out of NO_PLAN the start-up poll
round begins, the NO_PLAN condition false. The order in which the blocks take the plan is the model's (log 24), and so is the
order of what follows of itself (log 7). A save byte other than 0 and 1 is RequestsTurnedAway's. -/
def Obligations.CommitConditionsAndEffect : Prop :=
  (∀ (s : State) (p : Fin 3) (b : Byte), Ready s p → s.pls.active.rights[p].edit = true → b = 0 ∨ b = 1 →
    let ready := (s.seq.state = .watch ∨ s.seq.state = .noPlan) ∧ s.mev.level = .quiet
      ∧ (∀ q : Fin 64, s.pointState q ≠ .closing ∧ s.pointState q ≠ .settling) ∧ s.iml.link ≠ .saving
    (s.pls.holder ≠ some p → exec (.commit p [b]) s = .next (s.answered p 0x14 .notClaimed []))
      ∧ ∀ c, s.pls.claim = some c → c.holder = p →
        (¬ ready → exec (.commit p [b]) s = .next (s.answered p 0x14 .busy []))
          ∧ (∀ v, ready → c.shadow.validate = some v → exec (.commit p [b]) s
            = .next (s.answered p 0x14 .invalid [byteOf v.reason, byteOf v.chain, byteOf v.item]))
          ∧ (ready → c.shadow.validate = none →
            let g := if s.pls.active.params.generation < 65535 then s.pls.active.params.generation + 1 else 1
            let new : Plan := { c.shadow with params := { c.shadow.params with generation := g } }
            ∃ t, t = commitPlan p c.shadow (s.taken p 0x14) ∧ t.pls = ⟨new, none⟩ ∧ t.iml = s.iml
              ∧ t.seq.state ≠ .noPlan
              ∧ (b = 0 → exec (.commit p [b]) s = .next (t.replied p 0x14 .ok [byteOf g, byteOf (g / 256)]))
              ∧ (b = 1 → exec (.commit p [b]) s
                = .next { t with iml := { t.iml with link := .saving, save := some ⟨p, new, true, saveWrites new⟩ } })))
    ∧ (∀ (p : Fin 3) (shadow : Plan) (s : State),
      let g := if s.pls.active.params.generation < 65535 then s.pls.active.params.generation + 1 else 1
      let new : Plan := { shadow with params := { shadow.params with generation := g } }
      let claimed := raiseAll .claim { s with pls := ⟨new, none⟩ }
      let told := raiseAll .plan (post (.plan (some p) g .committed .none) claimed)
      commitPlan p shadow s = settle (leaveNoPlan (commitHandOver s.pls.active told)))
    ∧ (∀ (old : Plan) (s : State),
      let fresh := { s with seq := { s.seq with
        shedStatus := Vector.replicate 48 .notStarted, pointer := 0
        restartStatus := Vector.replicate 48 .notStarted, restartPointer := 0, restartDelay := none, restartTimeout := none
        target := max s.seq.depth (s.pls.active.depth s.mev.level) } }
      let placed := (List.finRange 6).foldl (commitStation old) ((List.finRange 64).foldl (commitPoint old) fresh)
      let polled := checkUnreachable none { placed with flc := { placed.flc with
        polls := Vector.ofFn (fun st => placed.flc.polls[st] && placed.pls.active.configured st) } }
      commitHandOver old s = commitQuiet (recompute { polled with fmn := { polled.fmn with line := polled.faultLineNow } }))
    ∧ (∀ s : State,
      let reached := s.mev.level = .quiet ∧ s.mev.healthy ≠ 0 ∧ s.pls.active.params.quietPeriod * 1000 ≤ s.mev.quiet
      let handed := { s with mev := { s.mev with quietHanded := true } }
      let closes := s.seq.state = .watch ∧ s.seq.eventOpen = true ∧ s.seq.depth = 0
      (¬ reached → commitQuiet s = { s with mev := { s.mev with quietHanded := false } })
        ∧ (reached → s.ctk.state ≠ .waitQuiet → closes → commitQuiet s = closeEvent handed)
        ∧ (reached → s.ctk.state ≠ .waitQuiet → ¬ closes → commitQuiet s = handed))
    ∧ ∀ s : State,
      let starts := raiseAll .sequence (post (.sequence .noPlan .startup s.seq.depth)
        { s with seq := { s.seq with state := .startup, phase := .polling } })
      (s.seq.state ≠ .noPlan → leaveNoPlan s = s)
        ∧ (s.seq.state = .noPlan →
          leaveNoPlan s = beginRound { starts with fmn := { starts.fmn with condNoPlan := false } })

/-- A commit at each point, by its in-use field in the old and the new plan, and at each channel, by its enabled field. A point that
leaves use posts LAMP OFF, has its pending motion order withdrawn, and is UNUSED with cause MANUAL and its record; its order in
flight is marked, so that its result is ignored (log 19), and no other order is. A channel that changes is posted as a STATION
record, and its health change goes to the count and the vote. -/
def Obligations.CommitPointsAndStations : Prop :=
  ∀ (old : Plan) (s : State),
    (∀ p : Fin 64,
      let t := commitPoint old s p
      let recorded (new : PointState) (c : Cause) : Prop :=
        t = { post (.point p (s.pointState p) new c) s with ptm := t.ptm, flc := t.flc }
      (∀ q : Fin 64, q ≠ p → t.ptm.points[q] = s.ptm.points[q])
        ∧ (old.points[p].inUse = false → s.inUse p = false → t = s)
        ∧ (old.points[p].inUse = false → s.inUse p = true → t.pointState p = .unknown ∧ t.ptm.points[p].cause = .manual
          ∧ recorded .unknown .manual)
        ∧ (old.points[p].inUse = true → s.inUse p = false → t.pointState p = .unused ∧ t.ptm.points[p].cause = .manual
          ∧ t.ptm.points[p].deferred = false ∧ t.ptm.points[p].manual = false ∧ t.ptm.points[p].lamp = .off
          ∧ recorded .unused .manual
          ∧ (∀ k, s.flc.motion[p] = .inFlight k → t.flc.motion[p] = .inFlight k)
          ∧ (∀ f k, s.flc.inFlight = some f → f.order = .motion k p → t.flc.inFlight = some { f with voided := true })
          ∧ (∀ f, s.flc.inFlight = some f → (∀ k, f.order ≠ .motion k p) → t.flc.inFlight = some f)
          ∧ (∀ f k, s.flc.inFlight = some f → s.flc.motion[p] = .pending k → t.flc.motion[p] = .empty)
          ∧ (s.flc.inFlight ≠ none → t.flc.lamps = s.flc.lamps.set p (some .off))
          ∧ (s.flc.inFlight = none → t.flc.lamps[p] = some .off ∨ ∃ f, t.flc.inFlight = some f ∧ f.order = .lamp .off p))
        ∧ (old.points[p].inUse = true → s.inUse p = true →
          (s.pointState p = .await ∧ s.ptm.points[p].manual = true
              ∧ s.pls.active.params.inrushBudget < s.pls.active.points[p].weight →
            t.pointState p = .shed ∧ t.ptm.points[p].cause = .cancelled ∧ t.ptm.points[p].manual = false
              ∧ recorded .shed .cancelled)
          ∧ (¬ (s.pointState p = .await ∧ s.ptm.points[p].manual = true
              ∧ s.pls.active.params.inrushBudget < s.pls.active.points[p].weight) → t = s)))
      ∧ ∀ i : Fin 6,
        let t := commitStation old s i
        let changed (c : Channel) : Prop := t.siu = s.siu.set i c ∧ t.mev.healthy = t.healthyStations.length
          ∧ t = healthChange i (post (.station i s.siu[i].health c.health) { s with siu := s.siu.set i c })
        (old.stations[i].enabled = s.pls.active.stations[i].enabled → t = s)
          ∧ (old.stations[i].enabled = false → s.pls.active.stations[i].enabled = true →
            changed ⟨.hunt, .offline, none, 0, 0, none, 0, 0, 0, 0, 0, 0, 0⟩)
          ∧ (old.stations[i].enabled = true → s.pls.active.stations[i].enabled = false →
            changed { s.siu[i] with health := .disabled, rx := .hunt, gap := none })

/-! ### The store -/

/-- SAVE: WRONG_STATE in NO_PLAN, BUSY while the store link is LOADING or SAVING, else the save of a snapshot of the active plan
begins and the request stays in service. SAVE_END: the PLAN record, the fault of a failure, and the reply if it is still owed; if
the port has been reset since, there is no reply, whatever that port now has in service. The pages of the writes begin at offset 2
(log 15). A save writes 00h over the first signature byte, then the blocks and the end byte in pages that end at multiples of 32,
then the signature; the writes leave the plan's image at the front of the store and the rest of it as it was. -/
def Obligations.SaveAndItsEnd : Prop :=
  (∀ (s : State) (p : Fin 3), Ready s p → s.pls.active.rights[p].edit = true →
      (s.seq.state = .noPlan → exec (.save p []) s = .next (s.answered p 0x15 .wrongState []))
        ∧ (s.seq.state ≠ .noPlan → s.iml.link ≠ .idle → exec (.save p []) s = .next (s.answered p 0x15 .busy []))
        ∧ (s.seq.state ≠ .noPlan → s.iml.link = .idle → exec (.save p []) s = .next
          { s.taken p 0x15 with iml := { s.iml with
            link := .saving, save := some ⟨p, s.pls.active, true, saveWrites s.pls.active⟩ } }))
    ∧ (∀ (s : State) (f : SaveFlight), s.iml.save = some f →
      let g := f.snapshot.params.generation
      let ended := { s with iml := { s.iml with link := .idle, save := none } }
      let saved := post (.plan (some f.port) g .saved .none) ended
      let failed := raiseFault .storeWrite .none (post (.plan (some f.port) g .saveFailed .none) ended)
      (∀ code : Byte, f.replyOwed = true → s.spu.ports[f.port].service = some code →
          exec (.saveEnd none) s = .next (saved.replied f.port code .ok [byteOf g, byteOf (g / 256)])
            ∧ ∀ n, exec (.saveEnd (some n)) s = .next (failed.replied f.port code .storeFailed []))
        ∧ (f.replyOwed = false → exec (.saveEnd none) s = .next saved ∧ ∀ n, exec (.saveEnd (some n)) s = .next failed))
    ∧ ∀ p : Plan,
      let page (k : Nat) : StoreWrite :=
        let first := max 2 (32 * k)
        ⟨first, (p.image.drop first).take (32 * (k + 1) - first)⟩
      saveWrites p = [⟨0, [0]⟩] ++ (List.range ((p.image.length + 31) / 32)).map page ++ [⟨0, [0x54]⟩, ⟨1, [0x51]⟩]
        ∧ ∀ store : List Byte, p.image.length ≤ store.length →
          (saveWrites p).foldl StoreWrite.applied store = p.image ++ store.drop p.image.length

/-- A plan in range that passes validation comes back from its stored image: what a save writes, the next load reads. A load that
fails does so at the first failure of R184: NO_DEVICE at a byte not acknowledged, BAD_SIGNATURE, BAD_STRUCTURE by a prefix, by the
want of an end byte in 8192 bytes, or by a content that is no encoding of values in range, BAD_CHECKSUM, MISSING_BLOCK for a type
met twice or, at the end byte, never, and INVALID_PLAN. The walk takes block after block from byte 2; an unknown block is stepped
over unread. A plan without LABELS has empty labels. The bytes that the store acknowledged are the operand (log 16). -/
def Obligations.ImageRoundTrip : Prop :=
  (∀ p : Plan, p.inRange → p.validate = none → loadImage p.image = .ok p)
    ∧ (∀ image : List Byte,
      let bytes := image.take 8192
      (bytes.length < 2 → loadImage image = .error .noDevice)
        ∧ ∀ a b rest, bytes = a :: b :: rest →
          (¬ (a = 0x54 ∧ b = 0x51) → loadImage image = .error .badSignature)
            ∧ (a = 0x54 → b = 0x51 → ∀ n, 1640 ≤ n → loadImage image = walkFrom n 2 rest Walk.start))
    ∧ (∀ (n pos : Nat) (w : Walk),
      let unread (place : Nat) : LoadReason := if place < 8192 then .noDevice else .badStructure
      walkFrom (n + 1) pos [] w = .error (unread pos)
        ∧ (∀ rest, walkFrom (n + 1) pos (0 :: rest) w = w.finish)
        ∧ ∀ type rest, type ≠ 0 →
          (rest.length < 3 → walkFrom (n + 1) pos (type :: rest) w = .error (unread (pos + 1 + rest.length)))
            ∧ ∀ lo hi check tail, rest = lo :: hi :: check :: tail →
              let size := lo.toNat + 256 * hi.toNat
              let sized := 1 ≤ size ∧ size ≤ 4096 ∧ pos + 4 + size ≤ 8192
              let known := type.toNat ≤ 7
              (¬ sized → walkFrom (n + 1) pos (type :: rest) w = .error .badStructure)
                ∧ (sized → known → tail.length < size → walkFrom (n + 1) pos (type :: rest) w = .error .noDevice)
                ∧ (sized → ¬ known → walkFrom (n + 1) pos (type :: rest) w = walkFrom n (pos + 4 + size) (tail.drop size) w)
                ∧ (sized → known → size ≤ tail.length → walkFrom (n + 1) pos (type :: rest) w
                  = match w.block type (tail.take size) check with
                    | .error reason => .error reason
                    | .ok v => walkFrom n (pos + 4 + size) (tail.drop size) v))
    ∧ (∀ (w : Walk) (content : List Byte) (check : Byte),
      blockRule Params.bytes Params.inRange w.params (fun v => { w with params := some v }) content check (w.block 1 content check)
        ∧ blockRule (fun v : Vector StationRec 6 => v.toList.flatMap StationRec.bytes) (fun v => ∀ i : Fin 6, v[i].inRange)
          w.stations (fun v => { w with stations := some v }) content check (w.block 2 content check)
        ∧ blockRule (fun v : Vector PointRec 64 => v.toList.flatMap PointRec.bytes) (fun v => ∀ i : Fin 64, v[i].inRange)
          w.points (fun v => { w with points := some v }) content check (w.block 3 content check)
        ∧ blockRule (fun v : Vector ShedStep 48 => v.toList.flatMap ShedStep.bytes) (fun v => ∀ i : Fin 48, v[i].inRange)
          w.shed (fun v => { w with shed := some v }) content check (w.block 4 content check)
        ∧ blockRule (fun v : Vector RestartStep 48 => v.toList.flatMap RestartStep.bytes) (fun v => ∀ i : Fin 48, v[i].inRange)
          w.restart (fun v => { w with restart := some v }) content check (w.block 5 content check)
        ∧ blockRule (fun v : Vector Rights 3 × Vector Policy 12 =>
            v.1.toList.flatMap Rights.bytes ++ v.2.toList.flatMap Policy.bytes) (fun _ => True)
          w.rights (fun v => { w with rights := some v }) content check (w.block 6 content check)
        ∧ blockRule (fun v : Vector (List Byte) 64 => v.toList.flatMap labelBytes) (fun v => ∀ i : Fin 64, labelInRange v[i])
          w.labels (fun v => { w with labels := some v }) content check (w.block 7 content check))
    ∧ Walk.start = ⟨none, none, none, none, none, none, none⟩
    ∧ ∀ w : Walk,
      (w.params = none ∨ w.stations = none ∨ w.points = none ∨ w.shed = none ∨ w.restart = none ∨ w.rights = none →
          w.finish = .error .missingBlock)
        ∧ ∀ a b c d e r, w.params = some a → w.stations = some b → w.points = some c → w.shed = some d → w.restart = some e →
          w.rights = some r →
          let p : Plan := ⟨a, b, c, d, e, r.1, r.2, w.labels.getD (Vector.replicate 64 [])⟩
          (p.validate ≠ none → w.finish = .error .invalidPlan) ∧ (p.validate = none → w.finish = .ok p)

/-- IMAGE_LOAD_END: the RESET record followed at once by the PLAN record, and only then a JOURNAL_OVERRUN that they cause; the plan
that was read or the factory defaults, the hand-overs to every block, and then the poll round of STARTUP or NO_PLAN. The
hand-overs: the enabled channels become OFFLINE, the blind timer and the poll timer start, the points in use become UNKNOWN with
cause NONE, and every port takes the plan's watermark. The bytes that the store acknowledged are the operand (log 16), and the
overrun, the hand-overs and the stations among them come in the model's order (log 10, log 35). After a failed load the plan is
the one of the load, which is the factory defaults (TrackerKept). A poll round marks every configured station and sets its poll
slot, and the start-up decision comes when no mark is left. A watermark that a NOTICE_MASK set during the load is overwritten (log
44). Each enabled channel becomes OFFLINE with its STATION record, after the RESET and PLAN records, in station order (log 35); a
disabled one, and a point not in use, stand. A post of the round on an idle loop is chosen at once (log 8). -/
def Obligations.ImageLoadEnds : Prop :=
  (∀ (s : State) (image : List Byte), s.iml.link = .loading →
      let ended (pl : Plan) (phase : Phase) : State :=
        { s with pls := { s.pls with active := pl }, iml := { s.iml with link := .idle }, seq := { s.seq with phase := phase } }
      let first (t : State) : State := postRecord (.reset s.iml.lastReset t.pls.active.params.generation) t
      let both (mark : PlanMark) (reason : LoadReason) (t : State) : State :=
        postRecord (.plan none t.pls.active.params.generation mark reason) (first t)
      let recorded (mark : PlanMark) (reason : LoadReason) (t : State) : State :=
        raiseOverrun (overrunPort (first t).jrn (both mark reason t).jrn)
          (raiseOverrun (overrunPort t.jrn (first t).jrn) (both mark reason t))
      (∀ mark reason t, (both mark reason t).jrn
          = (t.jrn.push (.reset s.iml.lastReset t.pls.active.params.generation)).push
            (.plan none t.pls.active.params.generation mark reason)) ∧
      (∀ pl, loadImage image = .ok pl → ∃ t, exec (.imageLoadEnd image) s = .next t
          ∧ t = beginRound (loadHandOver (recorded .loaded .none (ended pl .polling)))
          ∧ t.pls = { s.pls with active := pl } ∧ t.iml = { s.iml with link := .idle })
        ∧ ∀ reason, loadImage image = .error reason → ∃ t, exec (.imageLoadEnd image) s = .next t
          ∧ t = reportTrue .noPlan .none (setSequence .noPlan (loadHandOver
              (recorded .loadFailed reason (ended s.pls.active s.seq.phase))))
          ∧ t.pls = s.pls ∧ t.iml = { s.iml with link := .idle } ∧ t.seq.state = .noPlan ∧ t.fmn.condNoPlan = true
          ∧ t.fmn.status[FaultKind.noPlan.idx] = true)
    ∧ (∀ s : State,
      let t := loadHandOver s
      (∀ i : Fin 6, t.siu[i] = if s.pls.active.stations[i].enabled then { s.siu[i] with rx := .hunt, health := .offline }
          else s.siu[i])
        ∧ t.mev.blindTimer = some 0 ∧ t.flc.pollTimer = some s.pls.active.params.pollInterval ∧ t.pls = s.pls
        ∧ t.iml = s.iml ∧ FaultLineOk t
        ∧ (∀ p : Fin 3, t.spu.ports[p].watermark = s.pls.active.params.watermark)
        ∧ ∀ q : Fin 64, s.inUse q = true → t.pointState q = .unknown ∧ t.ptm.points[q].cause = .none)
    ∧ (∀ s : State, ∃ t, beginRound s = settle (checkRound t) ∧ t = { s with flc := t.flc }
      ∧ (∀ st : Fin 16, t.flc.marks[st] = s.pls.active.configured st
        ∧ (s.pls.active.configured st = true → t.flc.polls[st] = true ∨ ∃ f, t.flc.inFlight = some f ∧ f.order = .poll st)))
    ∧ (∀ s : State,
      let stations := (List.finRange 6).foldl enableStation s
      let timed := { stations with mev := { stations.mev with blindTimer := some 0 } }
      let points := (List.finRange 64).foldl enterUse timed
      let polls := { points with flc := { points.flc with pollTimer := some points.pls.active.params.pollInterval } }
      let ports := (List.finRange 3).foldl takeWatermark polls
      loadHandOver s = { ports with fmn := { ports.fmn with line := ports.faultLineNow } })
    ∧ (∀ (s : State) (i : Fin 6),
      (s.pls.active.stations[i].enabled = true → enableStation s i
          = healthChange i (post (.station i s.siu[i].health .offline)
              { s with siu := s.siu.set i { s.siu[i] with health := .offline, rx := .hunt } }))
        ∧ (s.pls.active.stations[i].enabled = false → enableStation s i = s))
    ∧ (∀ (s : State) (p : Fin 64),
      (s.inUse p = true → enterUse s p = { s with ptm := { s.ptm with
          points := s.ptm.points.set p { s.ptm.points[p] with state := .unknown, cause := .none } } })
        ∧ (s.inUse p = false → enterUse s p = s))
    ∧ (∀ (s : State) (p : Fin 3), takeWatermark s p
      = { s with spu := ⟨s.spu.ports.set p { s.spu.ports[p] with watermark := s.pls.active.params.watermark }⟩ })
    ∧ (∀ s : State, beginRound s = settle (checkRound ((List.finRange 16).foldl pollStation
      { s with flc := { s.flc with marks := Vector.ofFn (fun st => s.pls.active.configured st) } })))
    ∧ ∀ (s : State) (st : Fin 16),
      (s.pls.active.configured st = true →
          pollStation s st = { s with flc := { s.flc with polls := s.flc.polls.set st true }.choose })
        ∧ (s.pls.active.configured st = false → pollStation s st = s)

/-! ### The journal and the faults -/

/-- A posting: below 128 records it is appended and every unread count rises; at 128 the oldest record leaves, a port that had not
read it loses it, counted up to 255, and any other port's unread count rises. The JOURNAL flag is raised on a port whose count
rose to its watermark or above. A lost count that rises from 0 to 1 sets JOURNAL_OVERRUN, with the lowest such port, if it was
CLEAR. A record is 16 bytes: the kind, the timestamp low byte first, the fields of the kind, and zeros. -/
def Obligations.JournalPosting : Prop :=
  (∀ (s : State) (b : Body), JournalOk s.jrn →
    let j := s.jrn.push b
    (s.jrn.ring.length < 128 → j.ring = s.jrn.ring ++ [⟨s.jrn.clock, b⟩]
        ∧ ∀ p : Fin 3, j.unread[p] = s.jrn.unread[p] + 1 ∧ j.lost[p] = s.jrn.lost[p])
      ∧ (s.jrn.ring.length = 128 → j.ring = s.jrn.ring.drop 1 ++ [⟨s.jrn.clock, b⟩]
        ∧ ∀ p : Fin 3, j.unread[p] = (if s.jrn.unread[p] < 128 then s.jrn.unread[p] + 1 else 128)
          ∧ j.lost[p] = (if s.jrn.unread[p] < 128 then s.jrn.lost[p] else min (s.jrn.lost[p] + 1) 255))
      ∧ j.clock = s.jrn.clock
      ∧ (let u := postRecord b s
         u = { s with jrn := j, spu := u.spu }
          ∧ (∀ p : Fin 3, u.spu.ports[p]
            = if s.jrn.unread[p] < j.unread[p] ∧ s.spu.ports[p].watermark ≤ j.unread[p]
              then s.spu.ports[p].raise .journal else s.spu.ports[p])
          ∧ ((∀ p : Fin 3, ¬ (s.jrn.lost[p] = 0 ∧ j.lost[p] = 1)) ∨ s.fmn.status[FaultKind.journalOverrun.idx] = true →
            post b s = u)
          ∧ ∀ p : Fin 3, s.jrn.lost[p] = 0 → j.lost[p] = 1 → (∀ q : Fin 3, q < p → ¬ (s.jrn.lost[q] = 0 ∧ j.lost[q] = 1)) →
            s.fmn.status[FaultKind.journalOverrun.idx] = false → post b s = setStatus .journalOverrun (.port p) u))
    ∧ ∀ r : Record,
      let stamp : List Byte := [byteOf r.time.toNat, byteOf (r.time.toNat / 256), byteOf (r.time.toNat / 65536),
        byteOf (r.time.toNat / 16777216)]
      let laid (kind : Byte) (fields : List Byte) : List Byte :=
        [kind] ++ stamp ++ fields ++ List.replicate (11 - fields.length) 0
      r.bytes.length = 16 ∧ r.bytes = match r.body with
        | .reset k g => laid 0x01 ([if k = .cold then 0 else 1] ++ halfBytes g)
        | .level old new h i => laid 0x02 ([old.code, new.code, byteOf h] ++ halfBytes i)
        | .station n old new => laid 0x03 [byteOf n.val, old.code, new.code]
        | .sequence old new d => laid 0x04 [old.code, new.code, byteOf d]
        | .step c k m => laid 0x05 [if c = .shed then 0 else 1, byteOf k,
            if m = .started then 0 else if m = .done then 1 else 2]
        | .point q old new c => laid 0x06 [byteOf q.val, old.code, new.code, c.code]
        | .consent q m => laid 0x07 [byteOf q.val, match m with
            | .first => 0
            | .granted => 1
            | .expired => 2
            | .withdrawn => 3
            | .discarded => 4]
        | .veto q on => laid 0x08 [byteOf q.val, if on then 0 else 1]
        | .plan q g m why => laid 0x09 ([portOrNone q] ++ halfBytes g ++ [match m with
            | .committed => 0
            | .saved => 1
            | .saveFailed => 2
            | .loaded => 3
            | .loadFailed => 4, why.code])
        | .fault k d => laid 0x0a ([byteOf k.idx.val] ++ d.bytes)
        | .dt l on => laid 0x0b [byteOf l.val, if on then 0 else 1]
        | .event opened l i => laid 0x0c ([if opened then 0 else 1, l.code] ++ halfBytes i)

/-- A fault kind raised: nothing if it is SET; if CLEAR it is SET with a FAULT record, takes the pointer and the capture if it is
unmasked and the pointer is NONE, raises the FAULT notice on every port if unmasked, and the FAULT line is re-evaluated.
FAULT_CLEAR handles the named kinds in number order: a CLEAR one stands; a SET one becomes CLEAR, and gives up the pointer and the
capture if it holds them; a condition that persists is set again at once; the line is re-evaluated at the end, and the reply tells
what stands. A raise is handled whole before the overrun that its own record causes (log 22). The bytes of the reply that stand
for a capture that is NONE are the model's free values (log 11), the last four bytes of it; a set with a bit above 11 is
RequestsTurnedAway's (log 14). The reply holds the statuses, the pointer, and the capture as kind, detail and timestamp. A
JOURNAL_OVERRUN that the record of a kind set again causes comes before the next named kind and before the reply, the model's
choice (log 46). -/
def Obligations.FaultRaisedAndCleared : Prop :=
  (∀ (s : State) (k : FaultKind) (d : Detail),
      (s.fmn.status[k.idx] = true → raiseFault k d s = s)
        ∧ (s.fmn.status[k.idx] = false →
          let u := setStatus k d s
          u.fmn.status = s.fmn.status.set k.idx true ∧ u.jrn = s.jrn.push (.fault k d) ∧ FaultLineOk u
            ∧ (s.pls.active.policy[k.idx].masked = true → u.fmn.pointer = s.fmn.pointer ∧ u.fmn.capture = s.fmn.capture)
            ∧ (s.pls.active.policy[k.idx].masked = false →
              (∀ p : Fin 3, u.spu.ports[p].flags &&& Notice.fault.bit = Notice.fault.bit)
                ∧ (s.fmn.pointer = none → u.fmn.pointer = some k ∧ u.fmn.capture = some ⟨k, d, s.jrn.clock⟩)
                ∧ (s.fmn.pointer ≠ none → u.fmn.pointer = s.fmn.pointer ∧ u.fmn.capture = s.fmn.capture))
            ∧ raiseFault k d s = raiseOverrun (overrunPort s.jrn u.jrn) u))
    ∧ ((∀ (s : State) (p : Fin 3) (lo hi : Byte), Ready s p → lo.toNat + 256 * hi.toNat < 4096 →
        let named := FaultKind.all.filter (fun k => (lo.toNat + 256 * hi.toNat).testBit k.idx.val)
        let t := driveFault (named.foldl clearKind (s.taken p 0x28))
        exec (.faultClear p [lo, hi]) s = .next (t.replied p 0x28 .ok (t.fmn.bytes t.free)) ∧ FaultLineOk t)
      ∧ ∀ (s : State) (k : FaultKind),
        let cleared := { s with fmn := { s.fmn with
          status := s.fmn.status.set k.idx false
          pointer := if s.fmn.pointer = some k then none else s.fmn.pointer
          capture := if s.fmn.pointer = some k then none else s.fmn.capture } }
        (s.fmn.status[k.idx] = false → clearKind s k = s)
          ∧ (s.fmn.status[k.idx] = true → s.conditionOf k = false → clearKind s k = cleared)
          ∧ (s.fmn.status[k.idx] = true → s.conditionOf k = true →
            clearKind s k = raiseFault k (cleared.conditionDetail k) cleared
              ∧ (clearKind s k).fmn.status[k.idx] = true)
          ∧ (s.conditionOf k = match k with
            | .blind => s.fmn.condBlind
            | .stationUnreachable => s.fmn.condUnreachable
            | .noPlan => s.fmn.condNoPlan
            | _ => false)
          ∧ (let silent (st : Fin 16) : Prop := s.pls.active.configured st = true ∧ s.flc.reach[st] = .unreachable
             (k ≠ .stationUnreachable ∨ (∀ st, ¬ silent st) → s.conditionDetail k = .none)
              ∧ ∀ st, k = .stationUnreachable → silent st → (∀ r, r < st → ¬ silent r) → s.conditionDetail k = .loadStation st))
    ∧ ∀ (f : Fmn) (free : Nat),
      let faults := (List.finRange 12).foldl (fun n k => if f.status[k] then n + 2 ^ k.val else n) 0
      let kind (o : Option FaultKind) : Byte := match o with
        | none => 0xff
        | some k => byteOf k.idx.val
      let capture : List Byte := match f.capture with
        | none => [0xff, 0xff, 0xff, Config.noneFill free 5, Config.noneFill free 6, Config.noneFill free 7,
            Config.noneFill free 8]
        | some c => [byteOf c.kind.idx.val] ++ c.detail.bytes ++ [byteOf c.time.toNat, byteOf (c.time.toNat / 256),
            byteOf (c.time.toNat / 65536), byteOf (c.time.toNat / 16777216)]
      f.bytes free = [byteOf faults, byteOf (faults / 256), kind f.pointer] ++ capture
        ∧ Detail.none.bytes = [0xff, 0xff] ∧ (∀ n : Fin 6, (Detail.station n).bytes = [byteOf n.val, 0])
        ∧ (∀ n : Fin 64, (Detail.point n).bytes = [byteOf n.val, 0])
        ∧ (∀ n : Fin 16, (Detail.loadStation n).bytes = [byteOf (n.val + 1), 0])
        ∧ (∀ (c : Chain) (k : Nat), (Detail.step c k).bytes = [if c = .shed then 0 else 1, byteOf k])
        ∧ ∀ n : Fin 3, (Detail.port n).bytes = [byteOf n.val, 0]

/-! ### Points by hand -/

/-- MANUAL_SHED: in WATCH and HALTED an ENERGISED or FAILED point has a SHED wanted with cause MANUAL, a SHED one stands, both
answered OK; any other point or sequence state is answered WRONG_STATE and changes nothing. MANUAL_RESTORE: in WATCH a SHED or
FAILED point whose weight fits the budget becomes AWAIT with cause MANUAL, its manual flag yes and button seen no, and the gate is
evaluated; one above the budget is answered OVER_BUDGET; any other point or sequence state WRONG_STATE. What follows of itself
after a manual restore, the gate among it, is taken in the model's order (log 7); a point number above 63 is RequestsTurnedAway's.
The change to AWAIT is posted as a POINT record and sets the lamp (PointChangeRecorded, ShedWantedBySlot); no other block changes.
-/
def Obligations.ManualShedAndRestore : Prop :=
  (∀ (s : State) (p : Fin 3) (i : Fin 64) (b : Byte), Ready s p → s.pls.active.rights[p].operate = true → b.toNat = i.val →
      let allowed := s.seq.state = .watch ∨ s.seq.state = .halted
      (allowed → s.pointState i = .energised ∨ s.pointState i = .failed →
          exec (.manualShed p [b]) s = .next ((wantShed i .manual (s.taken p 0x30)).replied p 0x30 .ok [])
            ∧ (s.flc.motion[i] = .empty → (wantShed i .manual (s.taken p 0x30)).pointState i = .opening
              ∧ (wantShed i .manual (s.taken p 0x30)).ptm.points[i].cause = .manual))
        ∧ (allowed → s.pointState i = .shed → exec (.manualShed p [b]) s = .next (s.answered p 0x30 .ok []))
        ∧ (¬ allowed ∨ (s.pointState i ≠ .energised ∧ s.pointState i ≠ .failed ∧ s.pointState i ≠ .shed) →
          exec (.manualShed p [b]) s = .next (s.answered p 0x30 .wrongState [])))
    ∧ (∀ (s : State) (p : Fin 3) (i : Fin 64) (b : Byte), Ready s p → s.pls.active.rights[p].operate = true → b.toNat = i.val →
      let restorable := s.seq.state = .watch ∧ (s.pointState i = .shed ∨ s.pointState i = .failed)
      let fits := s.pls.active.points[i].weight ≤ s.pls.active.params.inrushBudget
      (restorable → fits → ∃ u, exec (.manualRestore p [b]) s = .next ((settle u).replied p 0x31 .ok [])
          ∧ (let taken := s.taken p 0x31
             u = movePoint i .await .manual { taken with ptm := { taken.ptm with
               points := taken.ptm.points.set i { taken.ptm.points[i] with manual := true } } })
          ∧ u = { s.taken p 0x31 with ptm := u.ptm, flc := u.flc, jrn := u.jrn, spu := u.spu, fmn := u.fmn }
          ∧ u.pointState i = .await ∧ u.ptm.points[i].cause = .manual ∧ u.ptm.points[i].manual = true
          ∧ u.ptm.points[i].buttonSeen = false ∧ (∀ q : Fin 64, q ≠ i → u.ptm.points[q] = s.ptm.points[q]))
        ∧ (restorable → ¬ fits → exec (.manualRestore p [b]) s = .next (s.answered p 0x31 .overBudget []))
        ∧ (¬ restorable → exec (.manualRestore p [b]) s = .next (s.answered p 0x31 .wrongState [])))
end

