-- ==== Sys2Proof/Laws/State.lean ====
section
/-! SUPPORT. What each elementary update of the state leaves and what it writes, field by field, for simp. -/

namespace Sys2Proof.Machine

/-- Changing a port leaves every other part of the state. -/
@[simp] theorem State.modPort_frame (s : State) (i : Fin 3) (f : Port → Port) :
    (s.modPort i f).siu = s.siu
      ∧ (s.modPort i f).mev = s.mev
      ∧ (s.modPort i f).dtu = s.dtu
      ∧ (s.modPort i f).pls = s.pls
      ∧ (s.modPort i f).ptm = s.ptm
      ∧ (s.modPort i f).seq = s.seq
      ∧ (s.modPort i f).ctk = s.ctk
      ∧ (s.modPort i f).flc = s.flc
      ∧ (s.modPort i f).jrn = s.jrn
      ∧ (s.modPort i f).fmn = s.fmn
      ∧ (s.modPort i f).iml = s.iml
      ∧ (s.modPort i f).free = s.free
      ∧ (s.modPort i f).pending = s.pending :=
  ⟨rfl, rfl, rfl, rfl, rfl, rfl, rfl, rfl, rfl, rfl, rfl, rfl, rfl⟩

/-- Changing a channel leaves every other part of the state. -/
@[simp] theorem State.modChannel_frame (s : State) (i : Fin 6) (f : Channel → Channel) :
    (s.modChannel i f).mev = s.mev
      ∧ (s.modChannel i f).dtu = s.dtu
      ∧ (s.modChannel i f).pls = s.pls
      ∧ (s.modChannel i f).ptm = s.ptm
      ∧ (s.modChannel i f).seq = s.seq
      ∧ (s.modChannel i f).ctk = s.ctk
      ∧ (s.modChannel i f).flc = s.flc
      ∧ (s.modChannel i f).spu = s.spu
      ∧ (s.modChannel i f).jrn = s.jrn
      ∧ (s.modChannel i f).fmn = s.fmn
      ∧ (s.modChannel i f).iml = s.iml
      ∧ (s.modChannel i f).free = s.free
      ∧ (s.modChannel i f).pending = s.pending :=
  ⟨rfl, rfl, rfl, rfl, rfl, rfl, rfl, rfl, rfl, rfl, rfl, rfl, rfl⟩

/-- Changing an evaluation record leaves every other part of the state. -/
@[simp] theorem State.modEval_frame (s : State) (i : Fin 6) (f : StationEval → StationEval) :
    (s.modEval i f).siu = s.siu
      ∧ (s.modEval i f).dtu = s.dtu
      ∧ (s.modEval i f).pls = s.pls
      ∧ (s.modEval i f).ptm = s.ptm
      ∧ (s.modEval i f).seq = s.seq
      ∧ (s.modEval i f).ctk = s.ctk
      ∧ (s.modEval i f).flc = s.flc
      ∧ (s.modEval i f).spu = s.spu
      ∧ (s.modEval i f).jrn = s.jrn
      ∧ (s.modEval i f).fmn = s.fmn
      ∧ (s.modEval i f).iml = s.iml
      ∧ (s.modEval i f).free = s.free
      ∧ (s.modEval i f).pending = s.pending :=
  ⟨rfl, rfl, rfl, rfl, rfl, rfl, rfl, rfl, rfl, rfl, rfl, rfl, rfl⟩

/-- Changing a point entry leaves every other part of the state. -/
@[simp] theorem State.modPoint_frame (s : State) (p : Fin 64) (f : PointEntry → PointEntry) :
    (s.modPoint p f).siu = s.siu
      ∧ (s.modPoint p f).mev = s.mev
      ∧ (s.modPoint p f).dtu = s.dtu
      ∧ (s.modPoint p f).pls = s.pls
      ∧ (s.modPoint p f).seq = s.seq
      ∧ (s.modPoint p f).ctk = s.ctk
      ∧ (s.modPoint p f).flc = s.flc
      ∧ (s.modPoint p f).spu = s.spu
      ∧ (s.modPoint p f).jrn = s.jrn
      ∧ (s.modPoint p f).fmn = s.fmn
      ∧ (s.modPoint p f).iml = s.iml
      ∧ (s.modPoint p f).free = s.free
      ∧ (s.modPoint p f).pending = s.pending :=
  ⟨rfl, rfl, rfl, rfl, rfl, rfl, rfl, rfl, rfl, rfl, rfl, rfl, rfl⟩

/-- Changing an evaluation record leaves the device record. -/
@[simp] theorem State.modEval_device (s : State) (i : Fin 6) (f : StationEval → StationEval) :
    (s.modEval i f).mev.level = s.mev.level
      ∧ (s.modEval i f).mev.healthy = s.mev.healthy
      ∧ (s.modEval i f).mev.quiet = s.mev.quiet
      ∧ (s.modEval i f).mev.quietHanded = s.mev.quietHanded
      ∧ (s.modEval i f).mev.blindTimer = s.mev.blindTimer
      ∧ (s.modEval i f).mev.blind = s.mev.blind
      ∧ (s.modEval i f).mev.peakLevel = s.mev.peakLevel
      ∧ (s.modEval i f).mev.peakHealthy = s.mev.peakHealthy
      ∧ (s.modEval i f).mev.peaksStand = s.mev.peaksStand :=
  ⟨rfl, rfl, rfl, rfl, rfl, rfl, rfl, rfl, rfl⟩

/-- Changing a point entry leaves the inrush in use. -/
@[simp] theorem State.modPoint_inrush (s : State) (p : Fin 64) (f : PointEntry → PointEntry) :
    (s.modPoint p f).ptm.inrush = s.ptm.inrush := rfl

/-- The ports after one is changed. -/
theorem State.modPort_get (s : State) (i : Fin 3) (f : Port → Port) (j : Fin 3) :
    (s.modPort i f).spu.ports[j] = if i = j then f s.spu.ports[i] else s.spu.ports[j] := by
  simp [State.modPort, Vector.getElem_set, Fin.ext_iff]

/-- The ports after one is changed. The item changed. -/
@[simp] theorem State.modPort_get_same (s : State) (i : Fin 3) (f : Port → Port) :
    (s.modPort i f).spu.ports[i.val] = f s.spu.ports[i.val] := by
  simp [State.modPort]

/-- The ports after one is changed. Read by number. -/
theorem State.modPort_at (s : State) (i : Fin 3) (f : Port → Port) (j : Nat) (hj : j < 3) :
    (s.modPort i f).spu.ports[j] = if i.val = j then f s.spu.ports[i] else s.spu.ports[j] := by
  simp [State.modPort, Vector.getElem_set]

/-- The channels after one is changed. -/
theorem State.modChannel_get (s : State) (i : Fin 6) (f : Channel → Channel) (j : Fin 6) :
    (s.modChannel i f).siu[j] = if i = j then f s.siu[i] else s.siu[j] := by
  simp [State.modChannel, Vector.getElem_set, Fin.ext_iff]

/-- The channels after one is changed. The item changed. -/
@[simp] theorem State.modChannel_get_same (s : State) (i : Fin 6) (f : Channel → Channel) :
    (s.modChannel i f).siu[i.val] = f s.siu[i.val] := by
  simp [State.modChannel]

/-- The channels after one is changed. Read by number. -/
theorem State.modChannel_at (s : State) (i : Fin 6) (f : Channel → Channel) (j : Nat) (hj : j < 6) :
    (s.modChannel i f).siu[j] = if i.val = j then f s.siu[i] else s.siu[j] := by
  simp [State.modChannel, Vector.getElem_set]

/-- The evaluation records after one is changed. -/
theorem State.modEval_get (s : State) (i : Fin 6) (f : StationEval → StationEval) (j : Fin 6) :
    (s.modEval i f).mev.evals[j] = if i = j then f s.mev.evals[i] else s.mev.evals[j] := by
  simp [State.modEval, Vector.getElem_set, Fin.ext_iff]

/-- The evaluation records after one is changed. The item changed. -/
@[simp] theorem State.modEval_get_same (s : State) (i : Fin 6) (f : StationEval → StationEval) :
    (s.modEval i f).mev.evals[i.val] = f s.mev.evals[i.val] := by
  simp [State.modEval]

/-- The evaluation records after one is changed. Read by number. -/
theorem State.modEval_at (s : State) (i : Fin 6) (f : StationEval → StationEval) (j : Nat) (hj : j < 6) :
    (s.modEval i f).mev.evals[j] = if i.val = j then f s.mev.evals[i] else s.mev.evals[j] := by
  simp [State.modEval, Vector.getElem_set]

/-- The point entries after one is changed. -/
theorem State.modPoint_get (s : State) (p : Fin 64) (f : PointEntry → PointEntry) (j : Fin 64) :
    (s.modPoint p f).ptm.points[j] = if p = j then f s.ptm.points[p] else s.ptm.points[j] := by
  simp [State.modPoint, Vector.getElem_set, Fin.ext_iff]

/-- The point entries after one is changed. The item changed. -/
@[simp] theorem State.modPoint_get_same (s : State) (p : Fin 64) (f : PointEntry → PointEntry) :
    (s.modPoint p f).ptm.points[p.val] = f s.ptm.points[p.val] := by
  simp [State.modPoint]

/-- The point entries after one is changed. Read by number. -/
theorem State.modPoint_at (s : State) (p : Fin 64) (f : PointEntry → PointEntry) (j : Nat) (hj : j < 64) :
    (s.modPoint p f).ptm.points[j] = if p.val = j then f s.ptm.points[p] else s.ptm.points[j] := by
  simp [State.modPoint, Vector.getElem_set]

/-- Re-evaluating the line of a port leaves its other items. -/
@[simp] theorem Port.drive_frame (q : Port) :
    q.drive.up = q.up ∧ q.drive.link = q.link ∧ q.drive.service = q.service ∧ q.drive.queue = q.queue ∧ q.drive.tail = q.tail
      ∧ q.drive.flags = q.flags ∧ q.drive.mask = q.mask ∧ q.drive.watermark = q.watermark
      ∧ q.drive.frameErrors = q.frameErrors ∧ q.drive.rx = q.rx :=
  ⟨rfl, rfl, rfl, rfl, rfl, rfl, rfl, rfl, rfl, rfl⟩

/-- The line after it is re-evaluated (R166). -/
@[simp] theorem Port.drive_attention (q : Port) : q.drive.attention = (q.flags &&& q.mask != 0) := rfl

/-- Raising a flag on a port leaves its other items. -/
@[simp] theorem Port.raise_frame (n : Notice) (q : Port) :
    (q.raise n).up = q.up ∧ (q.raise n).link = q.link ∧ (q.raise n).service = q.service ∧ (q.raise n).queue = q.queue
      ∧ (q.raise n).tail = q.tail ∧ (q.raise n).mask = q.mask ∧ (q.raise n).watermark = q.watermark
      ∧ (q.raise n).frameErrors = q.frameErrors ∧ (q.raise n).rx = q.rx :=
  ⟨rfl, rfl, rfl, rfl, rfl, rfl, rfl, rfl, rfl⟩

/-- The flags after one is raised (R166). -/
@[simp] theorem Port.raise_flags (n : Notice) (q : Port) : (q.raise n).flags = q.flags ||| n.bit := rfl

/-- The frame of a change of point state at the entry: what the state decides, and what stands. -/
@[simp] theorem PointEntry.enter_items (e : PointEntry) (new : PointState) (c : Cause) :
    (e.enter new c).state = new ∧ (e.enter new c).cause = c ∧ (e.enter new c).contact = e.contact
      ∧ (e.enter new c).lockout = e.lockout ∧ (e.enter new c).relay = e.relay ∧ (e.enter new c).lamp = e.lamp :=
  ⟨rfl, rfl, rfl, rfl, rfl, rfl⟩

/-- The in-use field read through the state. -/
theorem State.inUse_eq (s : State) (p : Fin 64) : s.inUse p = s.pls.active.points[p].inUse := rfl

/-- The point state read through the state. -/
theorem State.pointState_eq (s : State) (p : Fin 64) : s.pointState p = s.ptm.points[p].state := rfl

end Sys2Proof.Machine
end

