-- ==== Sys2Proof/Laws/Shared.lean ====
section
/-! SUPPORT. What each shared operation of Flags.lean and Ops.lean leaves of the state. -/

namespace Sys2Proof.Machine

/-- A fold of steps that leave `siu` leaves `siu`. -/
@[simp] theorem foldl_siu {α : Type} (g : State → α → State) (h : ∀ s a, (g s a).siu = s.siu) (l : List α) (s : State) :
    (l.foldl g s).siu = s.siu := by
  induction l generalizing s with
  | nil => rfl
  | cons a l ih => simp [ih, h]

/-- A fold of steps that leave `mev` leaves `mev`. -/
@[simp] theorem foldl_mev {α : Type} (g : State → α → State) (h : ∀ s a, (g s a).mev = s.mev) (l : List α) (s : State) :
    (l.foldl g s).mev = s.mev := by
  induction l generalizing s with
  | nil => rfl
  | cons a l ih => simp [ih, h]

/-- A fold of steps that leave `dtu` leaves `dtu`. -/
@[simp] theorem foldl_dtu {α : Type} (g : State → α → State) (h : ∀ s a, (g s a).dtu = s.dtu) (l : List α) (s : State) :
    (l.foldl g s).dtu = s.dtu := by
  induction l generalizing s with
  | nil => rfl
  | cons a l ih => simp [ih, h]

/-- A fold of steps that leave `pls` leaves `pls`. -/
@[simp] theorem foldl_pls {α : Type} (g : State → α → State) (h : ∀ s a, (g s a).pls = s.pls) (l : List α) (s : State) :
    (l.foldl g s).pls = s.pls := by
  induction l generalizing s with
  | nil => rfl
  | cons a l ih => simp [ih, h]

/-- A fold of steps that leave `ptm` leaves `ptm`. -/
@[simp] theorem foldl_ptm {α : Type} (g : State → α → State) (h : ∀ s a, (g s a).ptm = s.ptm) (l : List α) (s : State) :
    (l.foldl g s).ptm = s.ptm := by
  induction l generalizing s with
  | nil => rfl
  | cons a l ih => simp [ih, h]

/-- A fold of steps that leave `seq` leaves `seq`. -/
@[simp] theorem foldl_seq {α : Type} (g : State → α → State) (h : ∀ s a, (g s a).seq = s.seq) (l : List α) (s : State) :
    (l.foldl g s).seq = s.seq := by
  induction l generalizing s with
  | nil => rfl
  | cons a l ih => simp [ih, h]

/-- A fold of steps that leave `ctk` leaves `ctk`. -/
@[simp] theorem foldl_ctk {α : Type} (g : State → α → State) (h : ∀ s a, (g s a).ctk = s.ctk) (l : List α) (s : State) :
    (l.foldl g s).ctk = s.ctk := by
  induction l generalizing s with
  | nil => rfl
  | cons a l ih => simp [ih, h]

/-- A fold of steps that leave `flc` leaves `flc`. -/
@[simp] theorem foldl_flc {α : Type} (g : State → α → State) (h : ∀ s a, (g s a).flc = s.flc) (l : List α) (s : State) :
    (l.foldl g s).flc = s.flc := by
  induction l generalizing s with
  | nil => rfl
  | cons a l ih => simp [ih, h]

/-- A fold of steps that leave `spu` leaves `spu`. -/
@[simp] theorem foldl_spu {α : Type} (g : State → α → State) (h : ∀ s a, (g s a).spu = s.spu) (l : List α) (s : State) :
    (l.foldl g s).spu = s.spu := by
  induction l generalizing s with
  | nil => rfl
  | cons a l ih => simp [ih, h]

/-- A fold of steps that leave `jrn` leaves `jrn`. -/
@[simp] theorem foldl_jrn {α : Type} (g : State → α → State) (h : ∀ s a, (g s a).jrn = s.jrn) (l : List α) (s : State) :
    (l.foldl g s).jrn = s.jrn := by
  induction l generalizing s with
  | nil => rfl
  | cons a l ih => simp [ih, h]

/-- A fold of steps that leave `fmn` leaves `fmn`. -/
@[simp] theorem foldl_fmn {α : Type} (g : State → α → State) (h : ∀ s a, (g s a).fmn = s.fmn) (l : List α) (s : State) :
    (l.foldl g s).fmn = s.fmn := by
  induction l generalizing s with
  | nil => rfl
  | cons a l ih => simp [ih, h]

/-- A fold of steps that leave `iml` leaves `iml`. -/
@[simp] theorem foldl_iml {α : Type} (g : State → α → State) (h : ∀ s a, (g s a).iml = s.iml) (l : List α) (s : State) :
    (l.foldl g s).iml = s.iml := by
  induction l generalizing s with
  | nil => rfl
  | cons a l ih => simp [ih, h]

/-- A fold of steps that leave `free` leaves `free`. -/
@[simp] theorem foldl_free {α : Type} (g : State → α → State) (h : ∀ s a, (g s a).free = s.free) (l : List α) (s : State) :
    (l.foldl g s).free = s.free := by
  induction l generalizing s with
  | nil => rfl
  | cons a l ih => simp [ih, h]

/-- A fold of steps that leave `pending` leaves `pending`. -/
@[simp] theorem foldl_pending {α : Type} (g : State → α → State) (h : ∀ s a, (g s a).pending = s.pending) (l : List α) (s : State) :
    (l.foldl g s).pending = s.pending := by
  induction l generalizing s with
  | nil => rfl
  | cons a l ih => simp [ih, h]

/-- `raiseOn` leaves siu, mev, dtu, pls, ptm, seq, ctk, flc, jrn, fmn, iml, free, pending. -/
@[simp] theorem raiseOn_frame (n : Notice) (i : Fin 3) (s : State) :
    (raiseOn n i s).siu = s.siu ∧ (raiseOn n i s).mev = s.mev ∧ (raiseOn n i s).dtu = s.dtu ∧ (raiseOn n i s).pls = s.pls
      ∧ (raiseOn n i s).ptm = s.ptm ∧ (raiseOn n i s).seq = s.seq ∧ (raiseOn n i s).ctk = s.ctk
      ∧ (raiseOn n i s).flc = s.flc ∧ (raiseOn n i s).jrn = s.jrn ∧ (raiseOn n i s).fmn = s.fmn
      ∧ (raiseOn n i s).iml = s.iml ∧ (raiseOn n i s).free = s.free ∧ (raiseOn n i s).pending = s.pending := by
  simp [raiseOn]

/-- `raiseAll` leaves siu, mev, dtu, pls, ptm, seq, ctk, flc, jrn, fmn, iml, free, pending. -/
@[simp] theorem raiseAll_frame (n : Notice) (s : State) :
    (raiseAll n s).siu = s.siu ∧ (raiseAll n s).mev = s.mev ∧ (raiseAll n s).dtu = s.dtu ∧ (raiseAll n s).pls = s.pls
      ∧ (raiseAll n s).ptm = s.ptm ∧ (raiseAll n s).seq = s.seq ∧ (raiseAll n s).ctk = s.ctk ∧ (raiseAll n s).flc = s.flc
      ∧ (raiseAll n s).jrn = s.jrn ∧ (raiseAll n s).fmn = s.fmn ∧ (raiseAll n s).iml = s.iml
      ∧ (raiseAll n s).free = s.free ∧ (raiseAll n s).pending = s.pending := by
  simp [raiseAll]

/-- `driveFault` leaves siu, mev, dtu, pls, ptm, seq, ctk, flc, spu, jrn, iml, free, pending. -/
@[simp] theorem driveFault_frame (s : State) :
    (driveFault s).siu = s.siu ∧ (driveFault s).mev = s.mev ∧ (driveFault s).dtu = s.dtu ∧ (driveFault s).pls = s.pls
      ∧ (driveFault s).ptm = s.ptm ∧ (driveFault s).seq = s.seq ∧ (driveFault s).ctk = s.ctk ∧ (driveFault s).flc = s.flc
      ∧ (driveFault s).spu = s.spu ∧ (driveFault s).jrn = s.jrn ∧ (driveFault s).iml = s.iml
      ∧ (driveFault s).free = s.free ∧ (driveFault s).pending = s.pending := by
  simp [driveFault]

/-- `noteUnread` leaves siu, mev, dtu, pls, ptm, seq, ctk, flc, jrn, fmn, iml, free, pending. -/
@[simp] theorem noteUnread_frame (before : Journal) (i : Fin 3) (s : State) :
    (noteUnread before i s).siu = s.siu ∧ (noteUnread before i s).mev = s.mev ∧ (noteUnread before i s).dtu = s.dtu
      ∧ (noteUnread before i s).pls = s.pls ∧ (noteUnread before i s).ptm = s.ptm ∧ (noteUnread before i s).seq = s.seq
      ∧ (noteUnread before i s).ctk = s.ctk ∧ (noteUnread before i s).flc = s.flc ∧ (noteUnread before i s).jrn = s.jrn
      ∧ (noteUnread before i s).fmn = s.fmn ∧ (noteUnread before i s).iml = s.iml ∧ (noteUnread before i s).free = s.free
      ∧ (noteUnread before i s).pending = s.pending := by
  simp only [noteUnread]
  split <;> simp

/-- `postRecord` leaves siu, mev, dtu, pls, ptm, seq, ctk, flc, fmn, iml, free, pending. -/
@[simp] theorem postRecord_frame (b : Body) (s : State) :
    (postRecord b s).siu = s.siu ∧ (postRecord b s).mev = s.mev ∧ (postRecord b s).dtu = s.dtu
      ∧ (postRecord b s).pls = s.pls ∧ (postRecord b s).ptm = s.ptm ∧ (postRecord b s).seq = s.seq
      ∧ (postRecord b s).ctk = s.ctk ∧ (postRecord b s).flc = s.flc ∧ (postRecord b s).fmn = s.fmn
      ∧ (postRecord b s).iml = s.iml ∧ (postRecord b s).free = s.free ∧ (postRecord b s).pending = s.pending := by
  simp [postRecord]

/-- `offerFault` leaves siu, mev, dtu, pls, ptm, seq, ctk, flc, jrn, iml, free, pending. -/
@[simp] theorem offerFault_frame (k : FaultKind) (d : Detail) (s : State) :
    (offerFault k d s).siu = s.siu ∧ (offerFault k d s).mev = s.mev ∧ (offerFault k d s).dtu = s.dtu
      ∧ (offerFault k d s).pls = s.pls ∧ (offerFault k d s).ptm = s.ptm ∧ (offerFault k d s).seq = s.seq
      ∧ (offerFault k d s).ctk = s.ctk ∧ (offerFault k d s).flc = s.flc ∧ (offerFault k d s).jrn = s.jrn
      ∧ (offerFault k d s).iml = s.iml ∧ (offerFault k d s).free = s.free ∧ (offerFault k d s).pending = s.pending := by
  simp only [offerFault]
  (repeat' split) <;> simp

/-- `setStatus` leaves siu, mev, dtu, pls, ptm, seq, ctk, flc, iml, free, pending. -/
@[simp] theorem setStatus_frame (k : FaultKind) (d : Detail) (s : State) :
    (setStatus k d s).siu = s.siu ∧ (setStatus k d s).mev = s.mev ∧ (setStatus k d s).dtu = s.dtu
      ∧ (setStatus k d s).pls = s.pls ∧ (setStatus k d s).ptm = s.ptm ∧ (setStatus k d s).seq = s.seq
      ∧ (setStatus k d s).ctk = s.ctk ∧ (setStatus k d s).flc = s.flc ∧ (setStatus k d s).iml = s.iml
      ∧ (setStatus k d s).free = s.free ∧ (setStatus k d s).pending = s.pending := by
  simp [setStatus]

/-- `raiseOverrun` leaves siu, mev, dtu, pls, ptm, seq, ctk, flc, iml, free, pending. -/
@[simp] theorem raiseOverrun_frame (port : Option (Fin 3)) (s : State) :
    (raiseOverrun port s).siu = s.siu ∧ (raiseOverrun port s).mev = s.mev ∧ (raiseOverrun port s).dtu = s.dtu
      ∧ (raiseOverrun port s).pls = s.pls ∧ (raiseOverrun port s).ptm = s.ptm ∧ (raiseOverrun port s).seq = s.seq
      ∧ (raiseOverrun port s).ctk = s.ctk ∧ (raiseOverrun port s).flc = s.flc ∧ (raiseOverrun port s).iml = s.iml
      ∧ (raiseOverrun port s).free = s.free ∧ (raiseOverrun port s).pending = s.pending := by
  simp only [raiseOverrun]
  (repeat' split) <;> simp

/-- `post` leaves siu, mev, dtu, pls, ptm, seq, ctk, flc, iml, free, pending. -/
@[simp] theorem post_frame (b : Body) (s : State) :
    (post b s).siu = s.siu ∧ (post b s).mev = s.mev ∧ (post b s).dtu = s.dtu ∧ (post b s).pls = s.pls
      ∧ (post b s).ptm = s.ptm ∧ (post b s).seq = s.seq ∧ (post b s).ctk = s.ctk ∧ (post b s).flc = s.flc
      ∧ (post b s).iml = s.iml ∧ (post b s).free = s.free ∧ (post b s).pending = s.pending := by
  simp [post]

/-- `raiseFault` leaves siu, mev, dtu, pls, ptm, seq, ctk, flc, iml, free, pending. -/
@[simp] theorem raiseFault_frame (k : FaultKind) (d : Detail) (s : State) :
    (raiseFault k d s).siu = s.siu ∧ (raiseFault k d s).mev = s.mev ∧ (raiseFault k d s).dtu = s.dtu
      ∧ (raiseFault k d s).pls = s.pls ∧ (raiseFault k d s).ptm = s.ptm ∧ (raiseFault k d s).seq = s.seq
      ∧ (raiseFault k d s).ctk = s.ctk ∧ (raiseFault k d s).flc = s.flc ∧ (raiseFault k d s).iml = s.iml
      ∧ (raiseFault k d s).free = s.free ∧ (raiseFault k d s).pending = s.pending := by
  simp only [raiseFault]
  split <;> simp

/-- `setCondition` leaves siu, mev, dtu, pls, ptm, seq, ctk, flc, spu, jrn, iml, free, pending. -/
@[simp] theorem setCondition_frame (k : FaultKind) (v : Bool) (s : State) :
    (setCondition k v s).siu = s.siu ∧ (setCondition k v s).mev = s.mev ∧ (setCondition k v s).dtu = s.dtu
      ∧ (setCondition k v s).pls = s.pls ∧ (setCondition k v s).ptm = s.ptm ∧ (setCondition k v s).seq = s.seq
      ∧ (setCondition k v s).ctk = s.ctk ∧ (setCondition k v s).flc = s.flc ∧ (setCondition k v s).spu = s.spu
      ∧ (setCondition k v s).jrn = s.jrn ∧ (setCondition k v s).iml = s.iml ∧ (setCondition k v s).free = s.free
      ∧ (setCondition k v s).pending = s.pending := by
  simp only [setCondition]
  split <;> simp

/-- `reportTrue` leaves siu, mev, dtu, pls, ptm, seq, ctk, flc, iml, free, pending. -/
@[simp] theorem reportTrue_frame (k : FaultKind) (d : Detail) (s : State) :
    (reportTrue k d s).siu = s.siu ∧ (reportTrue k d s).mev = s.mev ∧ (reportTrue k d s).dtu = s.dtu
      ∧ (reportTrue k d s).pls = s.pls ∧ (reportTrue k d s).ptm = s.ptm ∧ (reportTrue k d s).seq = s.seq
      ∧ (reportTrue k d s).ctk = s.ctk ∧ (reportTrue k d s).flc = s.flc ∧ (reportTrue k d s).iml = s.iml
      ∧ (reportTrue k d s).free = s.free ∧ (reportTrue k d s).pending = s.pending := by
  simp [reportTrue]

/-- `reportFalse` leaves siu, mev, dtu, pls, ptm, seq, ctk, flc, spu, jrn, iml, free, pending. -/
@[simp] theorem reportFalse_frame (k : FaultKind) (s : State) :
    (reportFalse k s).siu = s.siu ∧ (reportFalse k s).mev = s.mev ∧ (reportFalse k s).dtu = s.dtu
      ∧ (reportFalse k s).pls = s.pls ∧ (reportFalse k s).ptm = s.ptm ∧ (reportFalse k s).seq = s.seq
      ∧ (reportFalse k s).ctk = s.ctk ∧ (reportFalse k s).flc = s.flc ∧ (reportFalse k s).spu = s.spu
      ∧ (reportFalse k s).jrn = s.jrn ∧ (reportFalse k s).iml = s.iml ∧ (reportFalse k s).free = s.free
      ∧ (reportFalse k s).pending = s.pending := by
  simp [reportFalse]

/-- `choose` leaves siu, mev, dtu, pls, ptm, seq, ctk, spu, jrn, fmn, iml, free, pending. -/
@[simp] theorem choose_frame (s : State) :
    (choose s).siu = s.siu ∧ (choose s).mev = s.mev ∧ (choose s).dtu = s.dtu ∧ (choose s).pls = s.pls
      ∧ (choose s).ptm = s.ptm ∧ (choose s).seq = s.seq ∧ (choose s).ctk = s.ctk ∧ (choose s).spu = s.spu
      ∧ (choose s).jrn = s.jrn ∧ (choose s).fmn = s.fmn ∧ (choose s).iml = s.iml ∧ (choose s).free = s.free
      ∧ (choose s).pending = s.pending := by
  simp [choose]

/-- `placeMotion` leaves siu, mev, dtu, pls, ptm, seq, ctk, spu, jrn, fmn, iml, free, pending. -/
@[simp] theorem placeMotion_frame (k : MotionKind) (p : Fin 64) (s : State) :
    (placeMotion k p s).siu = s.siu ∧ (placeMotion k p s).mev = s.mev ∧ (placeMotion k p s).dtu = s.dtu
      ∧ (placeMotion k p s).pls = s.pls ∧ (placeMotion k p s).ptm = s.ptm ∧ (placeMotion k p s).seq = s.seq
      ∧ (placeMotion k p s).ctk = s.ctk ∧ (placeMotion k p s).spu = s.spu ∧ (placeMotion k p s).jrn = s.jrn
      ∧ (placeMotion k p s).fmn = s.fmn ∧ (placeMotion k p s).iml = s.iml ∧ (placeMotion k p s).free = s.free
      ∧ (placeMotion k p s).pending = s.pending := by
  simp only [placeMotion]
  split <;> simp

/-- `postLamp` leaves siu, mev, dtu, pls, ptm, seq, ctk, spu, jrn, fmn, iml, free, pending. -/
@[simp] theorem postLamp_frame (m : Lamp) (p : Fin 64) (s : State) :
    (postLamp m p s).siu = s.siu ∧ (postLamp m p s).mev = s.mev ∧ (postLamp m p s).dtu = s.dtu
      ∧ (postLamp m p s).pls = s.pls ∧ (postLamp m p s).ptm = s.ptm ∧ (postLamp m p s).seq = s.seq
      ∧ (postLamp m p s).ctk = s.ctk ∧ (postLamp m p s).spu = s.spu ∧ (postLamp m p s).jrn = s.jrn
      ∧ (postLamp m p s).fmn = s.fmn ∧ (postLamp m p s).iml = s.iml ∧ (postLamp m p s).free = s.free
      ∧ (postLamp m p s).pending = s.pending := by
  simp [postLamp]

/-- `postPoll` leaves siu, mev, dtu, pls, ptm, seq, ctk, spu, jrn, fmn, iml, free, pending. -/
@[simp] theorem postPoll_frame (st : Fin 16) (s : State) :
    (postPoll st s).siu = s.siu ∧ (postPoll st s).mev = s.mev ∧ (postPoll st s).dtu = s.dtu ∧ (postPoll st s).pls = s.pls
      ∧ (postPoll st s).ptm = s.ptm ∧ (postPoll st s).seq = s.seq ∧ (postPoll st s).ctk = s.ctk
      ∧ (postPoll st s).spu = s.spu ∧ (postPoll st s).jrn = s.jrn ∧ (postPoll st s).fmn = s.fmn
      ∧ (postPoll st s).iml = s.iml ∧ (postPoll st s).free = s.free ∧ (postPoll st s).pending = s.pending := by
  simp [postPoll]

/-- `postTripAll` leaves siu, mev, dtu, pls, ptm, seq, ctk, spu, jrn, fmn, iml, free, pending. -/
@[simp] theorem postTripAll_frame (s : State) :
    (postTripAll s).siu = s.siu ∧ (postTripAll s).mev = s.mev ∧ (postTripAll s).dtu = s.dtu ∧ (postTripAll s).pls = s.pls
      ∧ (postTripAll s).ptm = s.ptm ∧ (postTripAll s).seq = s.seq ∧ (postTripAll s).ctk = s.ctk
      ∧ (postTripAll s).spu = s.spu ∧ (postTripAll s).jrn = s.jrn ∧ (postTripAll s).fmn = s.fmn
      ∧ (postTripAll s).iml = s.iml ∧ (postTripAll s).free = s.free ∧ (postTripAll s).pending = s.pending := by
  simp [postTripAll]

/-- `withdraw` leaves siu, mev, dtu, pls, ptm, seq, ctk, spu, jrn, fmn, iml, free, pending. -/
@[simp] theorem withdraw_frame (p : Fin 64) (s : State) :
    (withdraw p s).siu = s.siu ∧ (withdraw p s).mev = s.mev ∧ (withdraw p s).dtu = s.dtu ∧ (withdraw p s).pls = s.pls
      ∧ (withdraw p s).ptm = s.ptm ∧ (withdraw p s).seq = s.seq ∧ (withdraw p s).ctk = s.ctk ∧ (withdraw p s).spu = s.spu
      ∧ (withdraw p s).jrn = s.jrn ∧ (withdraw p s).fmn = s.fmn ∧ (withdraw p s).iml = s.iml
      ∧ (withdraw p s).free = s.free ∧ (withdraw p s).pending = s.pending := by
  simp only [withdraw]
  split <;> simp

/-- `startSpacing` leaves siu, mev, dtu, pls, ptm, seq, ctk, spu, jrn, fmn, iml, free, pending. -/
@[simp] theorem startSpacing_frame (s : State) :
    (startSpacing s).siu = s.siu ∧ (startSpacing s).mev = s.mev ∧ (startSpacing s).dtu = s.dtu
      ∧ (startSpacing s).pls = s.pls ∧ (startSpacing s).ptm = s.ptm ∧ (startSpacing s).seq = s.seq
      ∧ (startSpacing s).ctk = s.ctk ∧ (startSpacing s).spu = s.spu ∧ (startSpacing s).jrn = s.jrn
      ∧ (startSpacing s).fmn = s.fmn ∧ (startSpacing s).iml = s.iml ∧ (startSpacing s).free = s.free
      ∧ (startSpacing s).pending = s.pending := by
  simp [startSpacing]

/-- `pollStation` leaves siu, mev, dtu, pls, ptm, seq, ctk, spu, jrn, fmn, iml, free, pending. -/
@[simp] theorem pollStation_frame (s : State) (st : Fin 16) :
    (pollStation s st).siu = s.siu ∧ (pollStation s st).mev = s.mev ∧ (pollStation s st).dtu = s.dtu
      ∧ (pollStation s st).pls = s.pls ∧ (pollStation s st).ptm = s.ptm ∧ (pollStation s st).seq = s.seq
      ∧ (pollStation s st).ctk = s.ctk ∧ (pollStation s st).spu = s.spu ∧ (pollStation s st).jrn = s.jrn
      ∧ (pollStation s st).fmn = s.fmn ∧ (pollStation s st).iml = s.iml ∧ (pollStation s st).free = s.free
      ∧ (pollStation s st).pending = s.pending := by
  simp only [pollStation]
  split <;> simp

/-- `pollConfigured` leaves siu, mev, dtu, pls, ptm, seq, ctk, spu, jrn, fmn, iml, free, pending. -/
@[simp] theorem pollConfigured_frame (s : State) :
    (pollConfigured s).siu = s.siu ∧ (pollConfigured s).mev = s.mev ∧ (pollConfigured s).dtu = s.dtu
      ∧ (pollConfigured s).pls = s.pls ∧ (pollConfigured s).ptm = s.ptm ∧ (pollConfigured s).seq = s.seq
      ∧ (pollConfigured s).ctk = s.ctk ∧ (pollConfigured s).spu = s.spu ∧ (pollConfigured s).jrn = s.jrn
      ∧ (pollConfigured s).fmn = s.fmn ∧ (pollConfigured s).iml = s.iml ∧ (pollConfigured s).free = s.free
      ∧ (pollConfigured s).pending = s.pending := by
  simp [pollConfigured]

end Sys2Proof.Machine
end

