-- ==== Sys2Proof/Laws/Points.lean ====
section
/-! SUPPORT. What the operations of Points.lean and Consent.lean leave of the state. -/

namespace Sys2Proof.Machine

/-- `changePoint` leaves siu, mev, dtu, pls, seq, ctk, flc, iml, free, pending. -/
@[simp] theorem changePoint_frame (p : Fin 64) (new : PointState) (c : Cause) (s : State) :
    (changePoint p new c s).siu = s.siu ∧ (changePoint p new c s).mev = s.mev ∧ (changePoint p new c s).dtu = s.dtu
      ∧ (changePoint p new c s).pls = s.pls ∧ (changePoint p new c s).seq = s.seq ∧ (changePoint p new c s).ctk = s.ctk
      ∧ (changePoint p new c s).flc = s.flc ∧ (changePoint p new c s).iml = s.iml ∧ (changePoint p new c s).free = s.free
      ∧ (changePoint p new c s).pending = s.pending := by
  simp [changePoint]

/-- `settleLamp` leaves siu, mev, dtu, pls, seq, ctk, spu, jrn, fmn, iml, free, pending. -/
@[simp] theorem settleLamp_frame (p : Fin 64) (old : PointState) (s : State) :
    (settleLamp p old s).siu = s.siu ∧ (settleLamp p old s).mev = s.mev ∧ (settleLamp p old s).dtu = s.dtu
      ∧ (settleLamp p old s).pls = s.pls ∧ (settleLamp p old s).seq = s.seq ∧ (settleLamp p old s).ctk = s.ctk
      ∧ (settleLamp p old s).spu = s.spu ∧ (settleLamp p old s).jrn = s.jrn ∧ (settleLamp p old s).fmn = s.fmn
      ∧ (settleLamp p old s).iml = s.iml ∧ (settleLamp p old s).free = s.free ∧ (settleLamp p old s).pending = s.pending := by
  simp only [settleLamp]
  split <;> simp

/-- `movePoint` leaves siu, mev, dtu, pls, seq, ctk, iml, free, pending. -/
@[simp] theorem movePoint_frame (p : Fin 64) (new : PointState) (c : Cause) (s : State) :
    (movePoint p new c s).siu = s.siu ∧ (movePoint p new c s).mev = s.mev ∧ (movePoint p new c s).dtu = s.dtu
      ∧ (movePoint p new c s).pls = s.pls ∧ (movePoint p new c s).seq = s.seq ∧ (movePoint p new c s).ctk = s.ctk
      ∧ (movePoint p new c s).iml = s.iml ∧ (movePoint p new c s).free = s.free
      ∧ (movePoint p new c s).pending = s.pending := by
  simp [movePoint]

/-- `wantShedBare` leaves siu, mev, dtu, pls, seq, ctk, iml, free, pending. -/
@[simp] theorem wantShedBare_frame (p : Fin 64) (c : Cause) (s : State) :
    (wantShedBare p c s).siu = s.siu ∧ (wantShedBare p c s).mev = s.mev ∧ (wantShedBare p c s).dtu = s.dtu
      ∧ (wantShedBare p c s).pls = s.pls ∧ (wantShedBare p c s).seq = s.seq ∧ (wantShedBare p c s).ctk = s.ctk
      ∧ (wantShedBare p c s).iml = s.iml ∧ (wantShedBare p c s).free = s.free ∧ (wantShedBare p c s).pending = s.pending := by
  simp only [wantShedBare]
  split <;> simp

/-- `wantShed` leaves siu, mev, dtu, pls, seq, ctk, iml, free, pending. -/
@[simp] theorem wantShed_frame (p : Fin 64) (c : Cause) (s : State) :
    (wantShed p c s).siu = s.siu ∧ (wantShed p c s).mev = s.mev ∧ (wantShed p c s).dtu = s.dtu
      ∧ (wantShed p c s).pls = s.pls ∧ (wantShed p c s).seq = s.seq ∧ (wantShed p c s).ctk = s.ctk
      ∧ (wantShed p c s).iml = s.iml ∧ (wantShed p c s).free = s.free ∧ (wantShed p c s).pending = s.pending := by
  simp [wantShed]

/-- `cancelPoint` leaves siu, mev, dtu, pls, seq, ctk, iml, free, pending. -/
@[simp] theorem cancelPoint_frame (p : Fin 64) (s : State) :
    (cancelPoint p s).siu = s.siu ∧ (cancelPoint p s).mev = s.mev ∧ (cancelPoint p s).dtu = s.dtu
      ∧ (cancelPoint p s).pls = s.pls ∧ (cancelPoint p s).seq = s.seq ∧ (cancelPoint p s).ctk = s.ctk
      ∧ (cancelPoint p s).iml = s.iml ∧ (cancelPoint p s).free = s.free ∧ (cancelPoint p s).pending = s.pending := by
  simp [cancelPoint]

/-- `setTracker` leaves siu, mev, dtu, pls, ptm, seq, flc, jrn, fmn, iml, free, pending. -/
@[simp] theorem setTracker_frame (t : Tracker) (s : State) :
    (setTracker t s).siu = s.siu ∧ (setTracker t s).mev = s.mev ∧ (setTracker t s).dtu = s.dtu
      ∧ (setTracker t s).pls = s.pls ∧ (setTracker t s).ptm = s.ptm ∧ (setTracker t s).seq = s.seq
      ∧ (setTracker t s).flc = s.flc ∧ (setTracker t s).jrn = s.jrn ∧ (setTracker t s).fmn = s.fmn
      ∧ (setTracker t s).iml = s.iml ∧ (setTracker t s).free = s.free ∧ (setTracker t s).pending = s.pending := by
  simp only [setTracker]
  split <;> simp

/-- `dropConsent` leaves siu, mev, dtu, pls, ptm, seq, flc, iml, free, pending. -/
@[simp] theorem dropConsent_frame (mark : ConsentMark) (s : State) :
    (dropConsent mark s).siu = s.siu ∧ (dropConsent mark s).mev = s.mev ∧ (dropConsent mark s).dtu = s.dtu
      ∧ (dropConsent mark s).pls = s.pls ∧ (dropConsent mark s).ptm = s.ptm ∧ (dropConsent mark s).seq = s.seq
      ∧ (dropConsent mark s).flc = s.flc ∧ (dropConsent mark s).iml = s.iml ∧ (dropConsent mark s).free = s.free
      ∧ (dropConsent mark s).pending = s.pending := by
  simp only [dropConsent]
  split <;> simp

/-- `trackerEnterHalted` leaves siu, mev, dtu, pls, ptm, seq, flc, jrn, fmn, iml, free, pending. -/
@[simp] theorem trackerEnterHalted_frame (s : State) :
    (trackerEnterHalted s).siu = s.siu ∧ (trackerEnterHalted s).mev = s.mev ∧ (trackerEnterHalted s).dtu = s.dtu
      ∧ (trackerEnterHalted s).pls = s.pls ∧ (trackerEnterHalted s).ptm = s.ptm ∧ (trackerEnterHalted s).seq = s.seq
      ∧ (trackerEnterHalted s).flc = s.flc ∧ (trackerEnterHalted s).jrn = s.jrn ∧ (trackerEnterHalted s).fmn = s.fmn
      ∧ (trackerEnterHalted s).iml = s.iml ∧ (trackerEnterHalted s).free = s.free
      ∧ (trackerEnterHalted s).pending = s.pending := by
  simp only [trackerEnterHalted]
  split <;> simp

/-- `trackerLeaveHalted` leaves siu, mev, dtu, pls, ptm, seq, flc, iml, free, pending. -/
@[simp] theorem trackerLeaveHalted_frame (s : State) :
    (trackerLeaveHalted s).siu = s.siu ∧ (trackerLeaveHalted s).mev = s.mev ∧ (trackerLeaveHalted s).dtu = s.dtu
      ∧ (trackerLeaveHalted s).pls = s.pls ∧ (trackerLeaveHalted s).ptm = s.ptm ∧ (trackerLeaveHalted s).seq = s.seq
      ∧ (trackerLeaveHalted s).flc = s.flc ∧ (trackerLeaveHalted s).iml = s.iml ∧ (trackerLeaveHalted s).free = s.free
      ∧ (trackerLeaveHalted s).pending = s.pending := by
  simp only [trackerLeaveHalted]
  split <;> simp

/-- `trackerQuietReached` leaves siu, mev, dtu, pls, ptm, seq, flc, jrn, fmn, iml, free, pending. -/
@[simp] theorem trackerQuietReached_frame (s : State) :
    (trackerQuietReached s).siu = s.siu ∧ (trackerQuietReached s).mev = s.mev ∧ (trackerQuietReached s).dtu = s.dtu
      ∧ (trackerQuietReached s).pls = s.pls ∧ (trackerQuietReached s).ptm = s.ptm ∧ (trackerQuietReached s).seq = s.seq
      ∧ (trackerQuietReached s).flc = s.flc ∧ (trackerQuietReached s).jrn = s.jrn ∧ (trackerQuietReached s).fmn = s.fmn
      ∧ (trackerQuietReached s).iml = s.iml ∧ (trackerQuietReached s).free = s.free
      ∧ (trackerQuietReached s).pending = s.pending := by
  simp only [trackerQuietReached]
  split <;> simp

/-- `trackerQuietCleared` leaves siu, mev, dtu, pls, ptm, seq, flc, iml, free, pending. -/
@[simp] theorem trackerQuietCleared_frame (s : State) :
    (trackerQuietCleared s).siu = s.siu ∧ (trackerQuietCleared s).mev = s.mev ∧ (trackerQuietCleared s).dtu = s.dtu
      ∧ (trackerQuietCleared s).pls = s.pls ∧ (trackerQuietCleared s).ptm = s.ptm ∧ (trackerQuietCleared s).seq = s.seq
      ∧ (trackerQuietCleared s).flc = s.flc ∧ (trackerQuietCleared s).iml = s.iml ∧ (trackerQuietCleared s).free = s.free
      ∧ (trackerQuietCleared s).pending = s.pending := by
  simp only [trackerQuietCleared]
  split <;> simp

/-- `consentBackToOpen` leaves siu, mev, dtu, pls, ptm, seq, flc, iml, free, pending. -/
@[simp] theorem consentBackToOpen_frame (mark : ConsentMark) (s : State) :
    (consentBackToOpen mark s).siu = s.siu ∧ (consentBackToOpen mark s).mev = s.mev
      ∧ (consentBackToOpen mark s).dtu = s.dtu ∧ (consentBackToOpen mark s).pls = s.pls
      ∧ (consentBackToOpen mark s).ptm = s.ptm ∧ (consentBackToOpen mark s).seq = s.seq
      ∧ (consentBackToOpen mark s).flc = s.flc ∧ (consentBackToOpen mark s).iml = s.iml
      ∧ (consentBackToOpen mark s).free = s.free ∧ (consentBackToOpen mark s).pending = s.pending := by
  simp [consentBackToOpen]

/-- `setSequence` leaves siu, mev, dtu, pls, ptm, ctk, flc, iml, free, pending. -/
@[simp] theorem setSequence_frame (new : SeqState) (s : State) :
    (setSequence new s).siu = s.siu ∧ (setSequence new s).mev = s.mev ∧ (setSequence new s).dtu = s.dtu
      ∧ (setSequence new s).pls = s.pls ∧ (setSequence new s).ptm = s.ptm ∧ (setSequence new s).ctk = s.ctk
      ∧ (setSequence new s).flc = s.flc ∧ (setSequence new s).iml = s.iml ∧ (setSequence new s).free = s.free
      ∧ (setSequence new s).pending = s.pending := by
  simp [setSequence]

/-- `enterHalted` leaves siu, mev, dtu, pls, ptm, flc, iml, free, pending. -/
@[simp] theorem enterHalted_frame (s : State) :
    (enterHalted s).siu = s.siu ∧ (enterHalted s).mev = s.mev ∧ (enterHalted s).dtu = s.dtu ∧ (enterHalted s).pls = s.pls
      ∧ (enterHalted s).ptm = s.ptm ∧ (enterHalted s).flc = s.flc ∧ (enterHalted s).iml = s.iml
      ∧ (enterHalted s).free = s.free ∧ (enterHalted s).pending = s.pending := by
  simp [enterHalted]

/-- `setShedding` leaves siu, mev, dtu, pls, ptm, flc, iml, free, pending. -/
@[simp] theorem setShedding_frame (s : State) :
    (setShedding s).siu = s.siu ∧ (setShedding s).mev = s.mev ∧ (setShedding s).dtu = s.dtu ∧ (setShedding s).pls = s.pls
      ∧ (setShedding s).ptm = s.ptm ∧ (setShedding s).flc = s.flc ∧ (setShedding s).iml = s.iml
      ∧ (setShedding s).free = s.free ∧ (setShedding s).pending = s.pending := by
  simp [setShedding]

end Sys2Proof.Machine
end

