-- ==== Sys2Proof/Laws/Sequencer.lean ====
section
/-! SUPPORT. What the operations of Sequencer.lean leave of the state. -/

namespace Sys2Proof.Machine

/-- `resetPeaks` leaves siu, dtu, pls, ptm, seq, ctk, flc, spu, jrn, fmn, iml, free, pending. -/
@[simp] theorem resetPeaks_frame (s : State) :
    (resetPeaks s).siu = s.siu ∧ (resetPeaks s).dtu = s.dtu ∧ (resetPeaks s).pls = s.pls ∧ (resetPeaks s).ptm = s.ptm
      ∧ (resetPeaks s).seq = s.seq ∧ (resetPeaks s).ctk = s.ctk ∧ (resetPeaks s).flc = s.flc ∧ (resetPeaks s).spu = s.spu
      ∧ (resetPeaks s).jrn = s.jrn ∧ (resetPeaks s).fmn = s.fmn ∧ (resetPeaks s).iml = s.iml
      ∧ (resetPeaks s).free = s.free ∧ (resetPeaks s).pending = s.pending := by
  simp [resetPeaks]

/-- `openEvent` leaves siu, dtu, pls, ptm, ctk, flc, iml, free, pending. -/
@[simp] theorem openEvent_frame (s : State) :
    (openEvent s).siu = s.siu ∧ (openEvent s).dtu = s.dtu ∧ (openEvent s).pls = s.pls ∧ (openEvent s).ptm = s.ptm
      ∧ (openEvent s).ctk = s.ctk ∧ (openEvent s).flc = s.flc ∧ (openEvent s).iml = s.iml ∧ (openEvent s).free = s.free
      ∧ (openEvent s).pending = s.pending := by
  simp [openEvent]

/-- `releaseLine` leaves siu, mev, pls, ptm, seq, ctk, flc, iml, free, pending. -/
@[simp] theorem releaseLine_frame (l : Fin 4) (s : State) :
    (releaseLine l s).siu = s.siu ∧ (releaseLine l s).mev = s.mev ∧ (releaseLine l s).pls = s.pls
      ∧ (releaseLine l s).ptm = s.ptm ∧ (releaseLine l s).seq = s.seq ∧ (releaseLine l s).ctk = s.ctk
      ∧ (releaseLine l s).flc = s.flc ∧ (releaseLine l s).iml = s.iml ∧ (releaseLine l s).free = s.free
      ∧ (releaseLine l s).pending = s.pending := by
  simp only [releaseLine]
  split <;> simp

/-- `releaseLines` leaves siu, mev, pls, ptm, seq, ctk, flc, iml, free, pending. -/
@[simp] theorem releaseLines_frame (s : State) :
    (releaseLines s).siu = s.siu ∧ (releaseLines s).mev = s.mev ∧ (releaseLines s).pls = s.pls
      ∧ (releaseLines s).ptm = s.ptm ∧ (releaseLines s).seq = s.seq ∧ (releaseLines s).ctk = s.ctk
      ∧ (releaseLines s).flc = s.flc ∧ (releaseLines s).iml = s.iml ∧ (releaseLines s).free = s.free
      ∧ (releaseLines s).pending = s.pending := by
  simp [releaseLines]

/-- `shedStepPoint` leaves siu, mev, dtu, pls, seq, ctk, iml, free, pending. -/
@[simp] theorem shedStepPoint_frame (s : State) (p : Fin 64) :
    (shedStepPoint s p).siu = s.siu ∧ (shedStepPoint s p).mev = s.mev ∧ (shedStepPoint s p).dtu = s.dtu
      ∧ (shedStepPoint s p).pls = s.pls ∧ (shedStepPoint s p).seq = s.seq ∧ (shedStepPoint s p).ctk = s.ctk
      ∧ (shedStepPoint s p).iml = s.iml ∧ (shedStepPoint s p).free = s.free ∧ (shedStepPoint s p).pending = s.pending := by
  simp only [shedStepPoint]
  (repeat' split) <;> simp

/-- `startShedStep` leaves siu, mev, dtu, pls, ctk, iml, free, pending. -/
@[simp] theorem startShedStep_frame (k : Nat) (s : State) :
    (startShedStep k s).siu = s.siu ∧ (startShedStep k s).mev = s.mev ∧ (startShedStep k s).dtu = s.dtu
      ∧ (startShedStep k s).pls = s.pls ∧ (startShedStep k s).ctk = s.ctk ∧ (startShedStep k s).iml = s.iml
      ∧ (startShedStep k s).free = s.free ∧ (startShedStep k s).pending = s.pending := by
  simp [startShedStep]

/-- `afterShedDone` leaves siu, mev, dtu, pls, iml, free, pending. -/
@[simp] theorem afterShedDone_frame (k : Nat) (s : State) :
    (afterShedDone k s).siu = s.siu ∧ (afterShedDone k s).mev = s.mev ∧ (afterShedDone k s).dtu = s.dtu
      ∧ (afterShedDone k s).pls = s.pls ∧ (afterShedDone k s).iml = s.iml ∧ (afterShedDone k s).free = s.free
      ∧ (afterShedDone k s).pending = s.pending := by
  simp only [afterShedDone]
  split <;> simp

/-- `shedStepDone` leaves siu, mev, dtu, pls, iml, free, pending. -/
@[simp] theorem shedStepDone_frame (k : Nat) (s : State) :
    (shedStepDone k s).siu = s.siu ∧ (shedStepDone k s).mev = s.mev ∧ (shedStepDone k s).dtu = s.dtu
      ∧ (shedStepDone k s).pls = s.pls ∧ (shedStepDone k s).iml = s.iml ∧ (shedStepDone k s).free = s.free
      ∧ (shedStepDone k s).pending = s.pending := by
  simp [shedStepDone]

/-- `withdrawManual` leaves siu, mev, dtu, pls, seq, ctk, iml, free, pending. -/
@[simp] theorem withdrawManual_frame (s : State) (p : Fin 64) :
    (withdrawManual s p).siu = s.siu ∧ (withdrawManual s p).mev = s.mev ∧ (withdrawManual s p).dtu = s.dtu
      ∧ (withdrawManual s p).pls = s.pls ∧ (withdrawManual s p).seq = s.seq ∧ (withdrawManual s p).ctk = s.ctk
      ∧ (withdrawManual s p).iml = s.iml ∧ (withdrawManual s p).free = s.free ∧ (withdrawManual s p).pending = s.pending := by
  simp only [withdrawManual]
  (repeat' split) <;> simp

/-- `shedFromWatch` leaves siu, mev, dtu, pls, iml, free, pending. -/
@[simp] theorem shedFromWatch_frame (s : State) :
    (shedFromWatch s).siu = s.siu ∧ (shedFromWatch s).mev = s.mev ∧ (shedFromWatch s).dtu = s.dtu
      ∧ (shedFromWatch s).pls = s.pls ∧ (shedFromWatch s).iml = s.iml ∧ (shedFromWatch s).free = s.free
      ∧ (shedFromWatch s).pending = s.pending := by
  simp [shedFromWatch]

/-- `shedFromHalted` leaves siu, mev, dtu, pls, iml, free, pending. -/
@[simp] theorem shedFromHalted_frame (s : State) :
    (shedFromHalted s).siu = s.siu ∧ (shedFromHalted s).mev = s.mev ∧ (shedFromHalted s).dtu = s.dtu
      ∧ (shedFromHalted s).pls = s.pls ∧ (shedFromHalted s).iml = s.iml ∧ (shedFromHalted s).free = s.free
      ∧ (shedFromHalted s).pending = s.pending := by
  simp [shedFromHalted]

/-- `checkShedding` leaves siu, mev, dtu, pls, iml, free, pending. -/
@[simp] theorem checkShedding_frame (s : State) :
    (checkShedding s).siu = s.siu ∧ (checkShedding s).mev = s.mev ∧ (checkShedding s).dtu = s.dtu
      ∧ (checkShedding s).pls = s.pls ∧ (checkShedding s).iml = s.iml ∧ (checkShedding s).free = s.free
      ∧ (checkShedding s).pending = s.pending := by
  simp only [checkShedding]
  (repeat' split) <;> simp

/-- `closeEvent` leaves siu, pls, iml, free, pending. -/
@[simp] theorem closeEvent_frame (s : State) :
    (closeEvent s).siu = s.siu ∧ (closeEvent s).pls = s.pls ∧ (closeEvent s).iml = s.iml ∧ (closeEvent s).free = s.free
      ∧ (closeEvent s).pending = s.pending := by
  simp only [closeEvent]
  split <;> simp

/-- `quietRule` leaves siu, pls, iml, free, pending. -/
@[simp] theorem quietRule_frame (s : State) :
    (quietRule s).siu = s.siu ∧ (quietRule s).pls = s.pls ∧ (quietRule s).iml = s.iml ∧ (quietRule s).free = s.free
      ∧ (quietRule s).pending = s.pending := by
  simp only [quietRule]
  split <;> simp

/-- `enforce` leaves siu, mev, dtu, pls, seq, ctk, iml, free, pending. -/
@[simp] theorem enforce_frame (p : Fin 64) (s : State) :
    (enforce p s).siu = s.siu ∧ (enforce p s).mev = s.mev ∧ (enforce p s).dtu = s.dtu ∧ (enforce p s).pls = s.pls
      ∧ (enforce p s).seq = s.seq ∧ (enforce p s).ctk = s.ctk ∧ (enforce p s).iml = s.iml ∧ (enforce p s).free = s.free
      ∧ (enforce p s).pending = s.pending := by
  simp only [enforce]
  split <;> simp

/-- `enforceAtStart` leaves siu, mev, dtu, pls, seq, ctk, iml, free, pending. -/
@[simp] theorem enforceAtStart_frame (s : State) (p : Fin 64) :
    (enforceAtStart s p).siu = s.siu ∧ (enforceAtStart s p).mev = s.mev ∧ (enforceAtStart s p).dtu = s.dtu
      ∧ (enforceAtStart s p).pls = s.pls ∧ (enforceAtStart s p).seq = s.seq ∧ (enforceAtStart s p).ctk = s.ctk
      ∧ (enforceAtStart s p).iml = s.iml ∧ (enforceAtStart s p).free = s.free ∧ (enforceAtStart s p).pending = s.pending := by
  simp only [enforceAtStart]
  split <;> simp

/-- `startupDecision` leaves siu, pls, iml, free, pending. -/
@[simp] theorem startupDecision_frame (s : State) :
    (startupDecision s).siu = s.siu ∧ (startupDecision s).pls = s.pls ∧ (startupDecision s).iml = s.iml
      ∧ (startupDecision s).free = s.free ∧ (startupDecision s).pending = s.pending := by
  simp only [startupDecision]
  (repeat' split) <;> simp

/-- `checkRound` leaves siu, pls, iml, free, pending. -/
@[simp] theorem checkRound_frame (s : State) :
    (checkRound s).siu = s.siu ∧ (checkRound s).pls = s.pls ∧ (checkRound s).iml = s.iml ∧ (checkRound s).free = s.free
      ∧ (checkRound s).pending = s.pending := by
  simp only [checkRound]
  split <;> simp

/-- `placeAwait` leaves siu, mev, dtu, pls, seq, ctk, iml, free, pending. -/
@[simp] theorem placeAwait_frame (p : Fin 64) (s : State) :
    (placeAwait p s).siu = s.siu ∧ (placeAwait p s).mev = s.mev ∧ (placeAwait p s).dtu = s.dtu
      ∧ (placeAwait p s).pls = s.pls ∧ (placeAwait p s).seq = s.seq ∧ (placeAwait p s).ctk = s.ctk
      ∧ (placeAwait p s).iml = s.iml ∧ (placeAwait p s).free = s.free ∧ (placeAwait p s).pending = s.pending := by
  simp [placeAwait]

/-- `restartStepPoint` leaves siu, mev, dtu, pls, seq, ctk, iml, free, pending. -/
@[simp] theorem restartStepPoint_frame (s : State) (p : Fin 64) :
    (restartStepPoint s p).siu = s.siu ∧ (restartStepPoint s p).mev = s.mev ∧ (restartStepPoint s p).dtu = s.dtu
      ∧ (restartStepPoint s p).pls = s.pls ∧ (restartStepPoint s p).seq = s.seq ∧ (restartStepPoint s p).ctk = s.ctk
      ∧ (restartStepPoint s p).iml = s.iml ∧ (restartStepPoint s p).free = s.free
      ∧ (restartStepPoint s p).pending = s.pending := by
  simp only [restartStepPoint]
  split <;> simp

/-- `startRestartStep` leaves siu, mev, dtu, pls, ctk, iml, free, pending. -/
@[simp] theorem startRestartStep_frame (k : Nat) (s : State) :
    (startRestartStep k s).siu = s.siu ∧ (startRestartStep k s).mev = s.mev ∧ (startRestartStep k s).dtu = s.dtu
      ∧ (startRestartStep k s).pls = s.pls ∧ (startRestartStep k s).ctk = s.ctk ∧ (startRestartStep k s).iml = s.iml
      ∧ (startRestartStep k s).free = s.free ∧ (startRestartStep k s).pending = s.pending := by
  simp [startRestartStep]

/-- `afterRestartDone` leaves siu, mev, dtu, pls, ctk, iml, free, pending. -/
@[simp] theorem afterRestartDone_frame (k : Nat) (s : State) :
    (afterRestartDone k s).siu = s.siu ∧ (afterRestartDone k s).mev = s.mev ∧ (afterRestartDone k s).dtu = s.dtu
      ∧ (afterRestartDone k s).pls = s.pls ∧ (afterRestartDone k s).ctk = s.ctk ∧ (afterRestartDone k s).iml = s.iml
      ∧ (afterRestartDone k s).free = s.free ∧ (afterRestartDone k s).pending = s.pending := by
  simp only [afterRestartDone]
  split <;> simp

/-- `restartStepDone` leaves siu, mev, dtu, pls, ctk, iml, free, pending. -/
@[simp] theorem restartStepDone_frame (k : Nat) (s : State) :
    (restartStepDone k s).siu = s.siu ∧ (restartStepDone k s).mev = s.mev ∧ (restartStepDone k s).dtu = s.dtu
      ∧ (restartStepDone k s).pls = s.pls ∧ (restartStepDone k s).ctk = s.ctk ∧ (restartStepDone k s).iml = s.iml
      ∧ (restartStepDone k s).free = s.free ∧ (restartStepDone k s).pending = s.pending := by
  simp [restartStepDone]

/-- `completeRestart` leaves siu, pls, iml, free, pending. -/
@[simp] theorem completeRestart_frame (s : State) :
    (completeRestart s).siu = s.siu ∧ (completeRestart s).pls = s.pls ∧ (completeRestart s).iml = s.iml
      ∧ (completeRestart s).free = s.free ∧ (completeRestart s).pending = s.pending := by
  simp [completeRestart]

/-- `beginRestart` leaves siu, mev, dtu, pls, ctk, iml, free, pending. -/
@[simp] theorem beginRestart_frame (s : State) :
    (beginRestart s).siu = s.siu ∧ (beginRestart s).mev = s.mev ∧ (beginRestart s).dtu = s.dtu
      ∧ (beginRestart s).pls = s.pls ∧ (beginRestart s).ctk = s.ctk ∧ (beginRestart s).iml = s.iml
      ∧ (beginRestart s).free = s.free ∧ (beginRestart s).pending = s.pending := by
  simp only [beginRestart]
  split <;> simp

/-- `gatePost` leaves siu, mev, dtu, pls, seq, ctk, iml, free, pending. -/
@[simp] theorem gatePost_frame (p : Fin 64) (s : State) :
    (gatePost p s).siu = s.siu ∧ (gatePost p s).mev = s.mev ∧ (gatePost p s).dtu = s.dtu ∧ (gatePost p s).pls = s.pls
      ∧ (gatePost p s).seq = s.seq ∧ (gatePost p s).ctk = s.ctk ∧ (gatePost p s).iml = s.iml
      ∧ (gatePost p s).free = s.free ∧ (gatePost p s).pending = s.pending := by
  simp [gatePost]

/-- The four things that can follow of themselves. -/
theorem settleOnce_cases {s s' : State} (h : settleOnce s = some s') :
    s' = shedStepDone s.seq.pointer s ∨ s' = restartStepDone s.seq.restartPointer s ∨ s' = completeRestart s
      ∨ ∃ p, s' = gatePost p s := by
  unfold settleOnce at h
  split at h
  · exact .inl (Option.some.inj h).symm
  split at h
  · exact .inr (.inl (Option.some.inj h).symm)
  split at h
  · exact .inr (.inr (.inl (Option.some.inj h).symm))
  split at h
  · exact .inr (.inr (.inr ⟨_, (Option.some.inj h).symm⟩))
  · cases h

/-- What each thing that follows keeps, `settleFor` keeps. -/
theorem settleFor_keeps (P : State → Prop) (hP : ∀ s s', P s → settleOnce s = some s' → P s') (n : Nat) (s : State)
    (h : P s) : P (settleFor n s) := by
  induction n generalizing s with
  | zero => exact h
  | succ n ih =>
    simp only [settleFor]
    split
    · exact h
    · next s' hs => exact ih s' (hP s s' h hs)

/-- `settleFor` leaves siu, pls, iml, free, pending. -/
@[simp] theorem settleFor_frame (n : Nat) (s : State) :
    (settleFor n s).siu = s.siu ∧ (settleFor n s).pls = s.pls ∧ (settleFor n s).iml = s.iml
      ∧ (settleFor n s).free = s.free ∧ (settleFor n s).pending = s.pending := by
  refine settleFor_keeps (fun t => t.siu = s.siu ∧ t.pls = s.pls ∧ t.iml = s.iml ∧ t.free = s.free
      ∧ t.pending = s.pending) ?_ n s ?_
  · intro t t' ht h
    rcases settleOnce_cases h with h | h | h | ⟨p, h⟩
    · rw [h]; simpa only [shedStepDone_frame] using ht
    · rw [h]; simpa only [restartStepDone_frame] using ht
    · rw [h]; simpa only [completeRestart_frame] using ht
    · rw [h]; simpa only [gatePost_frame] using ht
  · simp

/-- `settle` leaves siu, pls, iml, free, pending. -/
@[simp] theorem settle_frame (s : State) :
    (settle s).siu = s.siu ∧ (settle s).pls = s.pls ∧ (settle s).iml = s.iml ∧ (settle s).free = s.free
      ∧ (settle s).pending = s.pending := by
  simp [settle]

/-- `stopRestartStep` leaves siu, mev, dtu, pls, ptm, ctk, flc, spu, jrn, fmn, iml, free, pending. -/
@[simp] theorem stopRestartStep_frame (s : State) :
    (stopRestartStep s).siu = s.siu ∧ (stopRestartStep s).mev = s.mev ∧ (stopRestartStep s).dtu = s.dtu
      ∧ (stopRestartStep s).pls = s.pls ∧ (stopRestartStep s).ptm = s.ptm ∧ (stopRestartStep s).ctk = s.ctk
      ∧ (stopRestartStep s).flc = s.flc ∧ (stopRestartStep s).spu = s.spu ∧ (stopRestartStep s).jrn = s.jrn
      ∧ (stopRestartStep s).fmn = s.fmn ∧ (stopRestartStep s).iml = s.iml ∧ (stopRestartStep s).free = s.free
      ∧ (stopRestartStep s).pending = s.pending := by
  simp only [stopRestartStep]
  split <;> simp

/-- `cancelPendingRestore` leaves siu, mev, dtu, pls, seq, ctk, iml, free, pending. -/
@[simp] theorem cancelPendingRestore_frame (s : State) (p : Fin 64) :
    (cancelPendingRestore s p).siu = s.siu ∧ (cancelPendingRestore s p).mev = s.mev
      ∧ (cancelPendingRestore s p).dtu = s.dtu ∧ (cancelPendingRestore s p).pls = s.pls
      ∧ (cancelPendingRestore s p).seq = s.seq ∧ (cancelPendingRestore s p).ctk = s.ctk
      ∧ (cancelPendingRestore s p).iml = s.iml ∧ (cancelPendingRestore s p).free = s.free
      ∧ (cancelPendingRestore s p).pending = s.pending := by
  simp only [cancelPendingRestore]
  split <;> simp

/-- `shedInFlightRestore` leaves siu, mev, dtu, pls, seq, ctk, iml, free, pending. -/
@[simp] theorem shedInFlightRestore_frame (s : State) (p : Fin 64) :
    (shedInFlightRestore s p).siu = s.siu ∧ (shedInFlightRestore s p).mev = s.mev ∧ (shedInFlightRestore s p).dtu = s.dtu
      ∧ (shedInFlightRestore s p).pls = s.pls ∧ (shedInFlightRestore s p).seq = s.seq
      ∧ (shedInFlightRestore s p).ctk = s.ctk ∧ (shedInFlightRestore s p).iml = s.iml
      ∧ (shedInFlightRestore s p).free = s.free ∧ (shedInFlightRestore s p).pending = s.pending := by
  simp only [shedInFlightRestore]
  split <;> simp

/-- `cancelAwait` leaves siu, mev, dtu, pls, seq, ctk, iml, free, pending. -/
@[simp] theorem cancelAwait_frame (s : State) (p : Fin 64) :
    (cancelAwait s p).siu = s.siu ∧ (cancelAwait s p).mev = s.mev ∧ (cancelAwait s p).dtu = s.dtu
      ∧ (cancelAwait s p).pls = s.pls ∧ (cancelAwait s p).seq = s.seq ∧ (cancelAwait s p).ctk = s.ctk
      ∧ (cancelAwait s p).iml = s.iml ∧ (cancelAwait s p).free = s.free ∧ (cancelAwait s p).pending = s.pending := by
  simp only [cancelAwait]
  split <;> simp

/-- `abortRestart` leaves siu, mev, dtu, pls, iml, free, pending. -/
@[simp] theorem abortRestart_frame (s : State) :
    (abortRestart s).siu = s.siu ∧ (abortRestart s).mev = s.mev ∧ (abortRestart s).dtu = s.dtu
      ∧ (abortRestart s).pls = s.pls ∧ (abortRestart s).iml = s.iml ∧ (abortRestart s).free = s.free
      ∧ (abortRestart s).pending = s.pending := by
  simp [abortRestart]

/-- `vetoStop` leaves siu, mev, dtu, pls, iml, free, pending. -/
@[simp] theorem vetoStop_frame (s : State) :
    (vetoStop s).siu = s.siu ∧ (vetoStop s).mev = s.mev ∧ (vetoStop s).dtu = s.dtu ∧ (vetoStop s).pls = s.pls
      ∧ (vetoStop s).iml = s.iml ∧ (vetoStop s).free = s.free ∧ (vetoStop s).pending = s.pending := by
  simp [vetoStop]

/-- `cutGrace` leaves siu, mev, dtu, pls, seq, ctk, iml, free, pending. -/
@[simp] theorem cutGrace_frame (s : State) (p : Fin 64) :
    (cutGrace s p).siu = s.siu ∧ (cutGrace s p).mev = s.mev ∧ (cutGrace s p).dtu = s.dtu ∧ (cutGrace s p).pls = s.pls
      ∧ (cutGrace s p).seq = s.seq ∧ (cutGrace s p).ctk = s.ctk ∧ (cutGrace s p).iml = s.iml
      ∧ (cutGrace s p).free = s.free ∧ (cutGrace s p).pending = s.pending := by
  simp only [cutGrace]
  split <;> simp

/-- `eventAtLevel` leaves siu, dtu, pls, ptm, ctk, flc, iml, free, pending. -/
@[simp] theorem eventAtLevel_frame (s : State) :
    (eventAtLevel s).siu = s.siu ∧ (eventAtLevel s).dtu = s.dtu ∧ (eventAtLevel s).pls = s.pls
      ∧ (eventAtLevel s).ptm = s.ptm ∧ (eventAtLevel s).ctk = s.ctk ∧ (eventAtLevel s).flc = s.flc
      ∧ (eventAtLevel s).iml = s.iml ∧ (eventAtLevel s).free = s.free ∧ (eventAtLevel s).pending = s.pending := by
  simp only [eventAtLevel]
  (repeat' split) <;> simp

/-- `sequencerAtLevel` leaves siu, pls, iml, free, pending. -/
@[simp] theorem sequencerAtLevel_frame (s : State) :
    (sequencerAtLevel s).siu = s.siu ∧ (sequencerAtLevel s).pls = s.pls ∧ (sequencerAtLevel s).iml = s.iml
      ∧ (sequencerAtLevel s).free = s.free ∧ (sequencerAtLevel s).pending = s.pending := by
  simp only [sequencerAtLevel]
  (repeat' split) <;> simp

end Sys2Proof.Machine
end

