-- ==== Sys2Proof/Laws/Motion.lean ====
section
/-! SUPPORT. What the operations of Motion.lean leave of the state. -/

namespace Sys2Proof.Machine

/-- `clearQuiet` leaves siu, dtu, pls, ptm, seq, flc, iml, free, pending. -/
@[simp] theorem clearQuiet_frame (s : State) :
    (clearQuiet s).siu = s.siu ∧ (clearQuiet s).dtu = s.dtu ∧ (clearQuiet s).pls = s.pls ∧ (clearQuiet s).ptm = s.ptm
      ∧ (clearQuiet s).seq = s.seq ∧ (clearQuiet s).flc = s.flc ∧ (clearQuiet s).iml = s.iml
      ∧ (clearQuiet s).free = s.free ∧ (clearQuiet s).pending = s.pending := by
  simp only [clearQuiet]
  split <;> simp

/-- `assertLine` leaves siu, mev, pls, ptm, seq, ctk, flc, iml, free, pending. -/
@[simp] theorem assertLine_frame (l : Fin 4) (s : State) :
    (assertLine l s).siu = s.siu ∧ (assertLine l s).mev = s.mev ∧ (assertLine l s).pls = s.pls
      ∧ (assertLine l s).ptm = s.ptm ∧ (assertLine l s).seq = s.seq ∧ (assertLine l s).ctk = s.ctk
      ∧ (assertLine l s).flc = s.flc ∧ (assertLine l s).iml = s.iml ∧ (assertLine l s).free = s.free
      ∧ (assertLine l s).pending = s.pending := by
  simp only [assertLine]
  split <;> simp

/-- `assertLines` leaves siu, mev, pls, ptm, seq, ctk, flc, iml, free, pending. -/
@[simp] theorem assertLines_frame (s : State) :
    (assertLines s).siu = s.siu ∧ (assertLines s).mev = s.mev ∧ (assertLines s).pls = s.pls ∧ (assertLines s).ptm = s.ptm
      ∧ (assertLines s).seq = s.seq ∧ (assertLines s).ctk = s.ctk ∧ (assertLines s).flc = s.flc
      ∧ (assertLines s).iml = s.iml ∧ (assertLines s).free = s.free ∧ (assertLines s).pending = s.pending := by
  simp [assertLines]

/-- `noPlanTrip` leaves siu, mev, dtu, pls, ptm, seq, ctk, spu, jrn, fmn, iml, free, pending. -/
@[simp] theorem noPlanTrip_frame (s : State) :
    (noPlanTrip s).siu = s.siu ∧ (noPlanTrip s).mev = s.mev ∧ (noPlanTrip s).dtu = s.dtu ∧ (noPlanTrip s).pls = s.pls
      ∧ (noPlanTrip s).ptm = s.ptm ∧ (noPlanTrip s).seq = s.seq ∧ (noPlanTrip s).ctk = s.ctk ∧ (noPlanTrip s).spu = s.spu
      ∧ (noPlanTrip s).jrn = s.jrn ∧ (noPlanTrip s).fmn = s.fmn ∧ (noPlanTrip s).iml = s.iml
      ∧ (noPlanTrip s).free = s.free ∧ (noPlanTrip s).pending = s.pending := by
  simp only [noPlanTrip]
  split <;> simp

/-- `changeLevel` leaves siu, pls, iml, free, pending. -/
@[simp] theorem changeLevel_frame (new : Level) (s : State) :
    (changeLevel new s).siu = s.siu ∧ (changeLevel new s).pls = s.pls ∧ (changeLevel new s).iml = s.iml
      ∧ (changeLevel new s).free = s.free ∧ (changeLevel new s).pending = s.pending := by
  simp only [changeLevel]
  (repeat' split) <;> simp

/-- `recompute` leaves siu, pls, iml, free, pending. -/
@[simp] theorem recompute_frame (s : State) :
    (recompute s).siu = s.siu ∧ (recompute s).pls = s.pls ∧ (recompute s).iml = s.iml ∧ (recompute s).free = s.free
      ∧ (recompute s).pending = s.pending := by
  simp only [recompute]
  (repeat' split) <;> simp

/-- `healthyCountEdge` leaves siu, dtu, pls, ptm, seq, flc, iml, free, pending. -/
@[simp] theorem healthyCountEdge_frame (h : Nat) (s : State) :
    (healthyCountEdge h s).siu = s.siu ∧ (healthyCountEdge h s).dtu = s.dtu ∧ (healthyCountEdge h s).pls = s.pls
      ∧ (healthyCountEdge h s).ptm = s.ptm ∧ (healthyCountEdge h s).seq = s.seq ∧ (healthyCountEdge h s).flc = s.flc
      ∧ (healthyCountEdge h s).iml = s.iml ∧ (healthyCountEdge h s).free = s.free
      ∧ (healthyCountEdge h s).pending = s.pending := by
  simp only [healthyCountEdge]
  (repeat' split) <;> simp

/-- Peaks that stand do not rise. -/
@[simp] theorem raisePeak_stand (peak v : Nat) : raisePeak true peak v = peak := rfl

/-- Peaks that do not stand rise to the greater value. -/
@[simp] theorem raisePeak_rise (peak v : Nat) : raisePeak false peak v = max peak v := rfl

/-- A peak never falls where it is raised. -/
theorem le_raisePeak (stand : Bool) (peak v : Nat) : peak ≤ raisePeak stand peak v := by
  cases stand <;> simp

/-- `raisePeakHealthy` changes nothing but the peak healthy index. -/
@[simp] theorem raisePeakHealthy_frame (i : Fin 6) (s : State) :
    (raisePeakHealthy i s).siu = s.siu ∧ (raisePeakHealthy i s).dtu = s.dtu
      ∧ (raisePeakHealthy i s).pls = s.pls ∧ (raisePeakHealthy i s).ptm = s.ptm
      ∧ (raisePeakHealthy i s).seq = s.seq ∧ (raisePeakHealthy i s).ctk = s.ctk
      ∧ (raisePeakHealthy i s).flc = s.flc ∧ (raisePeakHealthy i s).spu = s.spu
      ∧ (raisePeakHealthy i s).jrn = s.jrn ∧ (raisePeakHealthy i s).fmn = s.fmn
      ∧ (raisePeakHealthy i s).iml = s.iml ∧ (raisePeakHealthy i s).free = s.free
      ∧ (raisePeakHealthy i s).pending = s.pending := by
  simp only [raisePeakHealthy]
  split <;> simp

/-- `raisePeakHealthy` leaves every item of the MEV but the peak healthy index. -/
@[simp] theorem raisePeakHealthy_mev (i : Fin 6) (s : State) :
    (raisePeakHealthy i s).mev.evals = s.mev.evals ∧ (raisePeakHealthy i s).mev.level = s.mev.level
      ∧ (raisePeakHealthy i s).mev.healthy = s.mev.healthy ∧ (raisePeakHealthy i s).mev.quiet = s.mev.quiet
      ∧ (raisePeakHealthy i s).mev.quietHanded = s.mev.quietHanded
      ∧ (raisePeakHealthy i s).mev.blindTimer = s.mev.blindTimer ∧ (raisePeakHealthy i s).mev.blind = s.mev.blind
      ∧ (raisePeakHealthy i s).mev.peakLevel = s.mev.peakLevel
      ∧ (raisePeakHealthy i s).mev.peaksStand = s.mev.peaksStand := by
  simp only [raisePeakHealthy]
  split <;> simp

/-- `healthChange` leaves siu, pls, iml, free, pending. -/
@[simp] theorem healthChange_frame (i : Fin 6) (s : State) :
    (healthChange i s).siu = s.siu ∧ (healthChange i s).pls = s.pls ∧ (healthChange i s).iml = s.iml
      ∧ (healthChange i s).free = s.free ∧ (healthChange i s).pending = s.pending := by
  simp [healthChange]

/-- `setHealth` leaves pls, iml, free, pending. -/
@[simp] theorem setHealth_frame (i : Fin 6) (new : Health) (s : State) :
    (setHealth i new s).pls = s.pls ∧ (setHealth i new s).iml = s.iml ∧ (setHealth i new s).free = s.free
      ∧ (setHealth i new s).pending = s.pending := by
  simp [setHealth]

/-- `revote` leaves siu, pls, iml, free, pending. -/
@[simp] theorem revote_frame (i : Fin 6) (old : Level) (s : State) :
    (revote i old s).siu = s.siu ∧ (revote i old s).pls = s.pls ∧ (revote i old s).iml = s.iml
      ∧ (revote i old s).free = s.free ∧ (revote i old s).pending = s.pending := by
  simp only [revote]
  split <;> simp

/-- `clearWindow` leaves siu, pls, iml, free, pending. -/
@[simp] theorem clearWindow_frame (i : Fin 6) (s : State) :
    (clearWindow i s).siu = s.siu ∧ (clearWindow i s).pls = s.pls ∧ (clearWindow i s).iml = s.iml
      ∧ (clearWindow i s).free = s.free ∧ (clearWindow i s).pending = s.pending := by
  simp [clearWindow]

/-- `settleArrival` leaves pls, iml, free, pending. -/
@[simp] theorem settleArrival_frame (i : Fin 6) (s : State) :
    (settleArrival i s).pls = s.pls ∧ (settleArrival i s).iml = s.iml ∧ (settleArrival i s).free = s.free
      ∧ (settleArrival i s).pending = s.pending := by
  simp only [settleArrival]
  (repeat' split) <;> simp

/-- `enterArrival` leaves siu, pls, iml, free, pending. -/
@[simp] theorem enterArrival_frame (i : Fin 6) (v : Nat) (s : State) :
    (enterArrival i v s).siu = s.siu ∧ (enterArrival i v s).pls = s.pls ∧ (enterArrival i v s).iml = s.iml
      ∧ (enterArrival i v s).free = s.free ∧ (enterArrival i v s).pending = s.pending := by
  simp [enterArrival]

/-- `raisePeakShaking` leaves siu, dtu, pls, ptm, seq, ctk, flc, spu, jrn, fmn, iml, free, pending. -/
@[simp] theorem raisePeakShaking_frame (i : Fin 6) (shake : Nat) (s : State) :
    (raisePeakShaking i shake s).siu = s.siu ∧ (raisePeakShaking i shake s).dtu = s.dtu
      ∧ (raisePeakShaking i shake s).pls = s.pls ∧ (raisePeakShaking i shake s).ptm = s.ptm
      ∧ (raisePeakShaking i shake s).seq = s.seq ∧ (raisePeakShaking i shake s).ctk = s.ctk
      ∧ (raisePeakShaking i shake s).flc = s.flc ∧ (raisePeakShaking i shake s).spu = s.spu
      ∧ (raisePeakShaking i shake s).jrn = s.jrn ∧ (raisePeakShaking i shake s).fmn = s.fmn
      ∧ (raisePeakShaking i shake s).iml = s.iml ∧ (raisePeakShaking i shake s).free = s.free
      ∧ (raisePeakShaking i shake s).pending = s.pending := by
  simp [raisePeakShaking]

/-- `arrival` leaves pls, iml, free, pending. -/
@[simp] theorem arrival_frame (i : Fin 6) (v : Nat) (s : State) :
    (arrival i v s).pls = s.pls ∧ (arrival i v s).iml = s.iml ∧ (arrival i v s).free = s.free
      ∧ (arrival i v s).pending = s.pending := by
  simp [arrival]

/-- `takeSample` leaves pls, iml, free, pending. -/
@[simp] theorem takeSample_frame (i : Fin 6) (a : Sample) (s : State) :
    (takeSample i a s).pls = s.pls ∧ (takeSample i a s).iml = s.iml ∧ (takeSample i a s).free = s.free
      ∧ (takeSample i a s).pending = s.pending := by
  simp only [takeSample]
  split <;> simp

/-- `takeFillers` leaves pls, iml, free, pending. -/
@[simp] theorem takeFillers_frame (i : Fin 6) (n : Nat) (s : State) :
    (takeFillers i n s).pls = s.pls ∧ (takeFillers i n s).iml = s.iml ∧ (takeFillers i n s).free = s.free
      ∧ (takeFillers i n s).pending = s.pending := by
  induction n generalizing s with
  | zero => simp [takeFillers]
  | succ n ih => simp [takeFillers, ih]

/-- `countCheckError` leaves mev, dtu, pls, ptm, seq, ctk, flc, iml, free, pending. -/
@[simp] theorem countCheckError_frame (i : Fin 6) (s : State) :
    (countCheckError i s).mev = s.mev ∧ (countCheckError i s).dtu = s.dtu ∧ (countCheckError i s).pls = s.pls
      ∧ (countCheckError i s).ptm = s.ptm ∧ (countCheckError i s).seq = s.seq ∧ (countCheckError i s).ctk = s.ctk
      ∧ (countCheckError i s).flc = s.flc ∧ (countCheckError i s).iml = s.iml ∧ (countCheckError i s).free = s.free
      ∧ (countCheckError i s).pending = s.pending := by
  simp [countCheckError]

/-- `newWindow` leaves pls, iml, free, pending. -/
@[simp] theorem newWindow_frame (i : Fin 6) (seq : Byte) (a : Sample) (s : State) :
    (newWindow i seq a s).pls = s.pls ∧ (newWindow i seq a s).iml = s.iml ∧ (newWindow i seq a s).free = s.free
      ∧ (newWindow i seq a s).pending = s.pending := by
  simp [newWindow]

/-- `startSettling` leaves pls, iml, free, pending. -/
@[simp] theorem startSettling_frame (i : Fin 6) (seq : Byte) (a : Sample) (s : State) :
    (startSettling i seq a s).pls = s.pls ∧ (startSettling i seq a s).iml = s.iml
      ∧ (startSettling i seq a s).free = s.free ∧ (startSettling i seq a s).pending = s.pending := by
  simp [startSettling]

/-- `resettle` leaves pls, iml, free, pending. -/
@[simp] theorem resettle_frame (i : Fin 6) (seq : Byte) (a : Sample) (s : State) :
    (resettle i seq a s).pls = s.pls ∧ (resettle i seq a s).iml = s.iml ∧ (resettle i seq a s).free = s.free
      ∧ (resettle i seq a s).pending = s.pending := by
  simp only [resettle]
  split <;> simp

/-- `continueWindow` leaves pls, iml, free, pending. -/
@[simp] theorem continueWindow_frame (i : Fin 6) (seq : Byte) (a : Sample) (s : State) :
    (continueWindow i seq a s).pls = s.pls ∧ (continueWindow i seq a s).iml = s.iml
      ∧ (continueWindow i seq a s).free = s.free ∧ (continueWindow i seq a s).pending = s.pending := by
  simp only [continueWindow]
  (repeat' split) <;> simp

/-- `validFrame` leaves pls, iml, free, pending. -/
@[simp] theorem validFrame_frame (i : Fin 6) (seq : Byte) (a : Sample) (s : State) :
    (validFrame i seq a s).pls = s.pls ∧ (validFrame i seq a s).iml = s.iml ∧ (validFrame i seq a s).free = s.free
      ∧ (validFrame i seq a s).pending = s.pending := by
  simp only [validFrame]
  split <;> simp

/-- `checkFrame` leaves pls, iml, free, pending. -/
@[simp] theorem checkFrame_frame (i : Fin 6) (bytes : List Byte) (bad : Bool) (s : State) :
    (checkFrame i bytes bad s).pls = s.pls ∧ (checkFrame i bytes bad s).iml = s.iml
      ∧ (checkFrame i bytes bad s).free = s.free ∧ (checkFrame i bytes bad s).pending = s.pending := by
  simp only [checkFrame]
  (repeat' split) <;> simp

/-- `sensorByte` leaves pls, iml, free, pending. -/
@[simp] theorem sensorByte_frame (i : Fin 6) (s : State) (b : LineByte) :
    (sensorByte i s b).pls = s.pls ∧ (sensorByte i s b).iml = s.iml ∧ (sensorByte i s b).free = s.free
      ∧ (sensorByte i s b).pending = s.pending := by
  simp only [sensorByte]
  (repeat' split) <;> simp

/-- `abandonFrame` leaves mev, dtu, pls, ptm, seq, ctk, flc, iml, free, pending. -/
@[simp] theorem abandonFrame_frame (i : Fin 6) (s : State) :
    (abandonFrame i s).mev = s.mev ∧ (abandonFrame i s).dtu = s.dtu ∧ (abandonFrame i s).pls = s.pls
      ∧ (abandonFrame i s).ptm = s.ptm ∧ (abandonFrame i s).seq = s.seq ∧ (abandonFrame i s).ctk = s.ctk
      ∧ (abandonFrame i s).flc = s.flc ∧ (abandonFrame i s).iml = s.iml ∧ (abandonFrame i s).free = s.free
      ∧ (abandonFrame i s).pending = s.pending := by
  simp only [abandonFrame]
  split <;> simp

/-- `gapExpiry` leaves pls, iml, free, pending. -/
@[simp] theorem gapExpiry_frame (i : Fin 6) (s : State) :
    (gapExpiry i s).pls = s.pls ∧ (gapExpiry i s).iml = s.iml ∧ (gapExpiry i s).free = s.free
      ∧ (gapExpiry i s).pending = s.pending := by
  simp only [gapExpiry]
  (repeat' split) <;> simp

end Sys2Proof.Machine
end

