-- ==== Sys2Proof/Laws/Loop.lean ====
section
/-! SUPPORT. What the operations of Resolution.lean, Loop.lean and Timers.lean leave of the state. -/

namespace Sys2Proof.Machine

/-- `warnDone` leaves siu, mev, dtu, pls, seq, ctk, iml, free, pending. -/
@[simp] theorem warnDone_frame (p : Fin 64) (s : State) :
    (warnDone p s).siu = s.siu ∧ (warnDone p s).mev = s.mev ∧ (warnDone p s).dtu = s.dtu ∧ (warnDone p s).pls = s.pls
      ∧ (warnDone p s).seq = s.seq ∧ (warnDone p s).ctk = s.ctk ∧ (warnDone p s).iml = s.iml
      ∧ (warnDone p s).free = s.free ∧ (warnDone p s).pending = s.pending := by
  simp only [warnDone]
  split <;> simp

/-- `restoreDone` leaves siu, mev, dtu, pls, seq, ctk, iml, free, pending. -/
@[simp] theorem restoreDone_frame (p : Fin 64) (s : State) :
    (restoreDone p s).siu = s.siu ∧ (restoreDone p s).mev = s.mev ∧ (restoreDone p s).dtu = s.dtu
      ∧ (restoreDone p s).pls = s.pls ∧ (restoreDone p s).seq = s.seq ∧ (restoreDone p s).ctk = s.ctk
      ∧ (restoreDone p s).iml = s.iml ∧ (restoreDone p s).free = s.free ∧ (restoreDone p s).pending = s.pending := by
  simp only [restoreDone]
  split <;> simp

/-- `resultDone` leaves siu, mev, dtu, pls, seq, ctk, iml, free, pending. -/
@[simp] theorem resultDone_frame (k : MotionKind) (p : Fin 64) (s : State) :
    (resultDone k p s).siu = s.siu ∧ (resultDone k p s).mev = s.mev ∧ (resultDone k p s).dtu = s.dtu
      ∧ (resultDone k p s).pls = s.pls ∧ (resultDone k p s).seq = s.seq ∧ (resultDone k p s).ctk = s.ctk
      ∧ (resultDone k p s).iml = s.iml ∧ (resultDone k p s).free = s.free ∧ (resultDone k p s).pending = s.pending := by
  simp only [resultDone]
  split <;> simp

/-- `resultNoReply` leaves siu, mev, dtu, pls, seq, ctk, iml, free, pending. -/
@[simp] theorem resultNoReply_frame (k : MotionKind) (p : Fin 64) (s : State) :
    (resultNoReply k p s).siu = s.siu ∧ (resultNoReply k p s).mev = s.mev ∧ (resultNoReply k p s).dtu = s.dtu
      ∧ (resultNoReply k p s).pls = s.pls ∧ (resultNoReply k p s).seq = s.seq ∧ (resultNoReply k p s).ctk = s.ctk
      ∧ (resultNoReply k p s).iml = s.iml ∧ (resultNoReply k p s).free = s.free
      ∧ (resultNoReply k p s).pending = s.pending := by
  simp only [resultNoReply]
  split <;> simp

/-- `resultAt` leaves siu, mev, dtu, pls, seq, ctk, iml, free, pending. -/
@[simp] theorem resultAt_frame (k : MotionKind) (p : Fin 64) (r : Result) (s : State) :
    (resultAt k p r s).siu = s.siu ∧ (resultAt k p r s).mev = s.mev ∧ (resultAt k p r s).dtu = s.dtu
      ∧ (resultAt k p r s).pls = s.pls ∧ (resultAt k p r s).seq = s.seq ∧ (resultAt k p r s).ctk = s.ctk
      ∧ (resultAt k p r s).iml = s.iml ∧ (resultAt k p r s).free = s.free ∧ (resultAt k p r s).pending = s.pending := by
  simp only [resultAt]
  split <;> simp

/-- `applyResult` leaves siu, mev, dtu, pls, seq, ctk, iml, free, pending. -/
@[simp] theorem applyResult_frame (f : InFlight) (r : Result) (s : State) :
    (applyResult f r s).siu = s.siu ∧ (applyResult f r s).mev = s.mev ∧ (applyResult f r s).dtu = s.dtu
      ∧ (applyResult f r s).pls = s.pls ∧ (applyResult f r s).seq = s.seq ∧ (applyResult f r s).ctk = s.ctk
      ∧ (applyResult f r s).iml = s.iml ∧ (applyResult f r s).free = s.free ∧ (applyResult f r s).pending = s.pending := by
  simp only [applyResult]
  (repeat' split) <;> simp

/-- `externalChange` leaves siu, mev, dtu, pls, seq, ctk, iml, free, pending. -/
@[simp] theorem externalChange_frame (p : Fin 64) (new : PointState) (s : State) :
    (externalChange p new s).siu = s.siu ∧ (externalChange p new s).mev = s.mev ∧ (externalChange p new s).dtu = s.dtu
      ∧ (externalChange p new s).pls = s.pls ∧ (externalChange p new s).seq = s.seq
      ∧ (externalChange p new s).ctk = s.ctk ∧ (externalChange p new s).iml = s.iml
      ∧ (externalChange p new s).free = s.free ∧ (externalChange p new s).pending = s.pending := by
  simp [externalChange]

/-- `compareContact` leaves siu, mev, dtu, pls, seq, ctk, iml, free, pending. -/
@[simp] theorem compareContact_frame (p : Fin 64) (closed : Bool) (s : State) :
    (compareContact p closed s).siu = s.siu ∧ (compareContact p closed s).mev = s.mev
      ∧ (compareContact p closed s).dtu = s.dtu ∧ (compareContact p closed s).pls = s.pls
      ∧ (compareContact p closed s).seq = s.seq ∧ (compareContact p closed s).ctk = s.ctk
      ∧ (compareContact p closed s).iml = s.iml ∧ (compareContact p closed s).free = s.free
      ∧ (compareContact p closed s).pending = s.pending := by
  simp only [compareContact]
  (repeat' split) <;> simp

/-- `applyLockout` leaves siu, mev, dtu, pls, seq, ctk, iml, free, pending. -/
@[simp] theorem applyLockout_frame (p : Fin 64) (o : OutputStatus) (s : State) :
    (applyLockout p o s).siu = s.siu ∧ (applyLockout p o s).mev = s.mev ∧ (applyLockout p o s).dtu = s.dtu
      ∧ (applyLockout p o s).pls = s.pls ∧ (applyLockout p o s).seq = s.seq ∧ (applyLockout p o s).ctk = s.ctk
      ∧ (applyLockout p o s).iml = s.iml ∧ (applyLockout p o s).free = s.free ∧ (applyLockout p o s).pending = s.pending := by
  simp only [applyLockout]
  (repeat' split) <;> simp

/-- `applyButton` leaves siu, mev, dtu, pls, seq, ctk, flc, spu, jrn, fmn, iml, free, pending. -/
@[simp] theorem applyButton_frame (p : Fin 64) (o : OutputStatus) (s : State) :
    (applyButton p o s).siu = s.siu ∧ (applyButton p o s).mev = s.mev ∧ (applyButton p o s).dtu = s.dtu
      ∧ (applyButton p o s).pls = s.pls ∧ (applyButton p o s).seq = s.seq ∧ (applyButton p o s).ctk = s.ctk
      ∧ (applyButton p o s).flc = s.flc ∧ (applyButton p o s).spu = s.spu ∧ (applyButton p o s).jrn = s.jrn
      ∧ (applyButton p o s).fmn = s.fmn ∧ (applyButton p o s).iml = s.iml ∧ (applyButton p o s).free = s.free
      ∧ (applyButton p o s).pending = s.pending := by
  simp only [applyButton]
  split <;> simp

/-- `feedbackAt` leaves siu, mev, dtu, pls, seq, ctk, iml, free, pending. -/
@[simp] theorem feedbackAt_frame (o : OutputStatus) (p : Fin 64) (s : State) :
    (feedbackAt o p s).siu = s.siu ∧ (feedbackAt o p s).mev = s.mev ∧ (feedbackAt o p s).dtu = s.dtu
      ∧ (feedbackAt o p s).pls = s.pls ∧ (feedbackAt o p s).seq = s.seq ∧ (feedbackAt o p s).ctk = s.ctk
      ∧ (feedbackAt o p s).iml = s.iml ∧ (feedbackAt o p s).free = s.free ∧ (feedbackAt o p s).pending = s.pending := by
  simp only [feedbackAt]
  split <;> simp

/-- `feedback` leaves siu, mev, dtu, pls, seq, ctk, iml, free, pending. -/
@[simp] theorem feedback_frame (st : Fin 16) (outs : Option (Vector OutputStatus 4)) (s : State) :
    (feedback st outs s).siu = s.siu ∧ (feedback st outs s).mev = s.mev ∧ (feedback st outs s).dtu = s.dtu
      ∧ (feedback st outs s).pls = s.pls ∧ (feedback st outs s).seq = s.seq ∧ (feedback st outs s).ctk = s.ctk
      ∧ (feedback st outs s).iml = s.iml ∧ (feedback st outs s).free = s.free ∧ (feedback st outs s).pending = s.pending := by
  simp only [feedback]
  split <;> simp

/-- `takeDeferred` leaves siu, mev, dtu, pls, seq, ctk, iml, free, pending. -/
@[simp] theorem takeDeferred_frame (f : InFlight) (r : Result) (s : State) :
    (takeDeferred f r s).siu = s.siu ∧ (takeDeferred f r s).mev = s.mev ∧ (takeDeferred f r s).dtu = s.dtu
      ∧ (takeDeferred f r s).pls = s.pls ∧ (takeDeferred f r s).seq = s.seq ∧ (takeDeferred f r s).ctk = s.ctk
      ∧ (takeDeferred f r s).iml = s.iml ∧ (takeDeferred f r s).free = s.free ∧ (takeDeferred f r s).pending = s.pending := by
  simp only [takeDeferred]
  (repeat' split) <;> simp

/-- `rejoinGate` leaves siu, mev, dtu, pls, seq, ctk, iml, free, pending. -/
@[simp] theorem rejoinGate_frame (p : Fin 64) (s : State) :
    (rejoinGate p s).siu = s.siu ∧ (rejoinGate p s).mev = s.mev ∧ (rejoinGate p s).dtu = s.dtu
      ∧ (rejoinGate p s).pls = s.pls ∧ (rejoinGate p s).seq = s.seq ∧ (rejoinGate p s).ctk = s.ctk
      ∧ (rejoinGate p s).iml = s.iml ∧ (rejoinGate p s).free = s.free ∧ (rejoinGate p s).pending = s.pending := by
  simp only [rejoinGate]
  split <;> simp

/-- `handOver` leaves siu, mev, dtu, pls, seq, ctk, iml, free, pending. -/
@[simp] theorem handOver_frame (before : Vector PointEntry 64) (s : State) (p : Fin 64) :
    (handOver before s p).siu = s.siu ∧ (handOver before s p).mev = s.mev ∧ (handOver before s p).dtu = s.dtu
      ∧ (handOver before s p).pls = s.pls ∧ (handOver before s p).seq = s.seq ∧ (handOver before s p).ctk = s.ctk
      ∧ (handOver before s p).iml = s.iml ∧ (handOver before s p).free = s.free
      ∧ (handOver before s p).pending = s.pending := by
  simp only [handOver]
  split <;> simp

/-- `lampAfter` leaves siu, mev, dtu, pls, seq, ctk, iml, free, pending. -/
@[simp] theorem lampAfter_frame (before : Vector PointEntry 64) (s : State) (p : Fin 64) :
    (lampAfter before s p).siu = s.siu ∧ (lampAfter before s p).mev = s.mev ∧ (lampAfter before s p).dtu = s.dtu
      ∧ (lampAfter before s p).pls = s.pls ∧ (lampAfter before s p).seq = s.seq ∧ (lampAfter before s p).ctk = s.ctk
      ∧ (lampAfter before s p).iml = s.iml ∧ (lampAfter before s p).free = s.free
      ∧ (lampAfter before s p).pending = s.pending := by
  simp [lampAfter]

/-- `takeResolution` leaves siu, mev, dtu, pls, seq, ctk, iml, free, pending. -/
@[simp] theorem takeResolution_frame (f : InFlight) (st : Fin 16) (r : Result) (outs : Option (Vector OutputStatus 4)) (s : State) :
    (takeResolution f st r outs s).siu = s.siu ∧ (takeResolution f st r outs s).mev = s.mev
      ∧ (takeResolution f st r outs s).dtu = s.dtu ∧ (takeResolution f st r outs s).pls = s.pls
      ∧ (takeResolution f st r outs s).seq = s.seq ∧ (takeResolution f st r outs s).ctk = s.ctk
      ∧ (takeResolution f st r outs s).iml = s.iml ∧ (takeResolution f st r outs s).free = s.free
      ∧ (takeResolution f st r outs s).pending = s.pending := by
  simp [takeResolution]

/-- `unreachablePoint` leaves siu, mev, dtu, pls, seq, ctk, iml, free, pending. -/
@[simp] theorem unreachablePoint_frame (s : State) (p : Fin 64) :
    (unreachablePoint s p).siu = s.siu ∧ (unreachablePoint s p).mev = s.mev ∧ (unreachablePoint s p).dtu = s.dtu
      ∧ (unreachablePoint s p).pls = s.pls ∧ (unreachablePoint s p).seq = s.seq ∧ (unreachablePoint s p).ctk = s.ctk
      ∧ (unreachablePoint s p).iml = s.iml ∧ (unreachablePoint s p).free = s.free
      ∧ (unreachablePoint s p).pending = s.pending := by
  simp only [unreachablePoint]
  (repeat' split) <;> simp

/-- `stationUnreachable` leaves siu, mev, dtu, pls, seq, ctk, iml, free, pending. -/
@[simp] theorem stationUnreachable_frame (st : Fin 16) (s : State) :
    (stationUnreachable st s).siu = s.siu ∧ (stationUnreachable st s).mev = s.mev ∧ (stationUnreachable st s).dtu = s.dtu
      ∧ (stationUnreachable st s).pls = s.pls ∧ (stationUnreachable st s).seq = s.seq
      ∧ (stationUnreachable st s).ctk = s.ctk ∧ (stationUnreachable st s).iml = s.iml
      ∧ (stationUnreachable st s).free = s.free ∧ (stationUnreachable st s).pending = s.pending := by
  simp only [stationUnreachable]
  split <;> simp

/-- `checkUnreachable` leaves siu, mev, dtu, pls, ptm, seq, ctk, flc, iml, free, pending. -/
@[simp] theorem checkUnreachable_frame (cause : Option (Fin 16)) (s : State) :
    (checkUnreachable cause s).siu = s.siu ∧ (checkUnreachable cause s).mev = s.mev
      ∧ (checkUnreachable cause s).dtu = s.dtu ∧ (checkUnreachable cause s).pls = s.pls
      ∧ (checkUnreachable cause s).ptm = s.ptm ∧ (checkUnreachable cause s).seq = s.seq
      ∧ (checkUnreachable cause s).ctk = s.ctk ∧ (checkUnreachable cause s).flc = s.flc
      ∧ (checkUnreachable cause s).iml = s.iml ∧ (checkUnreachable cause s).free = s.free
      ∧ (checkUnreachable cause s).pending = s.pending := by
  simp only [checkUnreachable]
  (repeat' split) <;> simp

/-- `freeSlot` leaves siu, mev, dtu, pls, ptm, seq, ctk, spu, jrn, fmn, iml, free, pending. -/
@[simp] theorem freeSlot_frame (o : Order) (s : State) :
    (freeSlot o s).siu = s.siu ∧ (freeSlot o s).mev = s.mev ∧ (freeSlot o s).dtu = s.dtu ∧ (freeSlot o s).pls = s.pls
      ∧ (freeSlot o s).ptm = s.ptm ∧ (freeSlot o s).seq = s.seq ∧ (freeSlot o s).ctk = s.ctk ∧ (freeSlot o s).spu = s.spu
      ∧ (freeSlot o s).jrn = s.jrn ∧ (freeSlot o s).fmn = s.fmn ∧ (freeSlot o s).iml = s.iml
      ∧ (freeSlot o s).free = s.free ∧ (freeSlot o s).pending = s.pending := by
  simp only [freeSlot]
  split <;> simp

/-- `spacingAfter` leaves siu, mev, dtu, pls, ptm, seq, ctk, spu, jrn, fmn, iml, free, pending. -/
@[simp] theorem spacingAfter_frame (o : Order) (s : State) :
    (spacingAfter o s).siu = s.siu ∧ (spacingAfter o s).mev = s.mev ∧ (spacingAfter o s).dtu = s.dtu
      ∧ (spacingAfter o s).pls = s.pls ∧ (spacingAfter o s).ptm = s.ptm ∧ (spacingAfter o s).seq = s.seq
      ∧ (spacingAfter o s).ctk = s.ctk ∧ (spacingAfter o s).spu = s.spu ∧ (spacingAfter o s).jrn = s.jrn
      ∧ (spacingAfter o s).fmn = s.fmn ∧ (spacingAfter o s).iml = s.iml ∧ (spacingAfter o s).free = s.free
      ∧ (spacingAfter o s).pending = s.pending := by
  simp only [spacingAfter]
  split <;> simp

/-- `pollResolved` leaves siu, pls, iml, free, pending. -/
@[simp] theorem pollResolved_frame (o : Order) (s : State) :
    (pollResolved o s).siu = s.siu ∧ (pollResolved o s).pls = s.pls ∧ (pollResolved o s).iml = s.iml
      ∧ (pollResolved o s).free = s.free ∧ (pollResolved o s).pending = s.pending := by
  simp only [pollResolved]
  split <;> simp

/-- `chooseAfter` leaves siu, mev, dtu, pls, ptm, seq, ctk, spu, jrn, fmn, iml, free, pending. -/
@[simp] theorem chooseAfter_frame (s : State) :
    (chooseAfter s).siu = s.siu ∧ (chooseAfter s).mev = s.mev ∧ (chooseAfter s).dtu = s.dtu ∧ (chooseAfter s).pls = s.pls
      ∧ (chooseAfter s).ptm = s.ptm ∧ (chooseAfter s).seq = s.seq ∧ (chooseAfter s).ctk = s.ctk
      ∧ (chooseAfter s).spu = s.spu ∧ (chooseAfter s).jrn = s.jrn ∧ (chooseAfter s).fmn = s.fmn
      ∧ (chooseAfter s).iml = s.iml ∧ (chooseAfter s).free = s.free ∧ (chooseAfter s).pending = s.pending := by
  simp [chooseAfter]

/-- `resolve` leaves siu, pls, iml, free, pending. -/
@[simp] theorem resolve_frame (f : InFlight) (st : Fin 16) (r : Result) (outs : Option (Vector OutputStatus 4)) (s : State) :
    (resolve f st r outs s).siu = s.siu ∧ (resolve f st r outs s).pls = s.pls ∧ (resolve f st r outs s).iml = s.iml
      ∧ (resolve f st r outs s).free = s.free ∧ (resolve f st r outs s).pending = s.pending := by
  simp [resolve]

/-- `orderFrameEnd` leaves siu, mev, dtu, pls, ptm, seq, ctk, spu, jrn, fmn, iml, free, pending. -/
@[simp] theorem orderFrameEnd_frame (s : State) :
    (orderFrameEnd s).siu = s.siu ∧ (orderFrameEnd s).mev = s.mev ∧ (orderFrameEnd s).dtu = s.dtu
      ∧ (orderFrameEnd s).pls = s.pls ∧ (orderFrameEnd s).ptm = s.ptm ∧ (orderFrameEnd s).seq = s.seq
      ∧ (orderFrameEnd s).ctk = s.ctk ∧ (orderFrameEnd s).spu = s.spu ∧ (orderFrameEnd s).jrn = s.jrn
      ∧ (orderFrameEnd s).fmn = s.fmn ∧ (orderFrameEnd s).iml = s.iml ∧ (orderFrameEnd s).free = s.free
      ∧ (orderFrameEnd s).pending = s.pending := by
  simp only [orderFrameEnd]
  (repeat' split) <;> simp

/-- `tripAllFrameEnd` leaves siu, mev, dtu, pls, ptm, seq, ctk, spu, jrn, fmn, iml, free, pending. -/
@[simp] theorem tripAllFrameEnd_frame (s : State) :
    (tripAllFrameEnd s).siu = s.siu ∧ (tripAllFrameEnd s).mev = s.mev ∧ (tripAllFrameEnd s).dtu = s.dtu
      ∧ (tripAllFrameEnd s).pls = s.pls ∧ (tripAllFrameEnd s).ptm = s.ptm ∧ (tripAllFrameEnd s).seq = s.seq
      ∧ (tripAllFrameEnd s).ctk = s.ctk ∧ (tripAllFrameEnd s).spu = s.spu ∧ (tripAllFrameEnd s).jrn = s.jrn
      ∧ (tripAllFrameEnd s).fmn = s.fmn ∧ (tripAllFrameEnd s).iml = s.iml ∧ (tripAllFrameEnd s).free = s.free
      ∧ (tripAllFrameEnd s).pending = s.pending := by
  simp only [tripAllFrameEnd]
  (repeat' split) <;> simp

/-- `countLoopError` leaves siu, mev, dtu, pls, ptm, seq, ctk, spu, jrn, fmn, iml, free, pending. -/
@[simp] theorem countLoopError_frame (s : State) :
    (countLoopError s).siu = s.siu ∧ (countLoopError s).mev = s.mev ∧ (countLoopError s).dtu = s.dtu
      ∧ (countLoopError s).pls = s.pls ∧ (countLoopError s).ptm = s.ptm ∧ (countLoopError s).seq = s.seq
      ∧ (countLoopError s).ctk = s.ctk ∧ (countLoopError s).spu = s.spu ∧ (countLoopError s).jrn = s.jrn
      ∧ (countLoopError s).fmn = s.fmn ∧ (countLoopError s).iml = s.iml ∧ (countLoopError s).free = s.free
      ∧ (countLoopError s).pending = s.pending := by
  simp [countLoopError]

/-- `countStale` leaves siu, mev, dtu, pls, ptm, seq, ctk, spu, jrn, fmn, iml, free, pending. -/
@[simp] theorem countStale_frame (s : State) :
    (countStale s).siu = s.siu ∧ (countStale s).mev = s.mev ∧ (countStale s).dtu = s.dtu ∧ (countStale s).pls = s.pls
      ∧ (countStale s).ptm = s.ptm ∧ (countStale s).seq = s.seq ∧ (countStale s).ctk = s.ctk ∧ (countStale s).spu = s.spu
      ∧ (countStale s).jrn = s.jrn ∧ (countStale s).fmn = s.fmn ∧ (countStale s).iml = s.iml
      ∧ (countStale s).free = s.free ∧ (countStale s).pending = s.pending := by
  simp [countStale]

/-- `matchingReply` leaves siu, pls, iml, free, pending. -/
@[simp] theorem matchingReply_frame (f : InFlight) (st : Fin 16) (r : Result) (outs : Vector OutputStatus 4) (s : State) :
    (matchingReply f st r outs s).siu = s.siu ∧ (matchingReply f st r outs s).pls = s.pls
      ∧ (matchingReply f st r outs s).iml = s.iml ∧ (matchingReply f st r outs s).free = s.free
      ∧ (matchingReply f st r outs s).pending = s.pending := by
  simp [matchingReply]

/-- `replyFrameTaken` leaves siu, pls, iml, free, pending. -/
@[simp] theorem replyFrameTaken_frame (src tag : Byte) (r : Result) (outs : Vector OutputStatus 4) (s : State) :
    (replyFrameTaken src tag r outs s).siu = s.siu ∧ (replyFrameTaken src tag r outs s).pls = s.pls
      ∧ (replyFrameTaken src tag r outs s).iml = s.iml ∧ (replyFrameTaken src tag r outs s).free = s.free
      ∧ (replyFrameTaken src tag r outs s).pending = s.pending := by
  simp only [replyFrameTaken]
  (repeat' split) <;> simp

/-- `loopFrame` leaves siu, pls, iml, free, pending. -/
@[simp] theorem loopFrame_frame (bytes : List Byte) (bad : Bool) (s : State) :
    (loopFrame bytes bad s).siu = s.siu ∧ (loopFrame bytes bad s).pls = s.pls ∧ (loopFrame bytes bad s).iml = s.iml
      ∧ (loopFrame bytes bad s).free = s.free ∧ (loopFrame bytes bad s).pending = s.pending := by
  simp only [loopFrame]
  (repeat' split) <;> simp

/-- `loopByte` leaves siu, pls, iml, free, pending. -/
@[simp] theorem loopByte_frame (s : State) (b : LineByte) :
    (loopByte s b).siu = s.siu ∧ (loopByte s b).pls = s.pls ∧ (loopByte s b).iml = s.iml ∧ (loopByte s b).free = s.free
      ∧ (loopByte s b).pending = s.pending := by
  simp only [loopByte]
  (repeat' split) <;> simp

/-- While the part is sending, and the moment of a timeout is over, no byte is received (R95). -/
theorem loopByte_off (s : State) (b : LineByte) (sending : s.flc.tx.isSome = true) (later : s.flc.timedOut = false) :
    loopByte s b = s := by
  cases h : s.flc.tx <;> simp_all [loopByte, Flc.receives]

/-- While the part is sending, a reply frame is stale (R98). -/
theorem replyFrameTaken_sending (src tag : Byte) (r : Result) (outs : Vector OutputStatus 4) (s : State)
    (sending : s.flc.tx.isSome = true) : replyFrameTaken src tag r outs s = countStale s := by
  cases h : s.flc.tx <;> simp_all [replyFrameTaken]

/-- `abandonReply` leaves siu, mev, dtu, pls, ptm, seq, ctk, spu, jrn, fmn, iml, free, pending. -/
@[simp] theorem abandonReply_frame (s : State) :
    (abandonReply s).siu = s.siu ∧ (abandonReply s).mev = s.mev ∧ (abandonReply s).dtu = s.dtu
      ∧ (abandonReply s).pls = s.pls ∧ (abandonReply s).ptm = s.ptm ∧ (abandonReply s).seq = s.seq
      ∧ (abandonReply s).ctk = s.ctk ∧ (abandonReply s).spu = s.spu ∧ (abandonReply s).jrn = s.jrn
      ∧ (abandonReply s).fmn = s.fmn ∧ (abandonReply s).iml = s.iml ∧ (abandonReply s).free = s.free
      ∧ (abandonReply s).pending = s.pending := by
  simp only [abandonReply]
  split <;> simp

/-- `countNoReply` leaves siu, mev, dtu, pls, seq, ctk, iml, free, pending. -/
@[simp] theorem countNoReply_frame (st : Fin 16) (s : State) :
    (countNoReply st s).siu = s.siu ∧ (countNoReply st s).mev = s.mev ∧ (countNoReply st s).dtu = s.dtu
      ∧ (countNoReply st s).pls = s.pls ∧ (countNoReply st s).seq = s.seq ∧ (countNoReply st s).ctk = s.ctk
      ∧ (countNoReply st s).iml = s.iml ∧ (countNoReply st s).free = s.free ∧ (countNoReply st s).pending = s.pending := by
  simp only [countNoReply]
  split <;> simp

/-- `afterTimeout` leaves siu, pls, iml, free, pending. -/
@[simp] theorem afterTimeout_frame (f : InFlight) (st : Fin 16) (s : State) :
    (afterTimeout f st s).siu = s.siu ∧ (afterTimeout f st s).pls = s.pls ∧ (afterTimeout f st s).iml = s.iml
      ∧ (afterTimeout f st s).free = s.free ∧ (afterTimeout f st s).pending = s.pending := by
  simp only [afterTimeout]
  split <;> simp

/-- `replyTimeout` leaves siu, pls, iml, free, pending. -/
@[simp] theorem replyTimeout_frame (s : State) :
    (replyTimeout s).siu = s.siu ∧ (replyTimeout s).pls = s.pls ∧ (replyTimeout s).iml = s.iml
      ∧ (replyTimeout s).free = s.free ∧ (replyTimeout s).pending = s.pending := by
  simp only [replyTimeout]
  (repeat' split) <;> simp

/-- `graceExpiry` leaves siu, mev, dtu, pls, seq, ctk, iml, free, pending. -/
@[simp] theorem graceExpiry_frame (p : Fin 64) (s : State) :
    (graceExpiry p s).siu = s.siu ∧ (graceExpiry p s).mev = s.mev ∧ (graceExpiry p s).dtu = s.dtu
      ∧ (graceExpiry p s).pls = s.pls ∧ (graceExpiry p s).seq = s.seq ∧ (graceExpiry p s).ctk = s.ctk
      ∧ (graceExpiry p s).iml = s.iml ∧ (graceExpiry p s).free = s.free ∧ (graceExpiry p s).pending = s.pending := by
  simp only [graceExpiry]
  split <;> simp

/-- `settleExpiry` leaves siu, pls, iml, free, pending. -/
@[simp] theorem settleExpiry_frame (p : Fin 64) (s : State) :
    (settleExpiry p s).siu = s.siu ∧ (settleExpiry p s).pls = s.pls ∧ (settleExpiry p s).iml = s.iml
      ∧ (settleExpiry p s).free = s.free ∧ (settleExpiry p s).pending = s.pending := by
  simp only [settleExpiry]
  split <;> simp

/-- `shedWarned` leaves siu, mev, dtu, pls, seq, ctk, iml, free, pending. -/
@[simp] theorem shedWarned_frame (s : State) (p : Fin 64) :
    (shedWarned s p).siu = s.siu ∧ (shedWarned s p).mev = s.mev ∧ (shedWarned s p).dtu = s.dtu
      ∧ (shedWarned s p).pls = s.pls ∧ (shedWarned s p).seq = s.seq ∧ (shedWarned s p).ctk = s.ctk
      ∧ (shedWarned s p).iml = s.iml ∧ (shedWarned s p).free = s.free ∧ (shedWarned s p).pending = s.pending := by
  simp only [shedWarned]
  split <;> simp

/-- `shedTimeout` leaves siu, pls, iml, free, pending. -/
@[simp] theorem shedTimeout_frame (k : Nat) (s : State) :
    (shedTimeout k s).siu = s.siu ∧ (shedTimeout k s).pls = s.pls ∧ (shedTimeout k s).iml = s.iml
      ∧ (shedTimeout k s).free = s.free ∧ (shedTimeout k s).pending = s.pending := by
  simp [shedTimeout]

/-- `failAwait` leaves siu, mev, dtu, pls, seq, ctk, iml, free, pending. -/
@[simp] theorem failAwait_frame (s : State) (p : Fin 64) :
    (failAwait s p).siu = s.siu ∧ (failAwait s p).mev = s.mev ∧ (failAwait s p).dtu = s.dtu ∧ (failAwait s p).pls = s.pls
      ∧ (failAwait s p).seq = s.seq ∧ (failAwait s p).ctk = s.ctk ∧ (failAwait s p).iml = s.iml
      ∧ (failAwait s p).free = s.free ∧ (failAwait s p).pending = s.pending := by
  simp only [failAwait]
  split <;> simp

/-- `restartTimeout` leaves siu, pls, iml, free, pending. -/
@[simp] theorem restartTimeout_frame (k : Nat) (s : State) :
    (restartTimeout k s).siu = s.siu ∧ (restartTimeout k s).pls = s.pls ∧ (restartTimeout k s).iml = s.iml
      ∧ (restartTimeout k s).free = s.free ∧ (restartTimeout k s).pending = s.pending := by
  simp [restartTimeout]

end Sys2Proof.Machine
end

