-- ==== Sys2Proof/Laws/Ports.lean ====
section
/-! SUPPORT. What the operations of Image.lean, Commit.lean, Requests.lean and Ports.lean leave of the state. -/

namespace Sys2Proof.Machine

/-- `beginSave` leaves siu, mev, dtu, pls, ptm, seq, ctk, flc, spu, jrn, fmn, free, pending. -/
@[simp] theorem beginSave_frame (p : Fin 3) (s : State) :
    (beginSave p s).siu = s.siu ∧ (beginSave p s).mev = s.mev ∧ (beginSave p s).dtu = s.dtu ∧ (beginSave p s).pls = s.pls
      ∧ (beginSave p s).ptm = s.ptm ∧ (beginSave p s).seq = s.seq ∧ (beginSave p s).ctk = s.ctk
      ∧ (beginSave p s).flc = s.flc ∧ (beginSave p s).spu = s.spu ∧ (beginSave p s).jrn = s.jrn
      ∧ (beginSave p s).fmn = s.fmn ∧ (beginSave p s).free = s.free ∧ (beginSave p s).pending = s.pending := by
  simp [beginSave]

/-- `reply` leaves siu, mev, dtu, pls, ptm, seq, ctk, flc, jrn, fmn, iml, pending. -/
@[simp] theorem reply_frame (p : Fin 3) (status : ReplyStatus) (payload : List Byte) (s : State) :
    (reply p status payload s).siu = s.siu ∧ (reply p status payload s).mev = s.mev
      ∧ (reply p status payload s).dtu = s.dtu ∧ (reply p status payload s).pls = s.pls
      ∧ (reply p status payload s).ptm = s.ptm ∧ (reply p status payload s).seq = s.seq
      ∧ (reply p status payload s).ctk = s.ctk ∧ (reply p status payload s).flc = s.flc
      ∧ (reply p status payload s).jrn = s.jrn ∧ (reply p status payload s).fmn = s.fmn
      ∧ (reply p status payload s).iml = s.iml ∧ (reply p status payload s).pending = s.pending := by
  simp [reply]

/-- `enableStation` leaves pls, iml, free, pending. -/
@[simp] theorem enableStation_frame (s : State) (i : Fin 6) :
    (enableStation s i).pls = s.pls ∧ (enableStation s i).iml = s.iml ∧ (enableStation s i).free = s.free
      ∧ (enableStation s i).pending = s.pending := by
  simp only [enableStation]
  split <;> simp

/-- `enterUse` leaves siu, mev, dtu, pls, seq, ctk, flc, spu, jrn, fmn, iml, free, pending. -/
@[simp] theorem enterUse_frame (s : State) (p : Fin 64) :
    (enterUse s p).siu = s.siu ∧ (enterUse s p).mev = s.mev ∧ (enterUse s p).dtu = s.dtu ∧ (enterUse s p).pls = s.pls
      ∧ (enterUse s p).seq = s.seq ∧ (enterUse s p).ctk = s.ctk ∧ (enterUse s p).flc = s.flc ∧ (enterUse s p).spu = s.spu
      ∧ (enterUse s p).jrn = s.jrn ∧ (enterUse s p).fmn = s.fmn ∧ (enterUse s p).iml = s.iml
      ∧ (enterUse s p).free = s.free ∧ (enterUse s p).pending = s.pending := by
  simp only [enterUse]
  split <;> simp

/-- `takeWatermark` leaves siu, mev, dtu, pls, ptm, seq, ctk, flc, jrn, fmn, iml, free, pending. -/
@[simp] theorem takeWatermark_frame (s : State) (i : Fin 3) :
    (takeWatermark s i).siu = s.siu ∧ (takeWatermark s i).mev = s.mev ∧ (takeWatermark s i).dtu = s.dtu
      ∧ (takeWatermark s i).pls = s.pls ∧ (takeWatermark s i).ptm = s.ptm ∧ (takeWatermark s i).seq = s.seq
      ∧ (takeWatermark s i).ctk = s.ctk ∧ (takeWatermark s i).flc = s.flc ∧ (takeWatermark s i).jrn = s.jrn
      ∧ (takeWatermark s i).fmn = s.fmn ∧ (takeWatermark s i).iml = s.iml ∧ (takeWatermark s i).free = s.free
      ∧ (takeWatermark s i).pending = s.pending := by
  simp [takeWatermark]

/-- `loadHandOver` leaves pls, iml, free, pending. -/
@[simp] theorem loadHandOver_frame (s : State) :
    (loadHandOver s).pls = s.pls ∧ (loadHandOver s).iml = s.iml ∧ (loadHandOver s).free = s.free
      ∧ (loadHandOver s).pending = s.pending := by
  simp [loadHandOver]

/-- `beginRound` leaves siu, pls, iml, free, pending. -/
@[simp] theorem beginRound_frame (s : State) :
    (beginRound s).siu = s.siu ∧ (beginRound s).pls = s.pls ∧ (beginRound s).iml = s.iml ∧ (beginRound s).free = s.free
      ∧ (beginRound s).pending = s.pending := by
  simp [beginRound]

/-- `loadRecords` leaves siu, mev, dtu, pls, ptm, seq, ctk, flc, iml, free, pending. -/
@[simp] theorem loadRecords_frame (mark : PlanMark) (reason : LoadReason) (s : State) :
    (loadRecords mark reason s).siu = s.siu ∧ (loadRecords mark reason s).mev = s.mev
      ∧ (loadRecords mark reason s).dtu = s.dtu ∧ (loadRecords mark reason s).pls = s.pls
      ∧ (loadRecords mark reason s).ptm = s.ptm ∧ (loadRecords mark reason s).seq = s.seq
      ∧ (loadRecords mark reason s).ctk = s.ctk ∧ (loadRecords mark reason s).flc = s.flc
      ∧ (loadRecords mark reason s).iml = s.iml ∧ (loadRecords mark reason s).free = s.free
      ∧ (loadRecords mark reason s).pending = s.pending := by
  simp [loadRecords]

/-- `loadSucceeds` leaves free, pending. -/
@[simp] theorem loadSucceeds_frame (p : Plan) (s : State) :
    (loadSucceeds p s).free = s.free ∧ (loadSucceeds p s).pending = s.pending := by
  simp [loadSucceeds]

/-- `loadFails` leaves pls, free, pending. -/
@[simp] theorem loadFails_frame (reason : LoadReason) (s : State) :
    (loadFails reason s).pls = s.pls ∧ (loadFails reason s).free = s.free ∧ (loadFails reason s).pending = s.pending := by
  simp [loadFails]

/-- `imageLoadEnd` leaves free, pending. -/
@[simp] theorem imageLoadEnd_frame (image : List Byte) (s : State) :
    (imageLoadEnd image s).free = s.free ∧ (imageLoadEnd image s).pending = s.pending := by
  simp only [imageLoadEnd]
  (repeat' split) <;> simp

/-- `saveReply` leaves siu, mev, dtu, pls, ptm, seq, ctk, flc, jrn, fmn, iml, pending. -/
@[simp] theorem saveReply_frame (f : SaveFlight) (status : ReplyStatus) (payload : List Byte) (s : State) :
    (saveReply f status payload s).siu = s.siu ∧ (saveReply f status payload s).mev = s.mev
      ∧ (saveReply f status payload s).dtu = s.dtu ∧ (saveReply f status payload s).pls = s.pls
      ∧ (saveReply f status payload s).ptm = s.ptm ∧ (saveReply f status payload s).seq = s.seq
      ∧ (saveReply f status payload s).ctk = s.ctk ∧ (saveReply f status payload s).flc = s.flc
      ∧ (saveReply f status payload s).jrn = s.jrn ∧ (saveReply f status payload s).fmn = s.fmn
      ∧ (saveReply f status payload s).iml = s.iml ∧ (saveReply f status payload s).pending = s.pending := by
  simp only [saveReply]
  split <;> simp

/-- `saveSucceeds` leaves siu, mev, dtu, pls, ptm, seq, ctk, flc, pending. -/
@[simp] theorem saveSucceeds_frame (f : SaveFlight) (s : State) :
    (saveSucceeds f s).siu = s.siu ∧ (saveSucceeds f s).mev = s.mev ∧ (saveSucceeds f s).dtu = s.dtu
      ∧ (saveSucceeds f s).pls = s.pls ∧ (saveSucceeds f s).ptm = s.ptm ∧ (saveSucceeds f s).seq = s.seq
      ∧ (saveSucceeds f s).ctk = s.ctk ∧ (saveSucceeds f s).flc = s.flc ∧ (saveSucceeds f s).pending = s.pending := by
  simp [saveSucceeds]

/-- `saveFails` leaves siu, mev, dtu, pls, ptm, seq, ctk, flc, pending. -/
@[simp] theorem saveFails_frame (f : SaveFlight) (s : State) :
    (saveFails f s).siu = s.siu ∧ (saveFails f s).mev = s.mev ∧ (saveFails f s).dtu = s.dtu ∧ (saveFails f s).pls = s.pls
      ∧ (saveFails f s).ptm = s.ptm ∧ (saveFails f s).seq = s.seq ∧ (saveFails f s).ctk = s.ctk
      ∧ (saveFails f s).flc = s.flc ∧ (saveFails f s).pending = s.pending := by
  simp [saveFails]

/-- `commitSequencer` leaves siu, mev, dtu, pls, ptm, ctk, flc, spu, jrn, fmn, iml, free, pending. -/
@[simp] theorem commitSequencer_frame (s : State) :
    (commitSequencer s).siu = s.siu ∧ (commitSequencer s).mev = s.mev ∧ (commitSequencer s).dtu = s.dtu
      ∧ (commitSequencer s).pls = s.pls ∧ (commitSequencer s).ptm = s.ptm ∧ (commitSequencer s).ctk = s.ctk
      ∧ (commitSequencer s).flc = s.flc ∧ (commitSequencer s).spu = s.spu ∧ (commitSequencer s).jrn = s.jrn
      ∧ (commitSequencer s).fmn = s.fmn ∧ (commitSequencer s).iml = s.iml ∧ (commitSequencer s).free = s.free
      ∧ (commitSequencer s).pending = s.pending := by
  simp [commitSequencer]

/-- `voidOrder` leaves siu, mev, dtu, pls, ptm, seq, ctk, spu, jrn, fmn, iml, free, pending. -/
@[simp] theorem voidOrder_frame (p : Fin 64) (s : State) :
    (voidOrder p s).siu = s.siu ∧ (voidOrder p s).mev = s.mev ∧ (voidOrder p s).dtu = s.dtu ∧ (voidOrder p s).pls = s.pls
      ∧ (voidOrder p s).ptm = s.ptm ∧ (voidOrder p s).seq = s.seq ∧ (voidOrder p s).ctk = s.ctk
      ∧ (voidOrder p s).spu = s.spu ∧ (voidOrder p s).jrn = s.jrn ∧ (voidOrder p s).fmn = s.fmn
      ∧ (voidOrder p s).iml = s.iml ∧ (voidOrder p s).free = s.free ∧ (voidOrder p s).pending = s.pending := by
  simp only [voidOrder]
  (repeat' split) <;> simp

/-- `leaveUse` leaves siu, mev, dtu, pls, seq, ctk, iml, free, pending. -/
@[simp] theorem leaveUse_frame (p : Fin 64) (s : State) :
    (leaveUse p s).siu = s.siu ∧ (leaveUse p s).mev = s.mev ∧ (leaveUse p s).dtu = s.dtu ∧ (leaveUse p s).pls = s.pls
      ∧ (leaveUse p s).seq = s.seq ∧ (leaveUse p s).ctk = s.ctk ∧ (leaveUse p s).iml = s.iml
      ∧ (leaveUse p s).free = s.free ∧ (leaveUse p s).pending = s.pending := by
  simp [leaveUse]

/-- `recheckManual` leaves siu, mev, dtu, pls, seq, ctk, iml, free, pending. -/
@[simp] theorem recheckManual_frame (p : Fin 64) (s : State) :
    (recheckManual p s).siu = s.siu ∧ (recheckManual p s).mev = s.mev ∧ (recheckManual p s).dtu = s.dtu
      ∧ (recheckManual p s).pls = s.pls ∧ (recheckManual p s).seq = s.seq ∧ (recheckManual p s).ctk = s.ctk
      ∧ (recheckManual p s).iml = s.iml ∧ (recheckManual p s).free = s.free ∧ (recheckManual p s).pending = s.pending := by
  simp only [recheckManual]
  split <;> simp

/-- `commitPoint` leaves siu, mev, dtu, pls, seq, ctk, iml, free, pending. -/
@[simp] theorem commitPoint_frame (old : Plan) (s : State) (p : Fin 64) :
    (commitPoint old s p).siu = s.siu ∧ (commitPoint old s p).mev = s.mev ∧ (commitPoint old s p).dtu = s.dtu
      ∧ (commitPoint old s p).pls = s.pls ∧ (commitPoint old s p).seq = s.seq ∧ (commitPoint old s p).ctk = s.ctk
      ∧ (commitPoint old s p).iml = s.iml ∧ (commitPoint old s p).free = s.free
      ∧ (commitPoint old s p).pending = s.pending := by
  simp only [commitPoint]
  split <;> simp

/-- `commitStation` leaves pls, iml, free, pending. -/
@[simp] theorem commitStation_frame (old : Plan) (s : State) (i : Fin 6) :
    (commitStation old s i).pls = s.pls ∧ (commitStation old s i).iml = s.iml ∧ (commitStation old s i).free = s.free
      ∧ (commitStation old s i).pending = s.pending := by
  simp only [commitStation]
  split <;> simp

/-- `commitPoll` leaves siu, mev, dtu, pls, ptm, seq, ctk, spu, jrn, fmn, iml, free, pending. -/
@[simp] theorem commitPoll_frame (s : State) (st : Fin 16) :
    (commitPoll s st).siu = s.siu ∧ (commitPoll s st).mev = s.mev ∧ (commitPoll s st).dtu = s.dtu
      ∧ (commitPoll s st).pls = s.pls ∧ (commitPoll s st).ptm = s.ptm ∧ (commitPoll s st).seq = s.seq
      ∧ (commitPoll s st).ctk = s.ctk ∧ (commitPoll s st).spu = s.spu ∧ (commitPoll s st).jrn = s.jrn
      ∧ (commitPoll s st).fmn = s.fmn ∧ (commitPoll s st).iml = s.iml ∧ (commitPoll s st).free = s.free
      ∧ (commitPoll s st).pending = s.pending := by
  simp only [commitPoll]
  split <;> simp

/-- `commitLoop` leaves siu, mev, dtu, pls, ptm, seq, ctk, iml, free, pending. -/
@[simp] theorem commitLoop_frame (s : State) :
    (commitLoop s).siu = s.siu ∧ (commitLoop s).mev = s.mev ∧ (commitLoop s).dtu = s.dtu ∧ (commitLoop s).pls = s.pls
      ∧ (commitLoop s).ptm = s.ptm ∧ (commitLoop s).seq = s.seq ∧ (commitLoop s).ctk = s.ctk ∧ (commitLoop s).iml = s.iml
      ∧ (commitLoop s).free = s.free ∧ (commitLoop s).pending = s.pending := by
  simp [commitLoop]

/-- `commitQuiet` leaves siu, pls, iml, free, pending. -/
@[simp] theorem commitQuiet_frame (s : State) :
    (commitQuiet s).siu = s.siu ∧ (commitQuiet s).pls = s.pls ∧ (commitQuiet s).iml = s.iml
      ∧ (commitQuiet s).free = s.free ∧ (commitQuiet s).pending = s.pending := by
  simp only [commitQuiet]
  (repeat' split) <;> simp

/-- `commitHandOver` leaves pls, iml, free, pending. -/
@[simp] theorem commitHandOver_frame (old : Plan) (s : State) :
    (commitHandOver old s).pls = s.pls ∧ (commitHandOver old s).iml = s.iml ∧ (commitHandOver old s).free = s.free
      ∧ (commitHandOver old s).pending = s.pending := by
  simp [commitHandOver]

/-- `leaveNoPlan` leaves siu, pls, iml, free, pending. -/
@[simp] theorem leaveNoPlan_frame (s : State) :
    (leaveNoPlan s).siu = s.siu ∧ (leaveNoPlan s).pls = s.pls ∧ (leaveNoPlan s).iml = s.iml
      ∧ (leaveNoPlan s).free = s.free ∧ (leaveNoPlan s).pending = s.pending := by
  simp only [leaveNoPlan]
  split <;> simp

/-- `commitPlan` leaves iml, free, pending. -/
@[simp] theorem commitPlan_frame (p : Fin 3) (shadow : Plan) (s : State) :
    (commitPlan p shadow s).iml = s.iml ∧ (commitPlan p shadow s).free = s.free
      ∧ (commitPlan p shadow s).pending = s.pending := by
  simp [commitPlan]

/-- `finishCommit` leaves siu, mev, dtu, pls, ptm, seq, ctk, flc, jrn, fmn, pending. -/
@[simp] theorem finishCommit_frame (p : Fin 3) (save : Bool) (s : State) :
    (finishCommit p save s).siu = s.siu ∧ (finishCommit p save s).mev = s.mev ∧ (finishCommit p save s).dtu = s.dtu
      ∧ (finishCommit p save s).pls = s.pls ∧ (finishCommit p save s).ptm = s.ptm ∧ (finishCommit p save s).seq = s.seq
      ∧ (finishCommit p save s).ctk = s.ctk ∧ (finishCommit p save s).flc = s.flc ∧ (finishCommit p save s).jrn = s.jrn
      ∧ (finishCommit p save s).fmn = s.fmn ∧ (finishCommit p save s).pending = s.pending := by
  simp only [finishCommit]
  split <;> simp

/-- `ownerCommit` leaves pending. -/
@[simp] theorem ownerCommit_frame (p : Fin 3) (save : Bool) (s : State) :
    (ownerCommit p save s).pending = s.pending := by
  simp only [ownerCommit]
  (repeat' split) <;> simp

/-- `refuse` leaves siu, mev, dtu, pls, ptm, seq, ctk, flc, jrn, fmn, iml, pending. -/
@[simp] theorem refuse_frame (p : Fin 3) (status : ReplyStatus) (s : State) :
    (refuse p status s).siu = s.siu ∧ (refuse p status s).mev = s.mev ∧ (refuse p status s).dtu = s.dtu
      ∧ (refuse p status s).pls = s.pls ∧ (refuse p status s).ptm = s.ptm ∧ (refuse p status s).seq = s.seq
      ∧ (refuse p status s).ctk = s.ctk ∧ (refuse p status s).flc = s.flc ∧ (refuse p status s).jrn = s.jrn
      ∧ (refuse p status s).fmn = s.fmn ∧ (refuse p status s).iml = s.iml ∧ (refuse p status s).pending = s.pending := by
  simp [refuse]

/-- `countFrameError` leaves siu, mev, dtu, pls, ptm, seq, ctk, flc, jrn, fmn, iml, free, pending. -/
@[simp] theorem countFrameError_frame (p : Fin 3) (s : State) :
    (countFrameError p s).siu = s.siu ∧ (countFrameError p s).mev = s.mev ∧ (countFrameError p s).dtu = s.dtu
      ∧ (countFrameError p s).pls = s.pls ∧ (countFrameError p s).ptm = s.ptm ∧ (countFrameError p s).seq = s.seq
      ∧ (countFrameError p s).ctk = s.ctk ∧ (countFrameError p s).flc = s.flc ∧ (countFrameError p s).jrn = s.jrn
      ∧ (countFrameError p s).fmn = s.fmn ∧ (countFrameError p s).iml = s.iml ∧ (countFrameError p s).free = s.free
      ∧ (countFrameError p s).pending = s.pending := by
  simp [countFrameError]

/-- `linkUp` leaves siu, mev, dtu, pls, ptm, seq, ctk, flc, jrn, fmn, iml, free, pending. -/
@[simp] theorem linkUp_frame (p : Fin 3) (s : State) :
    (linkUp p s).siu = s.siu ∧ (linkUp p s).mev = s.mev ∧ (linkUp p s).dtu = s.dtu ∧ (linkUp p s).pls = s.pls
      ∧ (linkUp p s).ptm = s.ptm ∧ (linkUp p s).seq = s.seq ∧ (linkUp p s).ctk = s.ctk ∧ (linkUp p s).flc = s.flc
      ∧ (linkUp p s).jrn = s.jrn ∧ (linkUp p s).fmn = s.fmn ∧ (linkUp p s).iml = s.iml ∧ (linkUp p s).free = s.free
      ∧ (linkUp p s).pending = s.pending := by
  simp [linkUp]

/-- `answerBusy` leaves siu, mev, dtu, pls, ptm, seq, ctk, flc, jrn, fmn, iml, free, pending. -/
@[simp] theorem answerBusy_frame (p : Fin 3) (code : Byte) (s : State) :
    (answerBusy p code s).siu = s.siu ∧ (answerBusy p code s).mev = s.mev ∧ (answerBusy p code s).dtu = s.dtu
      ∧ (answerBusy p code s).pls = s.pls ∧ (answerBusy p code s).ptm = s.ptm ∧ (answerBusy p code s).seq = s.seq
      ∧ (answerBusy p code s).ctk = s.ctk ∧ (answerBusy p code s).flc = s.flc ∧ (answerBusy p code s).jrn = s.jrn
      ∧ (answerBusy p code s).fmn = s.fmn ∧ (answerBusy p code s).iml = s.iml ∧ (answerBusy p code s).free = s.free
      ∧ (answerBusy p code s).pending = s.pending := by
  simp only [answerBusy]
  split <;> simp

/-- `enterService` leaves siu, mev, dtu, pls, ptm, seq, ctk, flc, jrn, fmn, iml, free, pending. -/
@[simp] theorem enterService_frame (p : Fin 3) (code : Byte) (s : State) :
    (enterService p code s).siu = s.siu ∧ (enterService p code s).mev = s.mev ∧ (enterService p code s).dtu = s.dtu
      ∧ (enterService p code s).pls = s.pls ∧ (enterService p code s).ptm = s.ptm ∧ (enterService p code s).seq = s.seq
      ∧ (enterService p code s).ctk = s.ctk ∧ (enterService p code s).flc = s.flc ∧ (enterService p code s).jrn = s.jrn
      ∧ (enterService p code s).fmn = s.fmn ∧ (enterService p code s).iml = s.iml ∧ (enterService p code s).free = s.free
      ∧ (enterService p code s).pending = s.pending := by
  simp [enterService]

/-- `ownerClaim` leaves siu, mev, dtu, ptm, seq, ctk, flc, jrn, fmn, iml, pending. -/
@[simp] theorem ownerClaim_frame (p : Fin 3) (s : State) :
    (ownerClaim p s).siu = s.siu ∧ (ownerClaim p s).mev = s.mev ∧ (ownerClaim p s).dtu = s.dtu
      ∧ (ownerClaim p s).ptm = s.ptm ∧ (ownerClaim p s).seq = s.seq ∧ (ownerClaim p s).ctk = s.ctk
      ∧ (ownerClaim p s).flc = s.flc ∧ (ownerClaim p s).jrn = s.jrn ∧ (ownerClaim p s).fmn = s.fmn
      ∧ (ownerClaim p s).iml = s.iml ∧ (ownerClaim p s).pending = s.pending := by
  simp only [ownerClaim]
  (repeat' split) <;> simp

/-- `dropClaim` leaves siu, mev, dtu, ptm, seq, ctk, flc, jrn, fmn, iml, free, pending. -/
@[simp] theorem dropClaim_frame (s : State) :
    (dropClaim s).siu = s.siu ∧ (dropClaim s).mev = s.mev ∧ (dropClaim s).dtu = s.dtu ∧ (dropClaim s).ptm = s.ptm
      ∧ (dropClaim s).seq = s.seq ∧ (dropClaim s).ctk = s.ctk ∧ (dropClaim s).flc = s.flc ∧ (dropClaim s).jrn = s.jrn
      ∧ (dropClaim s).fmn = s.fmn ∧ (dropClaim s).iml = s.iml ∧ (dropClaim s).free = s.free
      ∧ (dropClaim s).pending = s.pending := by
  simp [dropClaim]

/-- `ownerPlanWrite` leaves siu, mev, dtu, ptm, seq, ctk, flc, jrn, fmn, iml, pending. -/
@[simp] theorem ownerPlanWrite_frame (p : Fin 3) (r : PlanRecord) (s : State) :
    (ownerPlanWrite p r s).siu = s.siu ∧ (ownerPlanWrite p r s).mev = s.mev ∧ (ownerPlanWrite p r s).dtu = s.dtu
      ∧ (ownerPlanWrite p r s).ptm = s.ptm ∧ (ownerPlanWrite p r s).seq = s.seq ∧ (ownerPlanWrite p r s).ctk = s.ctk
      ∧ (ownerPlanWrite p r s).flc = s.flc ∧ (ownerPlanWrite p r s).jrn = s.jrn ∧ (ownerPlanWrite p r s).fmn = s.fmn
      ∧ (ownerPlanWrite p r s).iml = s.iml ∧ (ownerPlanWrite p r s).pending = s.pending := by
  simp only [ownerPlanWrite]
  (repeat' split) <;> simp

/-- `ownerSave` leaves siu, mev, dtu, pls, ptm, seq, ctk, flc, jrn, fmn, pending. -/
@[simp] theorem ownerSave_frame (p : Fin 3) (s : State) :
    (ownerSave p s).siu = s.siu ∧ (ownerSave p s).mev = s.mev ∧ (ownerSave p s).dtu = s.dtu ∧ (ownerSave p s).pls = s.pls
      ∧ (ownerSave p s).ptm = s.ptm ∧ (ownerSave p s).seq = s.seq ∧ (ownerSave p s).ctk = s.ctk
      ∧ (ownerSave p s).flc = s.flc ∧ (ownerSave p s).jrn = s.jrn ∧ (ownerSave p s).fmn = s.fmn
      ∧ (ownerSave p s).pending = s.pending := by
  simp only [ownerSave]
  (repeat' split) <;> simp

/-- `firstConsent` leaves siu, mev, dtu, pls, ptm, seq, flc, iml, pending. -/
@[simp] theorem firstConsent_frame (p : Fin 3) (s : State) :
    (firstConsent p s).siu = s.siu ∧ (firstConsent p s).mev = s.mev ∧ (firstConsent p s).dtu = s.dtu
      ∧ (firstConsent p s).pls = s.pls ∧ (firstConsent p s).ptm = s.ptm ∧ (firstConsent p s).seq = s.seq
      ∧ (firstConsent p s).flc = s.flc ∧ (firstConsent p s).iml = s.iml ∧ (firstConsent p s).pending = s.pending := by
  simp [firstConsent]

/-- `grantRestart` leaves siu, pls, iml, pending. -/
@[simp] theorem grantRestart_frame (p : Fin 3) (s : State) :
    (grantRestart p s).siu = s.siu ∧ (grantRestart p s).pls = s.pls ∧ (grantRestart p s).iml = s.iml
      ∧ (grantRestart p s).pending = s.pending := by
  simp [grantRestart]

/-- `ownerConsent` leaves siu, pls, iml, pending. -/
@[simp] theorem ownerConsent_frame (p : Fin 3) (s : State) :
    (ownerConsent p s).siu = s.siu ∧ (ownerConsent p s).pls = s.pls ∧ (ownerConsent p s).iml = s.iml
      ∧ (ownerConsent p s).pending = s.pending := by
  simp only [ownerConsent]
  (repeat' split) <;> simp

/-- `setVeto` leaves siu, mev, dtu, pls, ptm, seq, flc, iml, free, pending. -/
@[simp] theorem setVeto_frame (p : Fin 3) (v : Bool) (s : State) :
    (setVeto p v s).siu = s.siu ∧ (setVeto p v s).mev = s.mev ∧ (setVeto p v s).dtu = s.dtu ∧ (setVeto p v s).pls = s.pls
      ∧ (setVeto p v s).ptm = s.ptm ∧ (setVeto p v s).seq = s.seq ∧ (setVeto p v s).flc = s.flc
      ∧ (setVeto p v s).iml = s.iml ∧ (setVeto p v s).free = s.free ∧ (setVeto p v s).pending = s.pending := by
  simp [setVeto]

/-- `vetoEffect` leaves siu, pls, iml, free, pending. -/
@[simp] theorem vetoEffect_frame (s : State) :
    (vetoEffect s).siu = s.siu ∧ (vetoEffect s).pls = s.pls ∧ (vetoEffect s).iml = s.iml ∧ (vetoEffect s).free = s.free
      ∧ (vetoEffect s).pending = s.pending := by
  simp only [vetoEffect]
  (repeat' split) <;> simp

/-- `ownerVeto` leaves siu, pls, iml, pending. -/
@[simp] theorem ownerVeto_frame (p : Fin 3) (s : State) :
    (ownerVeto p s).siu = s.siu ∧ (ownerVeto p s).pls = s.pls ∧ (ownerVeto p s).iml = s.iml
      ∧ (ownerVeto p s).pending = s.pending := by
  simp only [ownerVeto]
  (repeat' split) <;> simp

/-- `clearKind` leaves siu, mev, dtu, pls, ptm, seq, ctk, flc, iml, free, pending. -/
@[simp] theorem clearKind_frame (s : State) (k : FaultKind) :
    (clearKind s k).siu = s.siu ∧ (clearKind s k).mev = s.mev ∧ (clearKind s k).dtu = s.dtu ∧ (clearKind s k).pls = s.pls
      ∧ (clearKind s k).ptm = s.ptm ∧ (clearKind s k).seq = s.seq ∧ (clearKind s k).ctk = s.ctk
      ∧ (clearKind s k).flc = s.flc ∧ (clearKind s k).iml = s.iml ∧ (clearKind s k).free = s.free
      ∧ (clearKind s k).pending = s.pending := by
  simp only [clearKind]
  (repeat' split) <;> simp

/-- `ownerFaultClear` leaves siu, mev, dtu, pls, ptm, seq, ctk, flc, iml, pending. -/
@[simp] theorem ownerFaultClear_frame (p : Fin 3) (set : Nat) (s : State) :
    (ownerFaultClear p set s).siu = s.siu ∧ (ownerFaultClear p set s).mev = s.mev ∧ (ownerFaultClear p set s).dtu = s.dtu
      ∧ (ownerFaultClear p set s).pls = s.pls ∧ (ownerFaultClear p set s).ptm = s.ptm
      ∧ (ownerFaultClear p set s).seq = s.seq ∧ (ownerFaultClear p set s).ctk = s.ctk
      ∧ (ownerFaultClear p set s).flc = s.flc ∧ (ownerFaultClear p set s).iml = s.iml
      ∧ (ownerFaultClear p set s).pending = s.pending := by
  simp [ownerFaultClear]

/-- `ownerManualShed` leaves siu, mev, dtu, pls, seq, ctk, iml, pending. -/
@[simp] theorem ownerManualShed_frame (p : Fin 3) (i : Fin 64) (s : State) :
    (ownerManualShed p i s).siu = s.siu ∧ (ownerManualShed p i s).mev = s.mev ∧ (ownerManualShed p i s).dtu = s.dtu
      ∧ (ownerManualShed p i s).pls = s.pls ∧ (ownerManualShed p i s).seq = s.seq ∧ (ownerManualShed p i s).ctk = s.ctk
      ∧ (ownerManualShed p i s).iml = s.iml ∧ (ownerManualShed p i s).pending = s.pending := by
  simp only [ownerManualShed]
  (repeat' split) <;> simp

/-- `placeManual` leaves siu, pls, iml, pending. -/
@[simp] theorem placeManual_frame (p : Fin 3) (i : Fin 64) (s : State) :
    (placeManual p i s).siu = s.siu ∧ (placeManual p i s).pls = s.pls ∧ (placeManual p i s).iml = s.iml
      ∧ (placeManual p i s).pending = s.pending := by
  simp only [placeManual]
  split <;> simp

/-- `ownerManualRestore` leaves siu, pls, iml, pending. -/
@[simp] theorem ownerManualRestore_frame (p : Fin 3) (i : Fin 64) (s : State) :
    (ownerManualRestore p i s).siu = s.siu ∧ (ownerManualRestore p i s).pls = s.pls
      ∧ (ownerManualRestore p i s).iml = s.iml ∧ (ownerManualRestore p i s).pending = s.pending := by
  simp only [ownerManualRestore]
  (repeat' split) <;> simp

/-- `abandonSaveReply` leaves siu, mev, dtu, pls, ptm, seq, ctk, flc, spu, jrn, fmn, free, pending. -/
@[simp] theorem abandonSaveReply_frame (p : Fin 3) (s : State) :
    (abandonSaveReply p s).siu = s.siu ∧ (abandonSaveReply p s).mev = s.mev ∧ (abandonSaveReply p s).dtu = s.dtu
      ∧ (abandonSaveReply p s).pls = s.pls ∧ (abandonSaveReply p s).ptm = s.ptm ∧ (abandonSaveReply p s).seq = s.seq
      ∧ (abandonSaveReply p s).ctk = s.ctk ∧ (abandonSaveReply p s).flc = s.flc ∧ (abandonSaveReply p s).spu = s.spu
      ∧ (abandonSaveReply p s).jrn = s.jrn ∧ (abandonSaveReply p s).fmn = s.fmn ∧ (abandonSaveReply p s).free = s.free
      ∧ (abandonSaveReply p s).pending = s.pending := by
  simp only [abandonSaveReply]
  (repeat' split) <;> simp

/-- `withdrawConsent` leaves siu, mev, dtu, pls, ptm, seq, flc, iml, free, pending. -/
@[simp] theorem withdrawConsent_frame (p : Fin 3) (s : State) :
    (withdrawConsent p s).siu = s.siu ∧ (withdrawConsent p s).mev = s.mev ∧ (withdrawConsent p s).dtu = s.dtu
      ∧ (withdrawConsent p s).pls = s.pls ∧ (withdrawConsent p s).ptm = s.ptm ∧ (withdrawConsent p s).seq = s.seq
      ∧ (withdrawConsent p s).flc = s.flc ∧ (withdrawConsent p s).iml = s.iml ∧ (withdrawConsent p s).free = s.free
      ∧ (withdrawConsent p s).pending = s.pending := by
  simp only [withdrawConsent]
  split <;> simp

/-- `portReset` leaves siu, mev, dtu, ptm, seq, flc, free, pending. -/
@[simp] theorem portReset_frame (p : Fin 3) (s : State) :
    (portReset p s).siu = s.siu ∧ (portReset p s).mev = s.mev ∧ (portReset p s).dtu = s.dtu ∧ (portReset p s).ptm = s.ptm
      ∧ (portReset p s).seq = s.seq ∧ (portReset p s).flc = s.flc ∧ (portReset p s).free = s.free
      ∧ (portReset p s).pending = s.pending := by
  simp only [portReset]
  split <;> simp

end Sys2Proof.Machine
end

