-- ==== Sys2Proof/Laws/AwakeKeeps.lean ====
section
/-! SUPPORT. Which operations do not go to NO_PLAN. -/

namespace Sys2Proof.Machine

/-- What each step of a fold keeps, the fold keeps. -/
@[simp] theorem foldl_awake {α : Type} (g : State → α → State) (hg : ∀ s a, s.seq.state ≠ .noPlan → (g s a).seq.state ≠ .noPlan)
    (l : List α) (s : State) (H : s.seq.state ≠ .noPlan) : (l.foldl g s).seq.state ≠ .noPlan := by
  induction l generalizing s with
  | nil => exact H
  | cons a l ih => exact ih _ (hg s a H)

/-- The sequence state after it is set (R113). -/
@[simp] theorem setSequence_state (new : SeqState) (s : State) : (setSequence new s).seq.state = new := by
  simp [setSequence]

/-- `enterHalted` does not go to NO_PLAN. -/
@[simp] theorem enterHalted_awake (s : State) (H : s.seq.state ≠ .noPlan) :
    (enterHalted s).seq.state ≠ .noPlan := by
  simp (maxDischargeDepth := 20) (contextual := true) [enterHalted, H]

/-- `setShedding` does not go to NO_PLAN. -/
@[simp] theorem setShedding_awake (s : State) (H : s.seq.state ≠ .noPlan) :
    (setShedding s).seq.state ≠ .noPlan := by
  simp (maxDischargeDepth := 20) (contextual := true) [setShedding, H]

/-- `openEvent` does not go to NO_PLAN. -/
@[simp] theorem openEvent_awake (s : State) (H : s.seq.state ≠ .noPlan) :
    (openEvent s).seq.state ≠ .noPlan := by
  simp (maxDischargeDepth := 20) (contextual := true) [openEvent, H]

/-- `startShedStep` does not go to NO_PLAN. -/
@[simp] theorem startShedStep_awake (k : Nat) (s : State) (H : s.seq.state ≠ .noPlan) :
    (startShedStep k s).seq.state ≠ .noPlan := by
  simp (maxDischargeDepth := 20) (contextual := true) [startShedStep, H]

/-- `afterShedDone` does not go to NO_PLAN. -/
@[simp] theorem afterShedDone_awake (k : Nat) (s : State) (H : s.seq.state ≠ .noPlan) :
    (afterShedDone k s).seq.state ≠ .noPlan := by
  simp only [afterShedDone]
  split <;> simp (maxDischargeDepth := 20) (contextual := true) [H]

/-- `shedStepDone` does not go to NO_PLAN. -/
@[simp] theorem shedStepDone_awake (k : Nat) (s : State) (H : s.seq.state ≠ .noPlan) :
    (shedStepDone k s).seq.state ≠ .noPlan := by
  simp (maxDischargeDepth := 20) (contextual := true) [shedStepDone, H]

/-- `shedFromWatch` does not go to NO_PLAN. -/
@[simp] theorem shedFromWatch_awake (s : State) (H : s.seq.state ≠ .noPlan) :
    (shedFromWatch s).seq.state ≠ .noPlan := by
  simp (maxDischargeDepth := 20) (contextual := true) [shedFromWatch, H]

/-- `shedFromHalted` does not go to NO_PLAN. -/
@[simp] theorem shedFromHalted_awake (s : State) (H : s.seq.state ≠ .noPlan) :
    (shedFromHalted s).seq.state ≠ .noPlan := by
  simp (maxDischargeDepth := 20) (contextual := true) [shedFromHalted, H]

/-- `checkShedding` does not go to NO_PLAN. -/
@[simp] theorem checkShedding_awake (s : State) (H : s.seq.state ≠ .noPlan) :
    (checkShedding s).seq.state ≠ .noPlan := by
  unfold checkShedding
  (repeat' (first | split | dsimp only)) <;> simp (maxDischargeDepth := 20) (contextual := true) [H]

/-- `closeEvent` does not go to NO_PLAN. -/
@[simp] theorem closeEvent_awake (s : State) (H : s.seq.state ≠ .noPlan) :
    (closeEvent s).seq.state ≠ .noPlan := by
  simp only [closeEvent]
  split <;> simp (maxDischargeDepth := 20) (contextual := true) [H]

/-- `quietRule` does not go to NO_PLAN. -/
@[simp] theorem quietRule_awake (s : State) (H : s.seq.state ≠ .noPlan) :
    (quietRule s).seq.state ≠ .noPlan := by
  simp only [quietRule]
  split <;> simp (maxDischargeDepth := 20) (contextual := true) [H]

/-- `startupDecision` does not go to NO_PLAN. -/
@[simp] theorem startupDecision_awake (s : State) (H : s.seq.state ≠ .noPlan) :
    (startupDecision s).seq.state ≠ .noPlan := by
  unfold startupDecision
  (repeat' (first | split | dsimp only)) <;> simp (maxDischargeDepth := 20) (contextual := true) [H]

/-- `checkRound` does not go to NO_PLAN. -/
@[simp] theorem checkRound_awake (s : State) (H : s.seq.state ≠ .noPlan) :
    (checkRound s).seq.state ≠ .noPlan := by
  simp only [checkRound]
  split <;> simp (maxDischargeDepth := 20) (contextual := true) [H]

/-- `startRestartStep` does not go to NO_PLAN. -/
@[simp] theorem startRestartStep_awake (k : Nat) (s : State) (H : s.seq.state ≠ .noPlan) :
    (startRestartStep k s).seq.state ≠ .noPlan := by
  simp (maxDischargeDepth := 20) (contextual := true) [startRestartStep, H]

/-- `afterRestartDone` does not go to NO_PLAN. -/
@[simp] theorem afterRestartDone_awake (k : Nat) (s : State) (H : s.seq.state ≠ .noPlan) :
    (afterRestartDone k s).seq.state ≠ .noPlan := by
  simp only [afterRestartDone]
  split <;> simp (maxDischargeDepth := 20) (contextual := true) [H]

/-- `restartStepDone` does not go to NO_PLAN. -/
@[simp] theorem restartStepDone_awake (k : Nat) (s : State) (H : s.seq.state ≠ .noPlan) :
    (restartStepDone k s).seq.state ≠ .noPlan := by
  simp (maxDischargeDepth := 20) (contextual := true) [restartStepDone, H]

/-- `completeRestart` does not go to NO_PLAN. -/
@[simp] theorem completeRestart_awake (s : State) (H : s.seq.state ≠ .noPlan) :
    (completeRestart s).seq.state ≠ .noPlan := by
  simp (maxDischargeDepth := 20) (contextual := true) [completeRestart, H]

/-- `beginRestart` does not go to NO_PLAN. -/
@[simp] theorem beginRestart_awake (s : State) (H : s.seq.state ≠ .noPlan) :
    (beginRestart s).seq.state ≠ .noPlan := by
  simp only [beginRestart]
  split <;> simp (maxDischargeDepth := 20) (contextual := true) [H]

/-- `settleFor` does not go to NO_PLAN. -/
@[simp] theorem settleFor_awake (n : Nat) (s : State) (H : s.seq.state ≠ .noPlan) :
    (settleFor n s).seq.state ≠ .noPlan := by
  refine settleFor_keeps (fun t => t.seq.state ≠ .noPlan) ?_ n s H
  intro t t' ht h
  rcases settleOnce_cases h with h | h | h | ⟨p, h⟩ <;> rw [h] <;> simp [ht]

/-- `settle` does not go to NO_PLAN. -/
@[simp] theorem settle_awake (s : State) (H : s.seq.state ≠ .noPlan) :
    (settle s).seq.state ≠ .noPlan := by
  simp (maxDischargeDepth := 20) (contextual := true) [settle, H]

/-- `stopRestartStep` does not go to NO_PLAN. -/
@[simp] theorem stopRestartStep_awake (s : State) (H : s.seq.state ≠ .noPlan) :
    (stopRestartStep s).seq.state ≠ .noPlan := by
  simp only [stopRestartStep]
  split <;> simp (maxDischargeDepth := 20) (contextual := true) [H]

/-- `abortRestart` does not go to NO_PLAN. -/
@[simp] theorem abortRestart_awake (s : State) (H : s.seq.state ≠ .noPlan) :
    (abortRestart s).seq.state ≠ .noPlan := by
  simp (maxDischargeDepth := 20) (contextual := true) [abortRestart, H]

/-- `vetoStop` does not go to NO_PLAN. -/
@[simp] theorem vetoStop_awake (s : State) (H : s.seq.state ≠ .noPlan) :
    (vetoStop s).seq.state ≠ .noPlan := by
  simp (maxDischargeDepth := 20) (contextual := true) [vetoStop, H]

/-- `eventAtLevel` does not go to NO_PLAN. -/
@[simp] theorem eventAtLevel_awake (s : State) (H : s.seq.state ≠ .noPlan) :
    (eventAtLevel s).seq.state ≠ .noPlan := by
  unfold eventAtLevel
  (repeat' (first | split | dsimp only)) <;> simp (maxDischargeDepth := 20) (contextual := true) [H]

/-- `sequencerAtLevel` does not go to NO_PLAN. -/
@[simp] theorem sequencerAtLevel_awake (s : State) (H : s.seq.state ≠ .noPlan) :
    (sequencerAtLevel s).seq.state ≠ .noPlan := by
  unfold sequencerAtLevel
  (repeat' (first | split | dsimp only)) <;> simp (maxDischargeDepth := 20) (contextual := true) [H]

/-- `changeLevel` does not go to NO_PLAN. -/
@[simp] theorem changeLevel_awake (new : Level) (s : State) (H : s.seq.state ≠ .noPlan) :
    (changeLevel new s).seq.state ≠ .noPlan := by
  unfold changeLevel
  (repeat' (first | split | dsimp only)) <;> simp (maxDischargeDepth := 20) (contextual := true) [H]

/-- `recompute` does not go to NO_PLAN. -/
@[simp] theorem recompute_awake (s : State) (H : s.seq.state ≠ .noPlan) :
    (recompute s).seq.state ≠ .noPlan := by
  unfold recompute
  (repeat' (first | split | dsimp only)) <;> simp (maxDischargeDepth := 20) (contextual := true) [H]

/-- `healthChange` does not go to NO_PLAN. -/
@[simp] theorem healthChange_awake (i : Fin 6) (s : State) (H : s.seq.state ≠ .noPlan) :
    (healthChange i s).seq.state ≠ .noPlan := by
  simp only [healthChange]
  simp (maxDischargeDepth := 20) (contextual := true) [H]

/-- `setHealth` does not go to NO_PLAN. -/
@[simp] theorem setHealth_awake (i : Fin 6) (new : Health) (s : State) (H : s.seq.state ≠ .noPlan) :
    (setHealth i new s).seq.state ≠ .noPlan := by
  simp (maxDischargeDepth := 20) (contextual := true) [setHealth, H]

/-- `revote` does not go to NO_PLAN. -/
@[simp] theorem revote_awake (i : Fin 6) (old : Level) (s : State) (H : s.seq.state ≠ .noPlan) :
    (revote i old s).seq.state ≠ .noPlan := by
  simp only [revote]
  split <;> simp (maxDischargeDepth := 20) (contextual := true) [H]

/-- `clearWindow` does not go to NO_PLAN. -/
@[simp] theorem clearWindow_awake (i : Fin 6) (s : State) (H : s.seq.state ≠ .noPlan) :
    (clearWindow i s).seq.state ≠ .noPlan := by
  simp (maxDischargeDepth := 20) (contextual := true) [clearWindow, H]

/-- `settleArrival` does not go to NO_PLAN. -/
@[simp] theorem settleArrival_awake (i : Fin 6) (s : State) (H : s.seq.state ≠ .noPlan) :
    (settleArrival i s).seq.state ≠ .noPlan := by
  unfold settleArrival
  (repeat' (first | split | dsimp only)) <;> simp (maxDischargeDepth := 20) (contextual := true) [H]

/-- `enterArrival` does not go to NO_PLAN. -/
@[simp] theorem enterArrival_awake (i : Fin 6) (v : Nat) (s : State) (H : s.seq.state ≠ .noPlan) :
    (enterArrival i v s).seq.state ≠ .noPlan := by
  simp only [enterArrival]
  simp (maxDischargeDepth := 20) (contextual := true) [H]

/-- `arrival` does not go to NO_PLAN. -/
@[simp] theorem arrival_awake (i : Fin 6) (v : Nat) (s : State) (H : s.seq.state ≠ .noPlan) :
    (arrival i v s).seq.state ≠ .noPlan := by
  simp (maxDischargeDepth := 20) (contextual := true) [arrival, H]

/-- `takeSample` does not go to NO_PLAN. -/
@[simp] theorem takeSample_awake (i : Fin 6) (a : Sample) (s : State) (H : s.seq.state ≠ .noPlan) :
    (takeSample i a s).seq.state ≠ .noPlan := by
  simp only [takeSample]
  split <;> simp (maxDischargeDepth := 20) (contextual := true) [H]

/-- `takeFillers` does not go to NO_PLAN. -/
@[simp] theorem takeFillers_awake (i : Fin 6) (n : Nat) (s : State) (H : s.seq.state ≠ .noPlan) :
    (takeFillers i n s).seq.state ≠ .noPlan := by
  induction n generalizing s with
  | zero => exact H
  | succ n ih => exact ih _ (by simp [H])

/-- `newWindow` does not go to NO_PLAN. -/
@[simp] theorem newWindow_awake (i : Fin 6) (seq : Byte) (a : Sample) (s : State) (H : s.seq.state ≠ .noPlan) :
    (newWindow i seq a s).seq.state ≠ .noPlan := by
  simp (maxDischargeDepth := 20) (contextual := true) [newWindow, H]

/-- `startSettling` does not go to NO_PLAN. -/
@[simp] theorem startSettling_awake (i : Fin 6) (seq : Byte) (a : Sample) (s : State) (H : s.seq.state ≠ .noPlan) :
    (startSettling i seq a s).seq.state ≠ .noPlan := by
  simp (maxDischargeDepth := 20) (contextual := true) [startSettling, H]

/-- `resettle` does not go to NO_PLAN. -/
@[simp] theorem resettle_awake (i : Fin 6) (seq : Byte) (a : Sample) (s : State) (H : s.seq.state ≠ .noPlan) :
    (resettle i seq a s).seq.state ≠ .noPlan := by
  simp only [resettle]
  split <;> simp (maxDischargeDepth := 20) (contextual := true) [H]

/-- `continueWindow` does not go to NO_PLAN. -/
@[simp] theorem continueWindow_awake (i : Fin 6) (seq : Byte) (a : Sample) (s : State) (H : s.seq.state ≠ .noPlan) :
    (continueWindow i seq a s).seq.state ≠ .noPlan := by
  unfold continueWindow
  (repeat' (first | split | dsimp only)) <;> simp (maxDischargeDepth := 20) (contextual := true) [H]

/-- `validFrame` does not go to NO_PLAN. -/
@[simp] theorem validFrame_awake (i : Fin 6) (seq : Byte) (a : Sample) (s : State) (H : s.seq.state ≠ .noPlan) :
    (validFrame i seq a s).seq.state ≠ .noPlan := by
  simp only [validFrame]
  split <;> simp (maxDischargeDepth := 20) (contextual := true) [H]

/-- `checkFrame` does not go to NO_PLAN. -/
@[simp] theorem checkFrame_awake (i : Fin 6) (bytes : List Byte) (bad : Bool) (s : State) (H : s.seq.state ≠ .noPlan) :
    (checkFrame i bytes bad s).seq.state ≠ .noPlan := by
  unfold checkFrame
  (repeat' (first | split | dsimp only)) <;> simp (maxDischargeDepth := 20) (contextual := true) [H]

/-- `sensorByte` does not go to NO_PLAN. -/
@[simp] theorem sensorByte_awake (i : Fin 6) (s : State) (b : LineByte) (H : s.seq.state ≠ .noPlan) :
    (sensorByte i s b).seq.state ≠ .noPlan := by
  unfold sensorByte
  (repeat' (first | split | dsimp only)) <;> simp (maxDischargeDepth := 20) (contextual := true) [H]

/-- `gapExpiry` does not go to NO_PLAN. -/
@[simp] theorem gapExpiry_awake (i : Fin 6) (s : State) (H : s.seq.state ≠ .noPlan) :
    (gapExpiry i s).seq.state ≠ .noPlan := by
  unfold gapExpiry
  (repeat' (first | split | dsimp only)) <;> simp (maxDischargeDepth := 20) (contextual := true) [H]

/-- `pollResolved` does not go to NO_PLAN. -/
@[simp] theorem pollResolved_awake (o : Order) (s : State) (H : s.seq.state ≠ .noPlan) :
    (pollResolved o s).seq.state ≠ .noPlan := by
  simp only [pollResolved]
  split <;> simp (maxDischargeDepth := 20) (contextual := true) [H]

/-- `resolve` does not go to NO_PLAN. -/
@[simp] theorem resolve_awake (f : InFlight) (st : Fin 16) (r : Result) (outs : Option (Vector OutputStatus 4)) (s : State)
    (H : s.seq.state ≠ .noPlan) :
    (resolve f st r outs s).seq.state ≠ .noPlan := by
  simp (maxDischargeDepth := 20) (contextual := true) [resolve, H]

/-- `matchingReply` does not go to NO_PLAN. -/
@[simp] theorem matchingReply_awake (f : InFlight) (st : Fin 16) (r : Result) (outs : Vector OutputStatus 4) (s : State)
    (H : s.seq.state ≠ .noPlan) :
    (matchingReply f st r outs s).seq.state ≠ .noPlan := by
  simp (maxDischargeDepth := 20) (contextual := true) [matchingReply, H]

/-- `replyFrameTaken` does not go to NO_PLAN. -/
@[simp] theorem replyFrameTaken_awake (src tag : Byte) (r : Result) (outs : Vector OutputStatus 4) (s : State)
    (H : s.seq.state ≠ .noPlan) :
    (replyFrameTaken src tag r outs s).seq.state ≠ .noPlan := by
  unfold replyFrameTaken
  (repeat' (first | split | dsimp only)) <;> simp (maxDischargeDepth := 20) (contextual := true) [H]

/-- `loopFrame` does not go to NO_PLAN. -/
@[simp] theorem loopFrame_awake (bytes : List Byte) (bad : Bool) (s : State) (H : s.seq.state ≠ .noPlan) :
    (loopFrame bytes bad s).seq.state ≠ .noPlan := by
  unfold loopFrame
  (repeat' (first | split | dsimp only)) <;> simp (maxDischargeDepth := 20) (contextual := true) [H]

/-- `loopByte` does not go to NO_PLAN. -/
@[simp] theorem loopByte_awake (s : State) (b : LineByte) (H : s.seq.state ≠ .noPlan) :
    (loopByte s b).seq.state ≠ .noPlan := by
  unfold loopByte
  (repeat' (first | split | dsimp only)) <;> simp (maxDischargeDepth := 20) (contextual := true) [H]

/-- `afterTimeout` does not go to NO_PLAN. -/
@[simp] theorem afterTimeout_awake (f : InFlight) (st : Fin 16) (s : State) (H : s.seq.state ≠ .noPlan) :
    (afterTimeout f st s).seq.state ≠ .noPlan := by
  simp only [afterTimeout]
  split <;> simp (maxDischargeDepth := 20) (contextual := true) [H]

/-- `replyTimeout` does not go to NO_PLAN. -/
@[simp] theorem replyTimeout_awake (s : State) (H : s.seq.state ≠ .noPlan) :
    (replyTimeout s).seq.state ≠ .noPlan := by
  unfold replyTimeout
  (repeat' (first | split | dsimp only)) <;> simp (maxDischargeDepth := 20) (contextual := true) [H]

/-- `settleExpiry` does not go to NO_PLAN. -/
@[simp] theorem settleExpiry_awake (p : Fin 64) (s : State) (H : s.seq.state ≠ .noPlan) :
    (settleExpiry p s).seq.state ≠ .noPlan := by
  simp only [settleExpiry]
  split <;> simp (maxDischargeDepth := 20) (contextual := true) [H]

/-- `shedTimeout` does not go to NO_PLAN. -/
@[simp] theorem shedTimeout_awake (k : Nat) (s : State) (H : s.seq.state ≠ .noPlan) :
    (shedTimeout k s).seq.state ≠ .noPlan := by
  simp (maxDischargeDepth := 20) (contextual := true) [shedTimeout, H]

/-- `restartTimeout` does not go to NO_PLAN. -/
@[simp] theorem restartTimeout_awake (k : Nat) (s : State) (H : s.seq.state ≠ .noPlan) :
    (restartTimeout k s).seq.state ≠ .noPlan := by
  simp (maxDischargeDepth := 20) (contextual := true) [restartTimeout, H]

/-- `enableStation` does not go to NO_PLAN. -/
@[simp] theorem enableStation_awake (s : State) (i : Fin 6) (H : s.seq.state ≠ .noPlan) :
    (enableStation s i).seq.state ≠ .noPlan := by
  simp only [enableStation]
  split <;> simp (maxDischargeDepth := 20) (contextual := true) [H]

/-- `loadHandOver` does not go to NO_PLAN. -/
@[simp] theorem loadHandOver_awake (s : State) (H : s.seq.state ≠ .noPlan) :
    (loadHandOver s).seq.state ≠ .noPlan := by
  simp (maxDischargeDepth := 20) (contextual := true) [loadHandOver, H]

/-- `beginRound` does not go to NO_PLAN. -/
@[simp] theorem beginRound_awake (s : State) (H : s.seq.state ≠ .noPlan) :
    (beginRound s).seq.state ≠ .noPlan := by
  simp (maxDischargeDepth := 20) (contextual := true) [beginRound, H]

/-- `loadSucceeds` does not go to NO_PLAN. -/
@[simp] theorem loadSucceeds_awake (p : Plan) (s : State) (H : s.seq.state ≠ .noPlan) :
    (loadSucceeds p s).seq.state ≠ .noPlan := by
  simp (maxDischargeDepth := 20) (contextual := true) [loadSucceeds, H]

/-- `commitSequencer` does not go to NO_PLAN. -/
@[simp] theorem commitSequencer_awake (s : State) (H : s.seq.state ≠ .noPlan) :
    (commitSequencer s).seq.state ≠ .noPlan := by
  simp (maxDischargeDepth := 20) (contextual := true) [commitSequencer, H]

/-- `commitStation` does not go to NO_PLAN. -/
@[simp] theorem commitStation_awake (old : Plan) (s : State) (i : Fin 6) (H : s.seq.state ≠ .noPlan) :
    (commitStation old s i).seq.state ≠ .noPlan := by
  simp only [commitStation]
  split <;> simp (maxDischargeDepth := 20) (contextual := true) [H]

/-- `commitQuiet` does not go to NO_PLAN. -/
@[simp] theorem commitQuiet_awake (s : State) (H : s.seq.state ≠ .noPlan) :
    (commitQuiet s).seq.state ≠ .noPlan := by
  unfold commitQuiet
  (repeat' (first | split | dsimp only)) <;> simp (maxDischargeDepth := 20) (contextual := true) [H]

/-- `commitHandOver` does not go to NO_PLAN. -/
@[simp] theorem commitHandOver_awake (old : Plan) (s : State) (H : s.seq.state ≠ .noPlan) :
    (commitHandOver old s).seq.state ≠ .noPlan := by
  simp (maxDischargeDepth := 20) (contextual := true) [commitHandOver, H]

/-- `leaveNoPlan` does not go to NO_PLAN. -/
@[simp] theorem leaveNoPlan_awake (s : State) (H : s.seq.state ≠ .noPlan) :
    (leaveNoPlan s).seq.state ≠ .noPlan := by
  simp only [leaveNoPlan]
  split <;> simp (maxDischargeDepth := 20) (contextual := true) [H]

/-- `commitPlan` does not go to NO_PLAN. -/
@[simp] theorem commitPlan_awake (p : Fin 3) (shadow : Plan) (s : State) (H : s.seq.state ≠ .noPlan) :
    (commitPlan p shadow s).seq.state ≠ .noPlan := by
  simp (maxDischargeDepth := 20) (contextual := true) [commitPlan, H]

/-- `ownerCommit` does not go to NO_PLAN. -/
@[simp] theorem ownerCommit_awake (p : Fin 3) (save : Bool) (s : State) (H : s.seq.state ≠ .noPlan) :
    (ownerCommit p save s).seq.state ≠ .noPlan := by
  unfold ownerCommit
  (repeat' (first | split | dsimp only)) <;> simp (maxDischargeDepth := 20) (contextual := true) [H]

/-- `grantRestart` does not go to NO_PLAN. -/
@[simp] theorem grantRestart_awake (p : Fin 3) (s : State) (H : s.seq.state ≠ .noPlan) :
    (grantRestart p s).seq.state ≠ .noPlan := by
  simp (maxDischargeDepth := 20) (contextual := true) [grantRestart, H]

/-- `ownerConsent` does not go to NO_PLAN. -/
@[simp] theorem ownerConsent_awake (p : Fin 3) (s : State) (H : s.seq.state ≠ .noPlan) :
    (ownerConsent p s).seq.state ≠ .noPlan := by
  unfold ownerConsent
  (repeat' (first | split | dsimp only)) <;> simp (maxDischargeDepth := 20) (contextual := true) [H]

/-- `vetoEffect` does not go to NO_PLAN. -/
@[simp] theorem vetoEffect_awake (s : State) (H : s.seq.state ≠ .noPlan) :
    (vetoEffect s).seq.state ≠ .noPlan := by
  unfold vetoEffect
  (repeat' (first | split | dsimp only)) <;> simp (maxDischargeDepth := 20) (contextual := true) [H]

/-- `ownerVeto` does not go to NO_PLAN. -/
@[simp] theorem ownerVeto_awake (p : Fin 3) (s : State) (H : s.seq.state ≠ .noPlan) :
    (ownerVeto p s).seq.state ≠ .noPlan := by
  unfold ownerVeto
  (repeat' (first | split | dsimp only)) <;> simp (maxDischargeDepth := 20) (contextual := true) [H]

/-- `placeManual` does not go to NO_PLAN. -/
@[simp] theorem placeManual_awake (p : Fin 3) (i : Fin 64) (s : State) (H : s.seq.state ≠ .noPlan) :
    (placeManual p i s).seq.state ≠ .noPlan := by
  simp only [placeManual]
  split <;> simp (maxDischargeDepth := 20) (contextual := true) [H]

/-- `ownerManualRestore` does not go to NO_PLAN. -/
@[simp] theorem ownerManualRestore_awake (p : Fin 3) (i : Fin 64) (s : State) (H : s.seq.state ≠ .noPlan) :
    (ownerManualRestore p i s).seq.state ≠ .noPlan := by
  unfold ownerManualRestore
  (repeat' (first | split | dsimp only)) <;> simp (maxDischargeDepth := 20) (contextual := true) [H]

end Sys2Proof.Machine
end

