-- ==== Sys2Proof/Laws/FaultLineKeeps.lean ====
section
/-! SUPPORT. Which operations keep the FAULT line. -/

namespace Sys2Proof.Machine

/-- The FAULT line stands as the statuses say under a policy (R180). -/
def LineOk (line : Bool) (status : Vector Bool 12) (policy : Vector Policy 12) : Prop :=
  line = FaultKind.all.any (fun k => status[k.idx] && !policy[k.idx].masked && policy[k.idx].severity == .degrading)

/-- The invariant of the statements, read through its three parts. -/
theorem faultLineOk_iff (s : State) : FaultLineOk s ↔ LineOk s.fmn.line s.fmn.status s.pls.active.policy := Iff.rfl

/-- What each step of a fold keeps, the fold keeps. -/
@[simp] theorem foldl_faultLine {α : Type} (g : State → α → State) (hl : ∀ s a, (g s a).pls = s.pls)
    (hg : ∀ s a (pol : Vector Policy 12), s.pls.active.policy = pol → LineOk s.fmn.line s.fmn.status pol →
      LineOk (g s a).fmn.line (g s a).fmn.status pol)
    (l : List α) (s : State) (pol : Vector Policy 12) (hp : s.pls.active.policy = pol)
    (H : LineOk s.fmn.line s.fmn.status pol) : LineOk (l.foldl g s).fmn.line (l.foldl g s).fmn.status pol := by
  induction l generalizing s with
  | nil => exact H
  | cons a l ih => exact ih _ (by rw [hl]; exact hp) (hg s a pol hp H)

/-- Driving the FAULT line makes it stand as the statuses say (R180). -/
theorem driveFault_line (s : State) :
    LineOk (driveFault s).fmn.line (driveFault s).fmn.status s.pls.active.policy := rfl

/-- `driveFault` keeps the FAULT line with the statuses and the policy. -/
@[simp] theorem driveFault_faultLine (s : State) (pol : Vector Policy 12) (hp : s.pls.active.policy = pol) :
    LineOk (driveFault s).fmn.line (driveFault s).fmn.status pol := by
  subst hp
  exact driveFault_line s

/-- `offerFault` keeps the FAULT line with the statuses and the policy. -/
@[simp] theorem offerFault_faultLine (k : FaultKind) (d : Detail) (s : State) (pol : Vector Policy 12)
    (hp : s.pls.active.policy = pol) (H : LineOk s.fmn.line s.fmn.status pol) :
    LineOk (offerFault k d s).fmn.line (offerFault k d s).fmn.status pol := by
  unfold offerFault
  (repeat' (first | split | dsimp only)) <;> simp (maxDischargeDepth := 20) (contextual := true) [hp, H]

/-- `setStatus` keeps the FAULT line with the statuses and the policy. -/
@[simp] theorem setStatus_faultLine (k : FaultKind) (d : Detail) (s : State) (pol : Vector Policy 12)
    (hp : s.pls.active.policy = pol) :
    LineOk (setStatus k d s).fmn.line (setStatus k d s).fmn.status pol := by
  subst hp
  simp only [setStatus]
  exact driveFault_faultLine _ _ (by simp)

/-- `raiseOverrun` keeps the FAULT line with the statuses and the policy. -/
@[simp] theorem raiseOverrun_faultLine (port : Option (Fin 3)) (s : State) (pol : Vector Policy 12)
    (hp : s.pls.active.policy = pol) (H : LineOk s.fmn.line s.fmn.status pol) :
    LineOk (raiseOverrun port s).fmn.line (raiseOverrun port s).fmn.status pol := by
  unfold raiseOverrun
  (repeat' (first | split | dsimp only)) <;> simp (maxDischargeDepth := 20) (contextual := true) [hp, H]

/-- `post` keeps the FAULT line with the statuses and the policy. -/
@[simp] theorem post_faultLine (b : Body) (s : State) (pol : Vector Policy 12) (hp : s.pls.active.policy = pol)
    (H : LineOk s.fmn.line s.fmn.status pol) :
    LineOk (post b s).fmn.line (post b s).fmn.status pol := by
  simp (maxDischargeDepth := 20) (contextual := true) [post, hp, H]

/-- `raiseFault` keeps the FAULT line with the statuses and the policy. -/
@[simp] theorem raiseFault_faultLine (k : FaultKind) (d : Detail) (s : State) (pol : Vector Policy 12)
    (hp : s.pls.active.policy = pol) (H : LineOk s.fmn.line s.fmn.status pol) :
    LineOk (raiseFault k d s).fmn.line (raiseFault k d s).fmn.status pol := by
  simp only [raiseFault]
  split <;> simp (maxDischargeDepth := 20) (contextual := true) [hp, H]

/-- `setCondition` keeps the FAULT line with the statuses and the policy. -/
@[simp] theorem setCondition_faultLine (k : FaultKind) (v : Bool) (s : State) (pol : Vector Policy 12)
    (hp : s.pls.active.policy = pol) (H : LineOk s.fmn.line s.fmn.status pol) :
    LineOk (setCondition k v s).fmn.line (setCondition k v s).fmn.status pol := by
  cases k <;> exact H

/-- `reportTrue` keeps the FAULT line with the statuses and the policy. -/
@[simp] theorem reportTrue_faultLine (k : FaultKind) (d : Detail) (s : State) (pol : Vector Policy 12)
    (hp : s.pls.active.policy = pol) (H : LineOk s.fmn.line s.fmn.status pol) :
    LineOk (reportTrue k d s).fmn.line (reportTrue k d s).fmn.status pol := by
  simp (maxDischargeDepth := 20) (contextual := true) [reportTrue, hp, H]

/-- `reportFalse` keeps the FAULT line with the statuses and the policy. -/
@[simp] theorem reportFalse_faultLine (k : FaultKind) (s : State) (pol : Vector Policy 12) (hp : s.pls.active.policy = pol)
    (H : LineOk s.fmn.line s.fmn.status pol) :
    LineOk (reportFalse k s).fmn.line (reportFalse k s).fmn.status pol := by
  simp (maxDischargeDepth := 20) (contextual := true) [reportFalse, hp, H]

/-- `changePoint` keeps the FAULT line with the statuses and the policy. -/
@[simp] theorem changePoint_faultLine (p : Fin 64) (new : PointState) (c : Cause) (s : State) (pol : Vector Policy 12)
    (hp : s.pls.active.policy = pol) (H : LineOk s.fmn.line s.fmn.status pol) :
    LineOk (changePoint p new c s).fmn.line (changePoint p new c s).fmn.status pol := by
  simp (maxDischargeDepth := 20) (contextual := true) [changePoint, hp, H]

/-- `movePoint` keeps the FAULT line with the statuses and the policy. -/
@[simp] theorem movePoint_faultLine (p : Fin 64) (new : PointState) (c : Cause) (s : State) (pol : Vector Policy 12)
    (hp : s.pls.active.policy = pol) (H : LineOk s.fmn.line s.fmn.status pol) :
    LineOk (movePoint p new c s).fmn.line (movePoint p new c s).fmn.status pol := by
  simp (maxDischargeDepth := 20) (contextual := true) [movePoint, hp, H]

/-- `wantShedBare` keeps the FAULT line with the statuses and the policy. -/
@[simp] theorem wantShedBare_faultLine (p : Fin 64) (c : Cause) (s : State) (pol : Vector Policy 12)
    (hp : s.pls.active.policy = pol) (H : LineOk s.fmn.line s.fmn.status pol) :
    LineOk (wantShedBare p c s).fmn.line (wantShedBare p c s).fmn.status pol := by
  simp only [wantShedBare]
  split <;> simp (maxDischargeDepth := 20) (contextual := true) [hp, H]

/-- `wantShed` keeps the FAULT line with the statuses and the policy. -/
@[simp] theorem wantShed_faultLine (p : Fin 64) (c : Cause) (s : State) (pol : Vector Policy 12)
    (hp : s.pls.active.policy = pol) (H : LineOk s.fmn.line s.fmn.status pol) :
    LineOk (wantShed p c s).fmn.line (wantShed p c s).fmn.status pol := by
  simp (maxDischargeDepth := 20) (contextual := true) [wantShed, hp, H]

/-- `cancelPoint` keeps the FAULT line with the statuses and the policy. -/
@[simp] theorem cancelPoint_faultLine (p : Fin 64) (s : State) (pol : Vector Policy 12) (hp : s.pls.active.policy = pol)
    (H : LineOk s.fmn.line s.fmn.status pol) :
    LineOk (cancelPoint p s).fmn.line (cancelPoint p s).fmn.status pol := by
  simp (maxDischargeDepth := 20) (contextual := true) [cancelPoint, hp, H]

/-- `dropConsent` keeps the FAULT line with the statuses and the policy. -/
@[simp] theorem dropConsent_faultLine (mark : ConsentMark) (s : State) (pol : Vector Policy 12)
    (hp : s.pls.active.policy = pol) (H : LineOk s.fmn.line s.fmn.status pol) :
    LineOk (dropConsent mark s).fmn.line (dropConsent mark s).fmn.status pol := by
  simp only [dropConsent]
  split <;> simp (maxDischargeDepth := 20) (contextual := true) [hp, H]

/-- `trackerLeaveHalted` keeps the FAULT line with the statuses and the policy. -/
@[simp] theorem trackerLeaveHalted_faultLine (s : State) (pol : Vector Policy 12) (hp : s.pls.active.policy = pol)
    (H : LineOk s.fmn.line s.fmn.status pol) :
    LineOk (trackerLeaveHalted s).fmn.line (trackerLeaveHalted s).fmn.status pol := by
  simp only [trackerLeaveHalted]
  split <;> simp (maxDischargeDepth := 20) (contextual := true) [hp, H]

/-- `trackerQuietCleared` keeps the FAULT line with the statuses and the policy. -/
@[simp] theorem trackerQuietCleared_faultLine (s : State) (pol : Vector Policy 12) (hp : s.pls.active.policy = pol)
    (H : LineOk s.fmn.line s.fmn.status pol) :
    LineOk (trackerQuietCleared s).fmn.line (trackerQuietCleared s).fmn.status pol := by
  simp only [trackerQuietCleared]
  split <;> simp (maxDischargeDepth := 20) (contextual := true) [hp, H]

/-- `consentBackToOpen` keeps the FAULT line with the statuses and the policy. -/
@[simp] theorem consentBackToOpen_faultLine (mark : ConsentMark) (s : State) (pol : Vector Policy 12)
    (hp : s.pls.active.policy = pol) (H : LineOk s.fmn.line s.fmn.status pol) :
    LineOk (consentBackToOpen mark s).fmn.line (consentBackToOpen mark s).fmn.status pol := by
  simp (maxDischargeDepth := 20) (contextual := true) [consentBackToOpen, hp, H]

/-- `setSequence` keeps the FAULT line with the statuses and the policy. -/
@[simp] theorem setSequence_faultLine (new : SeqState) (s : State) (pol : Vector Policy 12)
    (hp : s.pls.active.policy = pol) (H : LineOk s.fmn.line s.fmn.status pol) :
    LineOk (setSequence new s).fmn.line (setSequence new s).fmn.status pol := by
  simp (maxDischargeDepth := 20) (contextual := true) [setSequence, hp, H]

/-- `enterHalted` keeps the FAULT line with the statuses and the policy. -/
@[simp] theorem enterHalted_faultLine (s : State) (pol : Vector Policy 12) (hp : s.pls.active.policy = pol)
    (H : LineOk s.fmn.line s.fmn.status pol) :
    LineOk (enterHalted s).fmn.line (enterHalted s).fmn.status pol := by
  simp (maxDischargeDepth := 20) (contextual := true) [enterHalted, hp, H]

/-- `setShedding` keeps the FAULT line with the statuses and the policy. -/
@[simp] theorem setShedding_faultLine (s : State) (pol : Vector Policy 12) (hp : s.pls.active.policy = pol)
    (H : LineOk s.fmn.line s.fmn.status pol) :
    LineOk (setShedding s).fmn.line (setShedding s).fmn.status pol := by
  simp (maxDischargeDepth := 20) (contextual := true) [setShedding, hp, H]

/-- `openEvent` keeps the FAULT line with the statuses and the policy. -/
@[simp] theorem openEvent_faultLine (s : State) (pol : Vector Policy 12) (hp : s.pls.active.policy = pol)
    (H : LineOk s.fmn.line s.fmn.status pol) :
    LineOk (openEvent s).fmn.line (openEvent s).fmn.status pol := by
  simp (maxDischargeDepth := 20) (contextual := true) [openEvent, hp, H]

/-- `releaseLine` keeps the FAULT line with the statuses and the policy. -/
@[simp] theorem releaseLine_faultLine (l : Fin 4) (s : State) (pol : Vector Policy 12) (hp : s.pls.active.policy = pol)
    (H : LineOk s.fmn.line s.fmn.status pol) :
    LineOk (releaseLine l s).fmn.line (releaseLine l s).fmn.status pol := by
  simp only [releaseLine]
  split <;> simp (maxDischargeDepth := 20) (contextual := true) [hp, H]

/-- `releaseLines` keeps the FAULT line with the statuses and the policy. -/
@[simp] theorem releaseLines_faultLine (s : State) (pol : Vector Policy 12) (hp : s.pls.active.policy = pol)
    (H : LineOk s.fmn.line s.fmn.status pol) :
    LineOk (releaseLines s).fmn.line (releaseLines s).fmn.status pol := by
  simp (maxDischargeDepth := 20) (contextual := true) [releaseLines, hp, H]

/-- `shedStepPoint` keeps the FAULT line with the statuses and the policy. -/
@[simp] theorem shedStepPoint_faultLine (s : State) (p : Fin 64) (pol : Vector Policy 12) (hp : s.pls.active.policy = pol)
    (H : LineOk s.fmn.line s.fmn.status pol) :
    LineOk (shedStepPoint s p).fmn.line (shedStepPoint s p).fmn.status pol := by
  unfold shedStepPoint
  (repeat' (first | split | dsimp only)) <;> simp (maxDischargeDepth := 20) (contextual := true) [hp, H]

/-- `startShedStep` keeps the FAULT line with the statuses and the policy. -/
@[simp] theorem startShedStep_faultLine (k : Nat) (s : State) (pol : Vector Policy 12) (hp : s.pls.active.policy = pol)
    (H : LineOk s.fmn.line s.fmn.status pol) :
    LineOk (startShedStep k s).fmn.line (startShedStep k s).fmn.status pol := by
  simp (maxDischargeDepth := 20) (contextual := true) [startShedStep, hp, H]

/-- `afterShedDone` keeps the FAULT line with the statuses and the policy. -/
@[simp] theorem afterShedDone_faultLine (k : Nat) (s : State) (pol : Vector Policy 12) (hp : s.pls.active.policy = pol)
    (H : LineOk s.fmn.line s.fmn.status pol) :
    LineOk (afterShedDone k s).fmn.line (afterShedDone k s).fmn.status pol := by
  simp only [afterShedDone]
  split <;> simp (maxDischargeDepth := 20) (contextual := true) [hp, H]

/-- `shedStepDone` keeps the FAULT line with the statuses and the policy. -/
@[simp] theorem shedStepDone_faultLine (k : Nat) (s : State) (pol : Vector Policy 12) (hp : s.pls.active.policy = pol)
    (H : LineOk s.fmn.line s.fmn.status pol) :
    LineOk (shedStepDone k s).fmn.line (shedStepDone k s).fmn.status pol := by
  simp (maxDischargeDepth := 20) (contextual := true) [shedStepDone, hp, H]

/-- `withdrawManual` keeps the FAULT line with the statuses and the policy. -/
@[simp] theorem withdrawManual_faultLine (s : State) (p : Fin 64) (pol : Vector Policy 12) (hp : s.pls.active.policy = pol)
    (H : LineOk s.fmn.line s.fmn.status pol) :
    LineOk (withdrawManual s p).fmn.line (withdrawManual s p).fmn.status pol := by
  unfold withdrawManual
  (repeat' (first | split | dsimp only)) <;> simp (maxDischargeDepth := 20) (contextual := true) [hp, H]

/-- `shedFromWatch` keeps the FAULT line with the statuses and the policy. -/
@[simp] theorem shedFromWatch_faultLine (s : State) (pol : Vector Policy 12) (hp : s.pls.active.policy = pol)
    (H : LineOk s.fmn.line s.fmn.status pol) :
    LineOk (shedFromWatch s).fmn.line (shedFromWatch s).fmn.status pol := by
  simp (maxDischargeDepth := 20) (contextual := true) [shedFromWatch, hp, H]

/-- `shedFromHalted` keeps the FAULT line with the statuses and the policy. -/
@[simp] theorem shedFromHalted_faultLine (s : State) (pol : Vector Policy 12) (hp : s.pls.active.policy = pol)
    (H : LineOk s.fmn.line s.fmn.status pol) :
    LineOk (shedFromHalted s).fmn.line (shedFromHalted s).fmn.status pol := by
  simp (maxDischargeDepth := 20) (contextual := true) [shedFromHalted, hp, H]

/-- `checkShedding` keeps the FAULT line with the statuses and the policy. -/
@[simp] theorem checkShedding_faultLine (s : State) (pol : Vector Policy 12) (hp : s.pls.active.policy = pol)
    (H : LineOk s.fmn.line s.fmn.status pol) :
    LineOk (checkShedding s).fmn.line (checkShedding s).fmn.status pol := by
  unfold checkShedding
  (repeat' (first | split | dsimp only)) <;> simp (maxDischargeDepth := 20) (contextual := true) [hp, H]

/-- `closeEvent` keeps the FAULT line with the statuses and the policy. -/
@[simp] theorem closeEvent_faultLine (s : State) (pol : Vector Policy 12) (hp : s.pls.active.policy = pol)
    (H : LineOk s.fmn.line s.fmn.status pol) :
    LineOk (closeEvent s).fmn.line (closeEvent s).fmn.status pol := by
  simp only [closeEvent]
  split <;> simp (maxDischargeDepth := 20) (contextual := true) [hp, H]

/-- `quietRule` keeps the FAULT line with the statuses and the policy. -/
@[simp] theorem quietRule_faultLine (s : State) (pol : Vector Policy 12) (hp : s.pls.active.policy = pol)
    (H : LineOk s.fmn.line s.fmn.status pol) :
    LineOk (quietRule s).fmn.line (quietRule s).fmn.status pol := by
  simp only [quietRule]
  split <;> simp (maxDischargeDepth := 20) (contextual := true) [hp, H]

/-- `enforce` keeps the FAULT line with the statuses and the policy. -/
@[simp] theorem enforce_faultLine (p : Fin 64) (s : State) (pol : Vector Policy 12) (hp : s.pls.active.policy = pol)
    (H : LineOk s.fmn.line s.fmn.status pol) :
    LineOk (enforce p s).fmn.line (enforce p s).fmn.status pol := by
  simp only [enforce]
  split <;> simp (maxDischargeDepth := 20) (contextual := true) [hp, H]

/-- `enforceAtStart` keeps the FAULT line with the statuses and the policy. -/
@[simp] theorem enforceAtStart_faultLine (s : State) (p : Fin 64) (pol : Vector Policy 12) (hp : s.pls.active.policy = pol)
    (H : LineOk s.fmn.line s.fmn.status pol) :
    LineOk (enforceAtStart s p).fmn.line (enforceAtStart s p).fmn.status pol := by
  simp only [enforceAtStart]
  split <;> simp (maxDischargeDepth := 20) (contextual := true) [hp, H]

/-- `startupDecision` keeps the FAULT line with the statuses and the policy. -/
@[simp] theorem startupDecision_faultLine (s : State) (pol : Vector Policy 12) (hp : s.pls.active.policy = pol)
    (H : LineOk s.fmn.line s.fmn.status pol) :
    LineOk (startupDecision s).fmn.line (startupDecision s).fmn.status pol := by
  unfold startupDecision
  (repeat' (first | split | dsimp only)) <;> simp (maxDischargeDepth := 20) (contextual := true) [hp, H]

/-- `checkRound` keeps the FAULT line with the statuses and the policy. -/
@[simp] theorem checkRound_faultLine (s : State) (pol : Vector Policy 12) (hp : s.pls.active.policy = pol)
    (H : LineOk s.fmn.line s.fmn.status pol) :
    LineOk (checkRound s).fmn.line (checkRound s).fmn.status pol := by
  simp only [checkRound]
  split <;> simp (maxDischargeDepth := 20) (contextual := true) [hp, H]

/-- `placeAwait` keeps the FAULT line with the statuses and the policy. -/
@[simp] theorem placeAwait_faultLine (p : Fin 64) (s : State) (pol : Vector Policy 12) (hp : s.pls.active.policy = pol)
    (H : LineOk s.fmn.line s.fmn.status pol) :
    LineOk (placeAwait p s).fmn.line (placeAwait p s).fmn.status pol := by
  simp (maxDischargeDepth := 20) (contextual := true) [placeAwait, hp, H]

/-- `restartStepPoint` keeps the FAULT line with the statuses and the policy. -/
@[simp] theorem restartStepPoint_faultLine (s : State) (p : Fin 64) (pol : Vector Policy 12)
    (hp : s.pls.active.policy = pol) (H : LineOk s.fmn.line s.fmn.status pol) :
    LineOk (restartStepPoint s p).fmn.line (restartStepPoint s p).fmn.status pol := by
  simp only [restartStepPoint]
  split <;> simp (maxDischargeDepth := 20) (contextual := true) [hp, H]

/-- `startRestartStep` keeps the FAULT line with the statuses and the policy. -/
@[simp] theorem startRestartStep_faultLine (k : Nat) (s : State) (pol : Vector Policy 12) (hp : s.pls.active.policy = pol)
    (H : LineOk s.fmn.line s.fmn.status pol) :
    LineOk (startRestartStep k s).fmn.line (startRestartStep k s).fmn.status pol := by
  simp (maxDischargeDepth := 20) (contextual := true) [startRestartStep, hp, H]

/-- `afterRestartDone` keeps the FAULT line with the statuses and the policy. -/
@[simp] theorem afterRestartDone_faultLine (k : Nat) (s : State) (pol : Vector Policy 12) (hp : s.pls.active.policy = pol)
    (H : LineOk s.fmn.line s.fmn.status pol) :
    LineOk (afterRestartDone k s).fmn.line (afterRestartDone k s).fmn.status pol := by
  simp only [afterRestartDone]
  split <;> simp (maxDischargeDepth := 20) (contextual := true) [hp, H]

/-- `restartStepDone` keeps the FAULT line with the statuses and the policy. -/
@[simp] theorem restartStepDone_faultLine (k : Nat) (s : State) (pol : Vector Policy 12) (hp : s.pls.active.policy = pol)
    (H : LineOk s.fmn.line s.fmn.status pol) :
    LineOk (restartStepDone k s).fmn.line (restartStepDone k s).fmn.status pol := by
  simp (maxDischargeDepth := 20) (contextual := true) [restartStepDone, hp, H]

/-- `completeRestart` keeps the FAULT line with the statuses and the policy. -/
@[simp] theorem completeRestart_faultLine (s : State) (pol : Vector Policy 12) (hp : s.pls.active.policy = pol)
    (H : LineOk s.fmn.line s.fmn.status pol) :
    LineOk (completeRestart s).fmn.line (completeRestart s).fmn.status pol := by
  simp (maxDischargeDepth := 20) (contextual := true) [completeRestart, hp, H]

/-- `beginRestart` keeps the FAULT line with the statuses and the policy. -/
@[simp] theorem beginRestart_faultLine (s : State) (pol : Vector Policy 12) (hp : s.pls.active.policy = pol)
    (H : LineOk s.fmn.line s.fmn.status pol) :
    LineOk (beginRestart s).fmn.line (beginRestart s).fmn.status pol := by
  simp only [beginRestart]
  split <;> simp (maxDischargeDepth := 20) (contextual := true) [hp, H]

/-- `gatePost` keeps the FAULT line with the statuses and the policy. -/
@[simp] theorem gatePost_faultLine (p : Fin 64) (s : State) (pol : Vector Policy 12) (hp : s.pls.active.policy = pol)
    (H : LineOk s.fmn.line s.fmn.status pol) :
    LineOk (gatePost p s).fmn.line (gatePost p s).fmn.status pol := by
  simp (maxDischargeDepth := 20) (contextual := true) [gatePost, hp, H]

/-- `settleFor` keeps the FAULT line with the statuses and the policy. -/
@[simp] theorem settleFor_faultLine (n : Nat) (s : State) (pol : Vector Policy 12) (hp : s.pls.active.policy = pol)
    (H : LineOk s.fmn.line s.fmn.status pol) :
    LineOk (settleFor n s).fmn.line (settleFor n s).fmn.status pol := by
  have key : (settleFor n s).pls.active.policy = pol ∧ LineOk (settleFor n s).fmn.line (settleFor n s).fmn.status pol := by
    apply settleFor_keeps (fun t => t.pls.active.policy = pol ∧ LineOk t.fmn.line t.fmn.status pol) ?_ n s ⟨hp, H⟩
    rintro t t' ⟨h1, h2⟩ h
    rcases settleOnce_cases h with h | h | h | ⟨p, h⟩ <;> rw [h] <;> clear h
    · simp [h1, h2]
    · simp [h1, h2]
    · simp [h1, h2]
    · simp [h1, h2]
  exact key.2

/-- `settle` keeps the FAULT line with the statuses and the policy. -/
@[simp] theorem settle_faultLine (s : State) (pol : Vector Policy 12) (hp : s.pls.active.policy = pol)
    (H : LineOk s.fmn.line s.fmn.status pol) :
    LineOk (settle s).fmn.line (settle s).fmn.status pol := by
  simp (maxDischargeDepth := 20) (contextual := true) [settle, hp, H]

/-- `cancelPendingRestore` keeps the FAULT line with the statuses and the policy. -/
@[simp] theorem cancelPendingRestore_faultLine (s : State) (p : Fin 64) (pol : Vector Policy 12)
    (hp : s.pls.active.policy = pol) (H : LineOk s.fmn.line s.fmn.status pol) :
    LineOk (cancelPendingRestore s p).fmn.line (cancelPendingRestore s p).fmn.status pol := by
  simp only [cancelPendingRestore]
  split <;> simp (maxDischargeDepth := 20) (contextual := true) [hp, H]

/-- `shedInFlightRestore` keeps the FAULT line with the statuses and the policy. -/
@[simp] theorem shedInFlightRestore_faultLine (s : State) (p : Fin 64) (pol : Vector Policy 12)
    (hp : s.pls.active.policy = pol) (H : LineOk s.fmn.line s.fmn.status pol) :
    LineOk (shedInFlightRestore s p).fmn.line (shedInFlightRestore s p).fmn.status pol := by
  simp only [shedInFlightRestore]
  split <;> simp (maxDischargeDepth := 20) (contextual := true) [hp, H]

/-- `cancelAwait` keeps the FAULT line with the statuses and the policy. -/
@[simp] theorem cancelAwait_faultLine (s : State) (p : Fin 64) (pol : Vector Policy 12) (hp : s.pls.active.policy = pol)
    (H : LineOk s.fmn.line s.fmn.status pol) :
    LineOk (cancelAwait s p).fmn.line (cancelAwait s p).fmn.status pol := by
  simp only [cancelAwait]
  split <;> simp (maxDischargeDepth := 20) (contextual := true) [hp, H]

/-- `abortRestart` keeps the FAULT line with the statuses and the policy. -/
@[simp] theorem abortRestart_faultLine (s : State) (pol : Vector Policy 12) (hp : s.pls.active.policy = pol)
    (H : LineOk s.fmn.line s.fmn.status pol) :
    LineOk (abortRestart s).fmn.line (abortRestart s).fmn.status pol := by
  simp (maxDischargeDepth := 20) (contextual := true) [abortRestart, hp, H]

/-- `vetoStop` keeps the FAULT line with the statuses and the policy. -/
@[simp] theorem vetoStop_faultLine (s : State) (pol : Vector Policy 12) (hp : s.pls.active.policy = pol)
    (H : LineOk s.fmn.line s.fmn.status pol) :
    LineOk (vetoStop s).fmn.line (vetoStop s).fmn.status pol := by
  simp (maxDischargeDepth := 20) (contextual := true) [vetoStop, hp, H]

/-- `cutGrace` keeps the FAULT line with the statuses and the policy. -/
@[simp] theorem cutGrace_faultLine (s : State) (p : Fin 64) (pol : Vector Policy 12) (hp : s.pls.active.policy = pol)
    (H : LineOk s.fmn.line s.fmn.status pol) :
    LineOk (cutGrace s p).fmn.line (cutGrace s p).fmn.status pol := by
  simp only [cutGrace]
  split <;> simp (maxDischargeDepth := 20) (contextual := true) [hp, H]

/-- `eventAtLevel` keeps the FAULT line with the statuses and the policy. -/
@[simp] theorem eventAtLevel_faultLine (s : State) (pol : Vector Policy 12) (hp : s.pls.active.policy = pol)
    (H : LineOk s.fmn.line s.fmn.status pol) :
    LineOk (eventAtLevel s).fmn.line (eventAtLevel s).fmn.status pol := by
  unfold eventAtLevel
  (repeat' (first | split | dsimp only)) <;> simp (maxDischargeDepth := 20) (contextual := true) [hp, H]

/-- `sequencerAtLevel` keeps the FAULT line with the statuses and the policy. -/
@[simp] theorem sequencerAtLevel_faultLine (s : State) (pol : Vector Policy 12) (hp : s.pls.active.policy = pol)
    (H : LineOk s.fmn.line s.fmn.status pol) :
    LineOk (sequencerAtLevel s).fmn.line (sequencerAtLevel s).fmn.status pol := by
  unfold sequencerAtLevel
  (repeat' (first | split | dsimp only)) <;> simp (maxDischargeDepth := 20) (contextual := true) [hp, H]

/-- `clearQuiet` keeps the FAULT line with the statuses and the policy. -/
@[simp] theorem clearQuiet_faultLine (s : State) (pol : Vector Policy 12) (hp : s.pls.active.policy = pol)
    (H : LineOk s.fmn.line s.fmn.status pol) :
    LineOk (clearQuiet s).fmn.line (clearQuiet s).fmn.status pol := by
  simp only [clearQuiet]
  split <;> simp (maxDischargeDepth := 20) (contextual := true) [hp, H]

/-- `assertLine` keeps the FAULT line with the statuses and the policy. -/
@[simp] theorem assertLine_faultLine (l : Fin 4) (s : State) (pol : Vector Policy 12) (hp : s.pls.active.policy = pol)
    (H : LineOk s.fmn.line s.fmn.status pol) :
    LineOk (assertLine l s).fmn.line (assertLine l s).fmn.status pol := by
  simp only [assertLine]
  split <;> simp (maxDischargeDepth := 20) (contextual := true) [hp, H]

/-- `assertLines` keeps the FAULT line with the statuses and the policy. -/
@[simp] theorem assertLines_faultLine (s : State) (pol : Vector Policy 12) (hp : s.pls.active.policy = pol)
    (H : LineOk s.fmn.line s.fmn.status pol) :
    LineOk (assertLines s).fmn.line (assertLines s).fmn.status pol := by
  simp (maxDischargeDepth := 20) (contextual := true) [assertLines, hp, H]

/-- `changeLevel` keeps the FAULT line with the statuses and the policy. -/
@[simp] theorem changeLevel_faultLine (new : Level) (s : State) (pol : Vector Policy 12) (hp : s.pls.active.policy = pol)
    (H : LineOk s.fmn.line s.fmn.status pol) :
    LineOk (changeLevel new s).fmn.line (changeLevel new s).fmn.status pol := by
  unfold changeLevel
  (repeat' (first | split | dsimp only)) <;> simp (maxDischargeDepth := 20) (contextual := true) [hp, H]

/-- `recompute` keeps the FAULT line with the statuses and the policy. -/
@[simp] theorem recompute_faultLine (s : State) (pol : Vector Policy 12) (hp : s.pls.active.policy = pol)
    (H : LineOk s.fmn.line s.fmn.status pol) :
    LineOk (recompute s).fmn.line (recompute s).fmn.status pol := by
  unfold recompute
  (repeat' (first | split | dsimp only)) <;> simp (maxDischargeDepth := 20) (contextual := true) [hp, H]

/-- `healthyCountEdge` keeps the FAULT line with the statuses and the policy. -/
@[simp] theorem healthyCountEdge_faultLine (h : Nat) (s : State) (pol : Vector Policy 12) (hp : s.pls.active.policy = pol)
    (H : LineOk s.fmn.line s.fmn.status pol) :
    LineOk (healthyCountEdge h s).fmn.line (healthyCountEdge h s).fmn.status pol := by
  unfold healthyCountEdge
  (repeat' (first | split | dsimp only)) <;> simp (maxDischargeDepth := 20) (contextual := true) [hp, H]

/-- `healthChange` keeps the FAULT line with the statuses and the policy. -/
@[simp] theorem healthChange_faultLine (i : Fin 6) (s : State) (pol : Vector Policy 12) (hp : s.pls.active.policy = pol)
    (H : LineOk s.fmn.line s.fmn.status pol) :
    LineOk (healthChange i s).fmn.line (healthChange i s).fmn.status pol := by
  simp only [healthChange]
  simp (maxDischargeDepth := 20) (contextual := true) [hp, H]

/-- `setHealth` keeps the FAULT line with the statuses and the policy. -/
@[simp] theorem setHealth_faultLine (i : Fin 6) (new : Health) (s : State) (pol : Vector Policy 12)
    (hp : s.pls.active.policy = pol) (H : LineOk s.fmn.line s.fmn.status pol) :
    LineOk (setHealth i new s).fmn.line (setHealth i new s).fmn.status pol := by
  simp (maxDischargeDepth := 20) (contextual := true) [setHealth, hp, H]

/-- `revote` keeps the FAULT line with the statuses and the policy. -/
@[simp] theorem revote_faultLine (i : Fin 6) (old : Level) (s : State) (pol : Vector Policy 12)
    (hp : s.pls.active.policy = pol) (H : LineOk s.fmn.line s.fmn.status pol) :
    LineOk (revote i old s).fmn.line (revote i old s).fmn.status pol := by
  simp only [revote]
  split <;> simp (maxDischargeDepth := 20) (contextual := true) [hp, H]

/-- `clearWindow` keeps the FAULT line with the statuses and the policy. -/
@[simp] theorem clearWindow_faultLine (i : Fin 6) (s : State) (pol : Vector Policy 12) (hp : s.pls.active.policy = pol)
    (H : LineOk s.fmn.line s.fmn.status pol) :
    LineOk (clearWindow i s).fmn.line (clearWindow i s).fmn.status pol := by
  simp (maxDischargeDepth := 20) (contextual := true) [clearWindow, hp, H]

/-- `settleArrival` keeps the FAULT line with the statuses and the policy. -/
@[simp] theorem settleArrival_faultLine (i : Fin 6) (s : State) (pol : Vector Policy 12) (hp : s.pls.active.policy = pol)
    (H : LineOk s.fmn.line s.fmn.status pol) :
    LineOk (settleArrival i s).fmn.line (settleArrival i s).fmn.status pol := by
  unfold settleArrival
  (repeat' (first | split | dsimp only)) <;> simp (maxDischargeDepth := 20) (contextual := true) [hp, H]

/-- `enterArrival` keeps the FAULT line with the statuses and the policy. -/
@[simp] theorem enterArrival_faultLine (i : Fin 6) (v : Nat) (s : State) (pol : Vector Policy 12)
    (hp : s.pls.active.policy = pol) (H : LineOk s.fmn.line s.fmn.status pol) :
    LineOk (enterArrival i v s).fmn.line (enterArrival i v s).fmn.status pol := by
  simp only [enterArrival]
  simp (maxDischargeDepth := 20) (contextual := true) [hp, H]

/-- `arrival` keeps the FAULT line with the statuses and the policy. -/
@[simp] theorem arrival_faultLine (i : Fin 6) (v : Nat) (s : State) (pol : Vector Policy 12)
    (hp : s.pls.active.policy = pol) (H : LineOk s.fmn.line s.fmn.status pol) :
    LineOk (arrival i v s).fmn.line (arrival i v s).fmn.status pol := by
  simp (maxDischargeDepth := 20) (contextual := true) [arrival, hp, H]

/-- `takeSample` keeps the FAULT line with the statuses and the policy. -/
@[simp] theorem takeSample_faultLine (i : Fin 6) (a : Sample) (s : State) (pol : Vector Policy 12)
    (hp : s.pls.active.policy = pol) (H : LineOk s.fmn.line s.fmn.status pol) :
    LineOk (takeSample i a s).fmn.line (takeSample i a s).fmn.status pol := by
  simp only [takeSample]
  split <;> simp (maxDischargeDepth := 20) (contextual := true) [hp, H]

/-- `takeFillers` keeps the FAULT line with the statuses and the policy. -/
@[simp] theorem takeFillers_faultLine (i : Fin 6) (n : Nat) (s : State) (pol : Vector Policy 12)
    (hp : s.pls.active.policy = pol) (H : LineOk s.fmn.line s.fmn.status pol) :
    LineOk (takeFillers i n s).fmn.line (takeFillers i n s).fmn.status pol := by
  induction n generalizing s with
  | zero => exact H
  | succ n ih => exact ih _ (by simpa using hp) (by simp [hp, H])

/-- `countCheckError` keeps the FAULT line with the statuses and the policy. -/
@[simp] theorem countCheckError_faultLine (i : Fin 6) (s : State) (pol : Vector Policy 12) (hp : s.pls.active.policy = pol)
    (H : LineOk s.fmn.line s.fmn.status pol) :
    LineOk (countCheckError i s).fmn.line (countCheckError i s).fmn.status pol := by
  simp (maxDischargeDepth := 20) (contextual := true) [countCheckError, hp, H]

/-- `newWindow` keeps the FAULT line with the statuses and the policy. -/
@[simp] theorem newWindow_faultLine (i : Fin 6) (seq : Byte) (a : Sample) (s : State) (pol : Vector Policy 12)
    (hp : s.pls.active.policy = pol) (H : LineOk s.fmn.line s.fmn.status pol) :
    LineOk (newWindow i seq a s).fmn.line (newWindow i seq a s).fmn.status pol := by
  simp (maxDischargeDepth := 20) (contextual := true) [newWindow, hp, H]

/-- `startSettling` keeps the FAULT line with the statuses and the policy. -/
@[simp] theorem startSettling_faultLine (i : Fin 6) (seq : Byte) (a : Sample) (s : State) (pol : Vector Policy 12)
    (hp : s.pls.active.policy = pol) (H : LineOk s.fmn.line s.fmn.status pol) :
    LineOk (startSettling i seq a s).fmn.line (startSettling i seq a s).fmn.status pol := by
  simp (maxDischargeDepth := 20) (contextual := true) [startSettling, hp, H]

/-- `resettle` keeps the FAULT line with the statuses and the policy. -/
@[simp] theorem resettle_faultLine (i : Fin 6) (seq : Byte) (a : Sample) (s : State) (pol : Vector Policy 12)
    (hp : s.pls.active.policy = pol) (H : LineOk s.fmn.line s.fmn.status pol) :
    LineOk (resettle i seq a s).fmn.line (resettle i seq a s).fmn.status pol := by
  simp only [resettle]
  split <;> simp (maxDischargeDepth := 20) (contextual := true) [hp, H]

/-- `continueWindow` keeps the FAULT line with the statuses and the policy. -/
@[simp] theorem continueWindow_faultLine (i : Fin 6) (seq : Byte) (a : Sample) (s : State) (pol : Vector Policy 12)
    (hp : s.pls.active.policy = pol) (H : LineOk s.fmn.line s.fmn.status pol) :
    LineOk (continueWindow i seq a s).fmn.line (continueWindow i seq a s).fmn.status pol := by
  unfold continueWindow
  (repeat' (first | split | dsimp only)) <;> simp (maxDischargeDepth := 20) (contextual := true) [hp, H]

/-- `validFrame` keeps the FAULT line with the statuses and the policy. -/
@[simp] theorem validFrame_faultLine (i : Fin 6) (seq : Byte) (a : Sample) (s : State) (pol : Vector Policy 12)
    (hp : s.pls.active.policy = pol) (H : LineOk s.fmn.line s.fmn.status pol) :
    LineOk (validFrame i seq a s).fmn.line (validFrame i seq a s).fmn.status pol := by
  simp only [validFrame]
  split <;> simp (maxDischargeDepth := 20) (contextual := true) [hp, H]

/-- `checkFrame` keeps the FAULT line with the statuses and the policy. -/
@[simp] theorem checkFrame_faultLine (i : Fin 6) (bytes : List Byte) (bad : Bool) (s : State) (pol : Vector Policy 12)
    (hp : s.pls.active.policy = pol) (H : LineOk s.fmn.line s.fmn.status pol) :
    LineOk (checkFrame i bytes bad s).fmn.line (checkFrame i bytes bad s).fmn.status pol := by
  unfold checkFrame
  (repeat' (first | split | dsimp only)) <;> simp (maxDischargeDepth := 20) (contextual := true) [hp, H]

/-- `sensorByte` keeps the FAULT line with the statuses and the policy. -/
@[simp] theorem sensorByte_faultLine (i : Fin 6) (s : State) (b : LineByte) (pol : Vector Policy 12)
    (hp : s.pls.active.policy = pol) (H : LineOk s.fmn.line s.fmn.status pol) :
    LineOk (sensorByte i s b).fmn.line (sensorByte i s b).fmn.status pol := by
  unfold sensorByte
  (repeat' (first | split | dsimp only)) <;> simp (maxDischargeDepth := 20) (contextual := true) [hp, H]

/-- `abandonFrame` keeps the FAULT line with the statuses and the policy. -/
@[simp] theorem abandonFrame_faultLine (i : Fin 6) (s : State) (pol : Vector Policy 12) (hp : s.pls.active.policy = pol)
    (H : LineOk s.fmn.line s.fmn.status pol) :
    LineOk (abandonFrame i s).fmn.line (abandonFrame i s).fmn.status pol := by
  simp only [abandonFrame]
  split <;> simp (maxDischargeDepth := 20) (contextual := true) [hp, H]

/-- `gapExpiry` keeps the FAULT line with the statuses and the policy. -/
@[simp] theorem gapExpiry_faultLine (i : Fin 6) (s : State) (pol : Vector Policy 12) (hp : s.pls.active.policy = pol)
    (H : LineOk s.fmn.line s.fmn.status pol) :
    LineOk (gapExpiry i s).fmn.line (gapExpiry i s).fmn.status pol := by
  unfold gapExpiry
  (repeat' (first | split | dsimp only)) <;> simp (maxDischargeDepth := 20) (contextual := true) [hp, H]

/-- `warnDone` keeps the FAULT line with the statuses and the policy. -/
@[simp] theorem warnDone_faultLine (p : Fin 64) (s : State) (pol : Vector Policy 12) (hp : s.pls.active.policy = pol)
    (H : LineOk s.fmn.line s.fmn.status pol) :
    LineOk (warnDone p s).fmn.line (warnDone p s).fmn.status pol := by
  simp only [warnDone]
  split <;> simp (maxDischargeDepth := 20) (contextual := true) [hp, H]

/-- `restoreDone` keeps the FAULT line with the statuses and the policy. -/
@[simp] theorem restoreDone_faultLine (p : Fin 64) (s : State) (pol : Vector Policy 12) (hp : s.pls.active.policy = pol)
    (H : LineOk s.fmn.line s.fmn.status pol) :
    LineOk (restoreDone p s).fmn.line (restoreDone p s).fmn.status pol := by
  simp only [restoreDone]
  split <;> simp (maxDischargeDepth := 20) (contextual := true) [hp, H]

/-- `resultDone` keeps the FAULT line with the statuses and the policy. -/
@[simp] theorem resultDone_faultLine (k : MotionKind) (p : Fin 64) (s : State) (pol : Vector Policy 12)
    (hp : s.pls.active.policy = pol) (H : LineOk s.fmn.line s.fmn.status pol) :
    LineOk (resultDone k p s).fmn.line (resultDone k p s).fmn.status pol := by
  simp only [resultDone]
  split <;> simp (maxDischargeDepth := 20) (contextual := true) [hp, H]

/-- `resultNoReply` keeps the FAULT line with the statuses and the policy. -/
@[simp] theorem resultNoReply_faultLine (k : MotionKind) (p : Fin 64) (s : State) (pol : Vector Policy 12)
    (hp : s.pls.active.policy = pol) (H : LineOk s.fmn.line s.fmn.status pol) :
    LineOk (resultNoReply k p s).fmn.line (resultNoReply k p s).fmn.status pol := by
  simp only [resultNoReply]
  split <;> simp (maxDischargeDepth := 20) (contextual := true) [hp, H]

/-- `resultAt` keeps the FAULT line with the statuses and the policy. -/
@[simp] theorem resultAt_faultLine (k : MotionKind) (p : Fin 64) (r : Result) (s : State) (pol : Vector Policy 12)
    (hp : s.pls.active.policy = pol) (H : LineOk s.fmn.line s.fmn.status pol) :
    LineOk (resultAt k p r s).fmn.line (resultAt k p r s).fmn.status pol := by
  simp only [resultAt]
  split <;> simp (maxDischargeDepth := 20) (contextual := true) [hp, H]

/-- `applyResult` keeps the FAULT line with the statuses and the policy. -/
@[simp] theorem applyResult_faultLine (f : InFlight) (r : Result) (s : State) (pol : Vector Policy 12)
    (hp : s.pls.active.policy = pol) (H : LineOk s.fmn.line s.fmn.status pol) :
    LineOk (applyResult f r s).fmn.line (applyResult f r s).fmn.status pol := by
  unfold applyResult
  (repeat' (first | split | dsimp only)) <;> simp (maxDischargeDepth := 20) (contextual := true) [hp, H]

/-- `externalChange` keeps the FAULT line with the statuses and the policy. -/
@[simp] theorem externalChange_faultLine (p : Fin 64) (new : PointState) (s : State) (pol : Vector Policy 12)
    (hp : s.pls.active.policy = pol) (H : LineOk s.fmn.line s.fmn.status pol) :
    LineOk (externalChange p new s).fmn.line (externalChange p new s).fmn.status pol := by
  simp (maxDischargeDepth := 20) (contextual := true) [externalChange, hp, H]

/-- `compareContact` keeps the FAULT line with the statuses and the policy. -/
@[simp] theorem compareContact_faultLine (p : Fin 64) (closed : Bool) (s : State) (pol : Vector Policy 12)
    (hp : s.pls.active.policy = pol) (H : LineOk s.fmn.line s.fmn.status pol) :
    LineOk (compareContact p closed s).fmn.line (compareContact p closed s).fmn.status pol := by
  unfold compareContact
  (repeat' (first | split | dsimp only)) <;> simp (maxDischargeDepth := 20) (contextual := true) [hp, H]

/-- `applyLockout` keeps the FAULT line with the statuses and the policy. -/
@[simp] theorem applyLockout_faultLine (p : Fin 64) (o : OutputStatus) (s : State) (pol : Vector Policy 12)
    (hp : s.pls.active.policy = pol) (H : LineOk s.fmn.line s.fmn.status pol) :
    LineOk (applyLockout p o s).fmn.line (applyLockout p o s).fmn.status pol := by
  unfold applyLockout
  (repeat' (first | split | dsimp only)) <;> simp (maxDischargeDepth := 20) (contextual := true) [hp, H]

/-- `feedbackAt` keeps the FAULT line with the statuses and the policy. -/
@[simp] theorem feedbackAt_faultLine (o : OutputStatus) (p : Fin 64) (s : State) (pol : Vector Policy 12)
    (hp : s.pls.active.policy = pol) (H : LineOk s.fmn.line s.fmn.status pol) :
    LineOk (feedbackAt o p s).fmn.line (feedbackAt o p s).fmn.status pol := by
  simp only [feedbackAt]
  split <;> simp (maxDischargeDepth := 20) (contextual := true) [hp, H]

/-- `feedback` keeps the FAULT line with the statuses and the policy. -/
@[simp] theorem feedback_faultLine (st : Fin 16) (outs : Option (Vector OutputStatus 4)) (s : State)
    (pol : Vector Policy 12) (hp : s.pls.active.policy = pol) (H : LineOk s.fmn.line s.fmn.status pol) :
    LineOk (feedback st outs s).fmn.line (feedback st outs s).fmn.status pol := by
  simp only [feedback]
  split <;> simp (maxDischargeDepth := 20) (contextual := true) [hp, H]

/-- `takeDeferred` keeps the FAULT line with the statuses and the policy. -/
@[simp] theorem takeDeferred_faultLine (f : InFlight) (r : Result) (s : State) (pol : Vector Policy 12)
    (hp : s.pls.active.policy = pol) (H : LineOk s.fmn.line s.fmn.status pol) :
    LineOk (takeDeferred f r s).fmn.line (takeDeferred f r s).fmn.status pol := by
  unfold takeDeferred
  (repeat' (first | split | dsimp only)) <;> simp (maxDischargeDepth := 20) (contextual := true) [hp, H]

/-- `rejoinGate` keeps the FAULT line with the statuses and the policy. -/
@[simp] theorem rejoinGate_faultLine (p : Fin 64) (s : State) (pol : Vector Policy 12) (hp : s.pls.active.policy = pol)
    (H : LineOk s.fmn.line s.fmn.status pol) :
    LineOk (rejoinGate p s).fmn.line (rejoinGate p s).fmn.status pol := by
  simp only [rejoinGate]
  split <;> simp (maxDischargeDepth := 20) (contextual := true) [hp, H]

/-- `handOver` keeps the FAULT line with the statuses and the policy. -/
@[simp] theorem handOver_faultLine (before : Vector PointEntry 64) (s : State) (p : Fin 64) (pol : Vector Policy 12)
    (hp : s.pls.active.policy = pol) (H : LineOk s.fmn.line s.fmn.status pol) :
    LineOk (handOver before s p).fmn.line (handOver before s p).fmn.status pol := by
  simp only [handOver]
  split <;> simp (maxDischargeDepth := 20) (contextual := true) [hp, H]

/-- `lampAfter` keeps the FAULT line with the statuses and the policy. -/
@[simp] theorem lampAfter_faultLine (before : Vector PointEntry 64) (s : State) (p : Fin 64) (pol : Vector Policy 12)
    (hp : s.pls.active.policy = pol) (H : LineOk s.fmn.line s.fmn.status pol) :
    LineOk (lampAfter before s p).fmn.line (lampAfter before s p).fmn.status pol := by
  simp (maxDischargeDepth := 20) (contextual := true) [lampAfter, hp, H]

/-- `takeResolution` keeps the FAULT line with the statuses and the policy. -/
@[simp] theorem takeResolution_faultLine (f : InFlight) (st : Fin 16) (r : Result) (outs : Option (Vector OutputStatus 4)) (s : State) (pol : Vector Policy 12) (hp : s.pls.active.policy = pol) (H : LineOk s.fmn.line s.fmn.status pol) :
    LineOk (takeResolution f st r outs s).fmn.line (takeResolution f st r outs s).fmn.status pol := by
  simp (maxDischargeDepth := 20) (contextual := true) [takeResolution, hp, H]

/-- `unreachablePoint` keeps the FAULT line with the statuses and the policy. -/
@[simp] theorem unreachablePoint_faultLine (s : State) (p : Fin 64) (pol : Vector Policy 12)
    (hp : s.pls.active.policy = pol) (H : LineOk s.fmn.line s.fmn.status pol) :
    LineOk (unreachablePoint s p).fmn.line (unreachablePoint s p).fmn.status pol := by
  unfold unreachablePoint
  (repeat' (first | split | dsimp only)) <;> simp (maxDischargeDepth := 20) (contextual := true) [hp, H]

/-- `stationUnreachable` keeps the FAULT line with the statuses and the policy. -/
@[simp] theorem stationUnreachable_faultLine (st : Fin 16) (s : State) (pol : Vector Policy 12)
    (hp : s.pls.active.policy = pol) (H : LineOk s.fmn.line s.fmn.status pol) :
    LineOk (stationUnreachable st s).fmn.line (stationUnreachable st s).fmn.status pol := by
  simp only [stationUnreachable]
  split <;> simp (maxDischargeDepth := 20) (contextual := true) [hp, H]

/-- `checkUnreachable` keeps the FAULT line with the statuses and the policy. -/
@[simp] theorem checkUnreachable_faultLine (cause : Option (Fin 16)) (s : State) (pol : Vector Policy 12)
    (hp : s.pls.active.policy = pol) (H : LineOk s.fmn.line s.fmn.status pol) :
    LineOk (checkUnreachable cause s).fmn.line (checkUnreachable cause s).fmn.status pol := by
  unfold checkUnreachable
  (repeat' (first | split | dsimp only)) <;> simp (maxDischargeDepth := 20) (contextual := true) [hp, H]

/-- `pollResolved` keeps the FAULT line with the statuses and the policy. -/
@[simp] theorem pollResolved_faultLine (o : Order) (s : State) (pol : Vector Policy 12) (hp : s.pls.active.policy = pol)
    (H : LineOk s.fmn.line s.fmn.status pol) :
    LineOk (pollResolved o s).fmn.line (pollResolved o s).fmn.status pol := by
  simp only [pollResolved]
  split <;> simp (maxDischargeDepth := 20) (contextual := true) [hp, H]

/-- `resolve` keeps the FAULT line with the statuses and the policy. -/
@[simp] theorem resolve_faultLine (f : InFlight) (st : Fin 16) (r : Result) (outs : Option (Vector OutputStatus 4))
    (s : State) (pol : Vector Policy 12) (hp : s.pls.active.policy = pol) (H : LineOk s.fmn.line s.fmn.status pol) :
    LineOk (resolve f st r outs s).fmn.line (resolve f st r outs s).fmn.status pol := by
  simp (maxDischargeDepth := 20) (contextual := true) [resolve, hp, H]

/-- `matchingReply` keeps the FAULT line with the statuses and the policy. -/
@[simp] theorem matchingReply_faultLine (f : InFlight) (st : Fin 16) (r : Result) (outs : Vector OutputStatus 4)
    (s : State) (pol : Vector Policy 12) (hp : s.pls.active.policy = pol) (H : LineOk s.fmn.line s.fmn.status pol) :
    LineOk (matchingReply f st r outs s).fmn.line (matchingReply f st r outs s).fmn.status pol := by
  simp (maxDischargeDepth := 20) (contextual := true) [matchingReply, hp, H]

/-- `replyFrameTaken` keeps the FAULT line with the statuses and the policy. -/
@[simp] theorem replyFrameTaken_faultLine (src tag : Byte) (r : Result) (outs : Vector OutputStatus 4) (s : State)
    (pol : Vector Policy 12) (hp : s.pls.active.policy = pol) (H : LineOk s.fmn.line s.fmn.status pol) :
    LineOk (replyFrameTaken src tag r outs s).fmn.line (replyFrameTaken src tag r outs s).fmn.status pol := by
  unfold replyFrameTaken
  (repeat' (first | split | dsimp only)) <;> simp (maxDischargeDepth := 20) (contextual := true) [hp, H]

/-- `loopFrame` keeps the FAULT line with the statuses and the policy. -/
@[simp] theorem loopFrame_faultLine (bytes : List Byte) (bad : Bool) (s : State) (pol : Vector Policy 12)
    (hp : s.pls.active.policy = pol) (H : LineOk s.fmn.line s.fmn.status pol) :
    LineOk (loopFrame bytes bad s).fmn.line (loopFrame bytes bad s).fmn.status pol := by
  unfold loopFrame
  (repeat' (first | split | dsimp only)) <;> simp (maxDischargeDepth := 20) (contextual := true) [hp, H]

/-- `loopByte` keeps the FAULT line with the statuses and the policy. -/
@[simp] theorem loopByte_faultLine (s : State) (b : LineByte) (pol : Vector Policy 12) (hp : s.pls.active.policy = pol)
    (H : LineOk s.fmn.line s.fmn.status pol) :
    LineOk (loopByte s b).fmn.line (loopByte s b).fmn.status pol := by
  unfold loopByte
  (repeat' (first | split | dsimp only)) <;> simp (maxDischargeDepth := 20) (contextual := true) [hp, H]

/-- `countNoReply` keeps the FAULT line with the statuses and the policy. -/
@[simp] theorem countNoReply_faultLine (st : Fin 16) (s : State) (pol : Vector Policy 12) (hp : s.pls.active.policy = pol)
    (H : LineOk s.fmn.line s.fmn.status pol) :
    LineOk (countNoReply st s).fmn.line (countNoReply st s).fmn.status pol := by
  simp only [countNoReply]
  split <;> simp (maxDischargeDepth := 20) (contextual := true) [hp, H]

/-- `afterTimeout` keeps the FAULT line with the statuses and the policy. -/
@[simp] theorem afterTimeout_faultLine (f : InFlight) (st : Fin 16) (s : State) (pol : Vector Policy 12)
    (hp : s.pls.active.policy = pol) (H : LineOk s.fmn.line s.fmn.status pol) :
    LineOk (afterTimeout f st s).fmn.line (afterTimeout f st s).fmn.status pol := by
  simp only [afterTimeout]
  split <;> simp (maxDischargeDepth := 20) (contextual := true) [hp, H]

/-- `replyTimeout` keeps the FAULT line with the statuses and the policy. -/
@[simp] theorem replyTimeout_faultLine (s : State) (pol : Vector Policy 12) (hp : s.pls.active.policy = pol)
    (H : LineOk s.fmn.line s.fmn.status pol) :
    LineOk (replyTimeout s).fmn.line (replyTimeout s).fmn.status pol := by
  unfold replyTimeout
  (repeat' (first | split | dsimp only)) <;> simp (maxDischargeDepth := 20) (contextual := true) [hp, H]

/-- `graceExpiry` keeps the FAULT line with the statuses and the policy. -/
@[simp] theorem graceExpiry_faultLine (p : Fin 64) (s : State) (pol : Vector Policy 12) (hp : s.pls.active.policy = pol)
    (H : LineOk s.fmn.line s.fmn.status pol) :
    LineOk (graceExpiry p s).fmn.line (graceExpiry p s).fmn.status pol := by
  simp only [graceExpiry]
  split <;> simp (maxDischargeDepth := 20) (contextual := true) [hp, H]

/-- `settleExpiry` keeps the FAULT line with the statuses and the policy. -/
@[simp] theorem settleExpiry_faultLine (p : Fin 64) (s : State) (pol : Vector Policy 12) (hp : s.pls.active.policy = pol)
    (H : LineOk s.fmn.line s.fmn.status pol) :
    LineOk (settleExpiry p s).fmn.line (settleExpiry p s).fmn.status pol := by
  simp only [settleExpiry]
  split <;> simp (maxDischargeDepth := 20) (contextual := true) [hp, H]

/-- `shedWarned` keeps the FAULT line with the statuses and the policy. -/
@[simp] theorem shedWarned_faultLine (s : State) (p : Fin 64) (pol : Vector Policy 12) (hp : s.pls.active.policy = pol)
    (H : LineOk s.fmn.line s.fmn.status pol) :
    LineOk (shedWarned s p).fmn.line (shedWarned s p).fmn.status pol := by
  simp only [shedWarned]
  split <;> simp (maxDischargeDepth := 20) (contextual := true) [hp, H]

/-- `shedTimeout` keeps the FAULT line with the statuses and the policy. -/
@[simp] theorem shedTimeout_faultLine (k : Nat) (s : State) (pol : Vector Policy 12) (hp : s.pls.active.policy = pol)
    (H : LineOk s.fmn.line s.fmn.status pol) :
    LineOk (shedTimeout k s).fmn.line (shedTimeout k s).fmn.status pol := by
  simp (maxDischargeDepth := 20) (contextual := true) [shedTimeout, hp, H]

/-- `failAwait` keeps the FAULT line with the statuses and the policy. -/
@[simp] theorem failAwait_faultLine (s : State) (p : Fin 64) (pol : Vector Policy 12) (hp : s.pls.active.policy = pol)
    (H : LineOk s.fmn.line s.fmn.status pol) :
    LineOk (failAwait s p).fmn.line (failAwait s p).fmn.status pol := by
  simp only [failAwait]
  split <;> simp (maxDischargeDepth := 20) (contextual := true) [hp, H]

/-- `restartTimeout` keeps the FAULT line with the statuses and the policy. -/
@[simp] theorem restartTimeout_faultLine (k : Nat) (s : State) (pol : Vector Policy 12) (hp : s.pls.active.policy = pol)
    (H : LineOk s.fmn.line s.fmn.status pol) :
    LineOk (restartTimeout k s).fmn.line (restartTimeout k s).fmn.status pol := by
  simp (maxDischargeDepth := 20) (contextual := true) [restartTimeout, hp, H]

/-- `enableStation` keeps the FAULT line with the statuses and the policy. -/
@[simp] theorem enableStation_faultLine (s : State) (i : Fin 6) (pol : Vector Policy 12) (hp : s.pls.active.policy = pol)
    (H : LineOk s.fmn.line s.fmn.status pol) :
    LineOk (enableStation s i).fmn.line (enableStation s i).fmn.status pol := by
  simp only [enableStation]
  split <;> simp (maxDischargeDepth := 20) (contextual := true) [hp, H]

/-- `loadHandOver` keeps the FAULT line with the statuses and the policy. -/
@[simp] theorem loadHandOver_faultLine (s : State) (pol : Vector Policy 12) (hp : s.pls.active.policy = pol) :
    LineOk (loadHandOver s).fmn.line (loadHandOver s).fmn.status pol := by
  simp (maxDischargeDepth := 20) (contextual := true) [loadHandOver, hp]

/-- `beginRound` keeps the FAULT line with the statuses and the policy. -/
@[simp] theorem beginRound_faultLine (s : State) (pol : Vector Policy 12) (hp : s.pls.active.policy = pol)
    (H : LineOk s.fmn.line s.fmn.status pol) :
    LineOk (beginRound s).fmn.line (beginRound s).fmn.status pol := by
  simp (maxDischargeDepth := 20) (contextual := true) [beginRound, hp, H]

/-- `loadRecords` keeps the FAULT line with the statuses and the policy. -/
@[simp] theorem loadRecords_faultLine (mark : PlanMark) (reason : LoadReason) (s : State) (pol : Vector Policy 12)
    (hp : s.pls.active.policy = pol) (H : LineOk s.fmn.line s.fmn.status pol) :
    LineOk (loadRecords mark reason s).fmn.line (loadRecords mark reason s).fmn.status pol := by
  simp (maxDischargeDepth := 20) (contextual := true) [loadRecords, hp, H]

/-- `loadFails` keeps the FAULT line with the statuses and the policy. -/
@[simp] theorem loadFails_faultLine (reason : LoadReason) (s : State) (pol : Vector Policy 12)
    (hp : s.pls.active.policy = pol) (H : LineOk s.fmn.line s.fmn.status pol) :
    LineOk (loadFails reason s).fmn.line (loadFails reason s).fmn.status pol := by
  simp (maxDischargeDepth := 20) (contextual := true) [loadFails, hp, H]

/-- `saveSucceeds` keeps the FAULT line with the statuses and the policy. -/
@[simp] theorem saveSucceeds_faultLine (f : SaveFlight) (s : State) (pol : Vector Policy 12)
    (hp : s.pls.active.policy = pol) (H : LineOk s.fmn.line s.fmn.status pol) :
    LineOk (saveSucceeds f s).fmn.line (saveSucceeds f s).fmn.status pol := by
  simp (maxDischargeDepth := 20) (contextual := true) [saveSucceeds, hp, H]

/-- `saveFails` keeps the FAULT line with the statuses and the policy. -/
@[simp] theorem saveFails_faultLine (f : SaveFlight) (s : State) (pol : Vector Policy 12) (hp : s.pls.active.policy = pol)
    (H : LineOk s.fmn.line s.fmn.status pol) :
    LineOk (saveFails f s).fmn.line (saveFails f s).fmn.status pol := by
  simp (maxDischargeDepth := 20) (contextual := true) [saveFails, hp, H]

/-- `leaveUse` keeps the FAULT line with the statuses and the policy. -/
@[simp] theorem leaveUse_faultLine (p : Fin 64) (s : State) (pol : Vector Policy 12) (hp : s.pls.active.policy = pol)
    (H : LineOk s.fmn.line s.fmn.status pol) :
    LineOk (leaveUse p s).fmn.line (leaveUse p s).fmn.status pol := by
  simp (maxDischargeDepth := 20) (contextual := true) [leaveUse, hp, H]

/-- `recheckManual` keeps the FAULT line with the statuses and the policy. -/
@[simp] theorem recheckManual_faultLine (p : Fin 64) (s : State) (pol : Vector Policy 12) (hp : s.pls.active.policy = pol)
    (H : LineOk s.fmn.line s.fmn.status pol) :
    LineOk (recheckManual p s).fmn.line (recheckManual p s).fmn.status pol := by
  simp only [recheckManual]
  split <;> simp (maxDischargeDepth := 20) (contextual := true) [hp, H]

/-- `commitPoint` keeps the FAULT line with the statuses and the policy. -/
@[simp] theorem commitPoint_faultLine (old : Plan) (s : State) (p : Fin 64) (pol : Vector Policy 12)
    (hp : s.pls.active.policy = pol) (H : LineOk s.fmn.line s.fmn.status pol) :
    LineOk (commitPoint old s p).fmn.line (commitPoint old s p).fmn.status pol := by
  simp only [commitPoint]
  split <;> simp (maxDischargeDepth := 20) (contextual := true) [hp, H]

/-- `commitStation` keeps the FAULT line with the statuses and the policy. -/
@[simp] theorem commitStation_faultLine (old : Plan) (s : State) (i : Fin 6) (pol : Vector Policy 12)
    (hp : s.pls.active.policy = pol) (H : LineOk s.fmn.line s.fmn.status pol) :
    LineOk (commitStation old s i).fmn.line (commitStation old s i).fmn.status pol := by
  simp only [commitStation]
  split <;> simp (maxDischargeDepth := 20) (contextual := true) [hp, H]

/-- `commitLoop` keeps the FAULT line with the statuses and the policy. -/
@[simp] theorem commitLoop_faultLine (s : State) (pol : Vector Policy 12) (hp : s.pls.active.policy = pol)
    (H : LineOk s.fmn.line s.fmn.status pol) :
    LineOk (commitLoop s).fmn.line (commitLoop s).fmn.status pol := by
  simp (maxDischargeDepth := 20) (contextual := true) [commitLoop, hp, H]

/-- `commitQuiet` keeps the FAULT line with the statuses and the policy. -/
@[simp] theorem commitQuiet_faultLine (s : State) (pol : Vector Policy 12) (hp : s.pls.active.policy = pol)
    (H : LineOk s.fmn.line s.fmn.status pol) :
    LineOk (commitQuiet s).fmn.line (commitQuiet s).fmn.status pol := by
  unfold commitQuiet
  (repeat' (first | split | dsimp only)) <;> simp (maxDischargeDepth := 20) (contextual := true) [hp, H]

/-- `commitHandOver` keeps the FAULT line with the statuses and the policy. -/
@[simp] theorem commitHandOver_faultLine (old : Plan) (s : State) (pol : Vector Policy 12) (hp : s.pls.active.policy = pol) :
    LineOk (commitHandOver old s).fmn.line (commitHandOver old s).fmn.status pol := by
  simp (maxDischargeDepth := 20) (contextual := true) [commitHandOver, hp]

/-- `leaveNoPlan` keeps the FAULT line with the statuses and the policy. -/
@[simp] theorem leaveNoPlan_faultLine (s : State) (pol : Vector Policy 12) (hp : s.pls.active.policy = pol)
    (H : LineOk s.fmn.line s.fmn.status pol) :
    LineOk (leaveNoPlan s).fmn.line (leaveNoPlan s).fmn.status pol := by
  simp only [leaveNoPlan]
  split <;> simp (maxDischargeDepth := 20) (contextual := true) [hp, H]

/-- `firstConsent` keeps the FAULT line with the statuses and the policy. -/
@[simp] theorem firstConsent_faultLine (p : Fin 3) (s : State) (pol : Vector Policy 12) (hp : s.pls.active.policy = pol)
    (H : LineOk s.fmn.line s.fmn.status pol) :
    LineOk (firstConsent p s).fmn.line (firstConsent p s).fmn.status pol := by
  simp (maxDischargeDepth := 20) (contextual := true) [firstConsent, hp, H]

/-- `grantRestart` keeps the FAULT line with the statuses and the policy. -/
@[simp] theorem grantRestart_faultLine (p : Fin 3) (s : State) (pol : Vector Policy 12) (hp : s.pls.active.policy = pol)
    (H : LineOk s.fmn.line s.fmn.status pol) :
    LineOk (grantRestart p s).fmn.line (grantRestart p s).fmn.status pol := by
  simp (maxDischargeDepth := 20) (contextual := true) [grantRestart, hp, H]

/-- `ownerConsent` keeps the FAULT line with the statuses and the policy. -/
@[simp] theorem ownerConsent_faultLine (p : Fin 3) (s : State) (pol : Vector Policy 12) (hp : s.pls.active.policy = pol)
    (H : LineOk s.fmn.line s.fmn.status pol) :
    LineOk (ownerConsent p s).fmn.line (ownerConsent p s).fmn.status pol := by
  unfold ownerConsent
  (repeat' (first | split | dsimp only)) <;> simp (maxDischargeDepth := 20) (contextual := true) [hp, H]

/-- `setVeto` keeps the FAULT line with the statuses and the policy. -/
@[simp] theorem setVeto_faultLine (p : Fin 3) (v : Bool) (s : State) (pol : Vector Policy 12)
    (hp : s.pls.active.policy = pol) (H : LineOk s.fmn.line s.fmn.status pol) :
    LineOk (setVeto p v s).fmn.line (setVeto p v s).fmn.status pol := by
  simp (maxDischargeDepth := 20) (contextual := true) [setVeto, hp, H]

/-- `vetoEffect` keeps the FAULT line with the statuses and the policy. -/
@[simp] theorem vetoEffect_faultLine (s : State) (pol : Vector Policy 12) (hp : s.pls.active.policy = pol)
    (H : LineOk s.fmn.line s.fmn.status pol) :
    LineOk (vetoEffect s).fmn.line (vetoEffect s).fmn.status pol := by
  unfold vetoEffect
  (repeat' (first | split | dsimp only)) <;> simp (maxDischargeDepth := 20) (contextual := true) [hp, H]

/-- `ownerVeto` keeps the FAULT line with the statuses and the policy. -/
@[simp] theorem ownerVeto_faultLine (p : Fin 3) (s : State) (pol : Vector Policy 12) (hp : s.pls.active.policy = pol)
    (H : LineOk s.fmn.line s.fmn.status pol) :
    LineOk (ownerVeto p s).fmn.line (ownerVeto p s).fmn.status pol := by
  unfold ownerVeto
  (repeat' (first | split | dsimp only)) <;> simp (maxDischargeDepth := 20) (contextual := true) [hp, H]

/-- `ownerFaultClear` keeps the FAULT line with the statuses and the policy. -/
@[simp] theorem ownerFaultClear_faultLine (p : Fin 3) (set : Nat) (s : State) (pol : Vector Policy 12)
    (hp : s.pls.active.policy = pol) (H : LineOk s.fmn.line s.fmn.status pol) :
    LineOk (ownerFaultClear p set s).fmn.line (ownerFaultClear p set s).fmn.status pol := by
  simp (maxDischargeDepth := 20) (contextual := true) [ownerFaultClear, hp, H]

/-- `ownerManualShed` keeps the FAULT line with the statuses and the policy. -/
@[simp] theorem ownerManualShed_faultLine (p : Fin 3) (i : Fin 64) (s : State) (pol : Vector Policy 12)
    (hp : s.pls.active.policy = pol) (H : LineOk s.fmn.line s.fmn.status pol) :
    LineOk (ownerManualShed p i s).fmn.line (ownerManualShed p i s).fmn.status pol := by
  unfold ownerManualShed
  (repeat' (first | split | dsimp only)) <;> simp (maxDischargeDepth := 20) (contextual := true) [hp, H]

/-- `placeManual` keeps the FAULT line with the statuses and the policy. -/
@[simp] theorem placeManual_faultLine (p : Fin 3) (i : Fin 64) (s : State) (pol : Vector Policy 12)
    (hp : s.pls.active.policy = pol) (H : LineOk s.fmn.line s.fmn.status pol) :
    LineOk (placeManual p i s).fmn.line (placeManual p i s).fmn.status pol := by
  simp only [placeManual]
  split <;> simp (maxDischargeDepth := 20) (contextual := true) [hp, H]

/-- `ownerManualRestore` keeps the FAULT line with the statuses and the policy. -/
@[simp] theorem ownerManualRestore_faultLine (p : Fin 3) (i : Fin 64) (s : State) (pol : Vector Policy 12)
    (hp : s.pls.active.policy = pol) (H : LineOk s.fmn.line s.fmn.status pol) :
    LineOk (ownerManualRestore p i s).fmn.line (ownerManualRestore p i s).fmn.status pol := by
  unfold ownerManualRestore
  (repeat' (first | split | dsimp only)) <;> simp (maxDischargeDepth := 20) (contextual := true) [hp, H]

/-- `withdrawConsent` keeps the FAULT line with the statuses and the policy. -/
@[simp] theorem withdrawConsent_faultLine (p : Fin 3) (s : State) (pol : Vector Policy 12) (hp : s.pls.active.policy = pol)
    (H : LineOk s.fmn.line s.fmn.status pol) :
    LineOk (withdrawConsent p s).fmn.line (withdrawConsent p s).fmn.status pol := by
  simp only [withdrawConsent]
  split <;> simp (maxDischargeDepth := 20) (contextual := true) [hp, H]

/-- `portReset` keeps the FAULT line with the statuses and the policy. -/
@[simp] theorem portReset_faultLine (p : Fin 3) (s : State) (pol : Vector Policy 12) (hp : s.pls.active.policy = pol)
    (H : LineOk s.fmn.line s.fmn.status pol) :
    LineOk (portReset p s).fmn.line (portReset p s).fmn.status pol := by
  simp only [portReset]
  refine raiseFault_faultLine _ _ _ pol ?_ (withdrawConsent_faultLine _ _ pol ?_ ?_) <;> split <;> simp [dropClaim, hp, H]

end Sys2Proof.Machine
end

