-- ==== Sys2Proof/Laws/HealthyKeeps.lean ====
section
/-! SUPPORT. Which operations leave the healthy count. -/

namespace Sys2Proof.Machine

/-- A fold of steps that leave `mev.healthy` leaves it. -/
@[simp] theorem foldl_healthy {α : Type} (g : State → α → State)
    (H : ∀ s a, (g s a).mev.healthy = s.mev.healthy) (l : List α) (s : State) :
    (l.foldl g s).mev.healthy = s.mev.healthy := by
  induction l generalizing s with
  | nil => rfl
  | cons a l ih => simp [ih, H]

/-- `resetPeaks` leaves the healthy count. -/
@[simp] theorem resetPeaks_healthy (s : State) :
    (resetPeaks s).mev.healthy = s.mev.healthy := by
  simp [resetPeaks]

/-- `openEvent` leaves the healthy count. -/
@[simp] theorem openEvent_healthy (s : State) :
    (openEvent s).mev.healthy = s.mev.healthy := by
  simp [openEvent]

/-- `closeEvent` leaves the healthy count. -/
@[simp] theorem closeEvent_healthy (s : State) :
    (closeEvent s).mev.healthy = s.mev.healthy := by
  simp only [closeEvent]
  split <;> simp

/-- `quietRule` leaves the healthy count. -/
@[simp] theorem quietRule_healthy (s : State) :
    (quietRule s).mev.healthy = s.mev.healthy := by
  simp only [quietRule]
  split <;> simp

/-- `startupDecision` leaves the healthy count. -/
@[simp] theorem startupDecision_healthy (s : State) :
    (startupDecision s).mev.healthy = s.mev.healthy := by
  unfold startupDecision
  (repeat' (first | split | dsimp only)) <;> simp

/-- `checkRound` leaves the healthy count. -/
@[simp] theorem checkRound_healthy (s : State) :
    (checkRound s).mev.healthy = s.mev.healthy := by
  simp only [checkRound]
  split <;> simp

/-- `completeRestart` leaves the healthy count. -/
@[simp] theorem completeRestart_healthy (s : State) :
    (completeRestart s).mev.healthy = s.mev.healthy := by
  simp [completeRestart]

/-- `settleFor` leaves the healthy count. -/
@[simp] theorem settleFor_healthy (n : Nat) (s : State) :
    (settleFor n s).mev.healthy = s.mev.healthy := by
  refine settleFor_keeps (fun t => t.mev.healthy = s.mev.healthy) ?_ n s rfl
  intro t t' ht h
  rcases settleOnce_cases h with h | h | h | ⟨p, h⟩ <;> rw [h] <;> simpa using ht

/-- `settle` leaves the healthy count. -/
@[simp] theorem settle_healthy (s : State) :
    (settle s).mev.healthy = s.mev.healthy := by
  simp [settle]

/-- `eventAtLevel` leaves the healthy count. -/
@[simp] theorem eventAtLevel_healthy (s : State) :
    (eventAtLevel s).mev.healthy = s.mev.healthy := by
  unfold eventAtLevel
  (repeat' (first | split | dsimp only)) <;> simp

/-- `sequencerAtLevel` leaves the healthy count. -/
@[simp] theorem sequencerAtLevel_healthy (s : State) :
    (sequencerAtLevel s).mev.healthy = s.mev.healthy := by
  unfold sequencerAtLevel
  (repeat' (first | split | dsimp only)) <;> simp

/-- `clearQuiet` leaves the healthy count. -/
@[simp] theorem clearQuiet_healthy (s : State) :
    (clearQuiet s).mev.healthy = s.mev.healthy := by
  simp only [clearQuiet]
  split <;> simp

/-- `changeLevel` leaves the healthy count. -/
@[simp] theorem changeLevel_healthy (new : Level) (s : State) :
    (changeLevel new s).mev.healthy = s.mev.healthy := by
  unfold changeLevel
  (repeat' (first | split | dsimp only)) <;> simp

/-- `recompute` leaves the healthy count. -/
@[simp] theorem recompute_healthy (s : State) :
    (recompute s).mev.healthy = s.mev.healthy := by
  unfold recompute
  (repeat' (first | split | dsimp only)) <;> simp

/-- `healthyCountEdge` leaves the healthy count. -/
@[simp] theorem healthyCountEdge_healthy (h : Nat) (s : State) :
    (healthyCountEdge h s).mev.healthy = s.mev.healthy := by
  unfold healthyCountEdge
  (repeat' (first | split | dsimp only)) <;> simp

/-- `revote` leaves the healthy count. -/
@[simp] theorem revote_healthy (i : Fin 6) (old : Level) (s : State) :
    (revote i old s).mev.healthy = s.mev.healthy := by
  simp only [revote]
  split <;> simp

/-- `clearWindow` leaves the healthy count. -/
@[simp] theorem clearWindow_healthy (i : Fin 6) (s : State) :
    (clearWindow i s).mev.healthy = s.mev.healthy := by
  simp [clearWindow]

/-- `enterArrival` leaves the healthy count. -/
@[simp] theorem enterArrival_healthy (i : Fin 6) (v : Nat) (s : State) :
    (enterArrival i v s).mev.healthy = s.mev.healthy := by
  simp only [enterArrival]
  simp

/-- `raisePeakShaking` leaves the healthy count. -/
@[simp] theorem raisePeakShaking_healthy (i : Fin 6) (shake : Nat) (s : State) :
    (raisePeakShaking i shake s).mev.healthy = s.mev.healthy := by
  simp [raisePeakShaking]

/-- `pollResolved` leaves the healthy count. -/
@[simp] theorem pollResolved_healthy (o : Order) (s : State) :
    (pollResolved o s).mev.healthy = s.mev.healthy := by
  simp only [pollResolved]
  split <;> simp

/-- `resolve` leaves the healthy count. -/
@[simp] theorem resolve_healthy (f : InFlight) (st : Fin 16) (r : Result) (outs : Option (Vector OutputStatus 4)) (s : State) :
    (resolve f st r outs s).mev.healthy = s.mev.healthy := by
  simp [resolve]

/-- `matchingReply` leaves the healthy count. -/
@[simp] theorem matchingReply_healthy (f : InFlight) (st : Fin 16) (r : Result) (outs : Vector OutputStatus 4) (s : State) :
    (matchingReply f st r outs s).mev.healthy = s.mev.healthy := by
  simp [matchingReply]

/-- `replyFrameTaken` leaves the healthy count. -/
@[simp] theorem replyFrameTaken_healthy (src tag : Byte) (r : Result) (outs : Vector OutputStatus 4) (s : State) :
    (replyFrameTaken src tag r outs s).mev.healthy = s.mev.healthy := by
  unfold replyFrameTaken
  (repeat' (first | split | dsimp only)) <;> simp

/-- `loopFrame` leaves the healthy count. -/
@[simp] theorem loopFrame_healthy (bytes : List Byte) (bad : Bool) (s : State) :
    (loopFrame bytes bad s).mev.healthy = s.mev.healthy := by
  unfold loopFrame
  (repeat' (first | split | dsimp only)) <;> simp

/-- `loopByte` leaves the healthy count. -/
@[simp] theorem loopByte_healthy (s : State) (b : LineByte) :
    (loopByte s b).mev.healthy = s.mev.healthy := by
  unfold loopByte
  (repeat' (first | split | dsimp only)) <;> simp

/-- `afterTimeout` leaves the healthy count. -/
@[simp] theorem afterTimeout_healthy (f : InFlight) (st : Fin 16) (s : State) :
    (afterTimeout f st s).mev.healthy = s.mev.healthy := by
  simp only [afterTimeout]
  split <;> simp

/-- `replyTimeout` leaves the healthy count. -/
@[simp] theorem replyTimeout_healthy (s : State) :
    (replyTimeout s).mev.healthy = s.mev.healthy := by
  unfold replyTimeout
  (repeat' (first | split | dsimp only)) <;> simp

/-- `settleExpiry` leaves the healthy count. -/
@[simp] theorem settleExpiry_healthy (p : Fin 64) (s : State) :
    (settleExpiry p s).mev.healthy = s.mev.healthy := by
  simp only [settleExpiry]
  split <;> simp

/-- `shedTimeout` leaves the healthy count. -/
@[simp] theorem shedTimeout_healthy (k : Nat) (s : State) :
    (shedTimeout k s).mev.healthy = s.mev.healthy := by
  simp [shedTimeout]

/-- `restartTimeout` leaves the healthy count. -/
@[simp] theorem restartTimeout_healthy (k : Nat) (s : State) :
    (restartTimeout k s).mev.healthy = s.mev.healthy := by
  simp [restartTimeout]

/-- `beginRound` leaves the healthy count. -/
@[simp] theorem beginRound_healthy (s : State) :
    (beginRound s).mev.healthy = s.mev.healthy := by
  simp [beginRound]

/-- `commitQuiet` leaves the healthy count. -/
@[simp] theorem commitQuiet_healthy (s : State) :
    (commitQuiet s).mev.healthy = s.mev.healthy := by
  unfold commitQuiet
  (repeat' (first | split | dsimp only)) <;> simp

/-- `leaveNoPlan` leaves the healthy count. -/
@[simp] theorem leaveNoPlan_healthy (s : State) :
    (leaveNoPlan s).mev.healthy = s.mev.healthy := by
  simp only [leaveNoPlan]
  split <;> simp

/-- `grantRestart` leaves the healthy count. -/
@[simp] theorem grantRestart_healthy (p : Fin 3) (s : State) :
    (grantRestart p s).mev.healthy = s.mev.healthy := by
  simp [grantRestart]

/-- `ownerConsent` leaves the healthy count. -/
@[simp] theorem ownerConsent_healthy (p : Fin 3) (s : State) :
    (ownerConsent p s).mev.healthy = s.mev.healthy := by
  unfold ownerConsent
  (repeat' (first | split | dsimp only)) <;> simp

/-- `vetoEffect` leaves the healthy count. -/
@[simp] theorem vetoEffect_healthy (s : State) :
    (vetoEffect s).mev.healthy = s.mev.healthy := by
  unfold vetoEffect
  (repeat' (first | split | dsimp only)) <;> simp

/-- `ownerVeto` leaves the healthy count. -/
@[simp] theorem ownerVeto_healthy (p : Fin 3) (s : State) :
    (ownerVeto p s).mev.healthy = s.mev.healthy := by
  unfold ownerVeto
  (repeat' (first | split | dsimp only)) <;> simp

/-- `placeManual` leaves the healthy count. -/
@[simp] theorem placeManual_healthy (p : Fin 3) (i : Fin 64) (s : State) :
    (placeManual p i s).mev.healthy = s.mev.healthy := by
  simp only [placeManual]
  split <;> simp

/-- `ownerManualRestore` leaves the healthy count. -/
@[simp] theorem ownerManualRestore_healthy (p : Fin 3) (i : Fin 64) (s : State) :
    (ownerManualRestore p i s).mev.healthy = s.mev.healthy := by
  unfold ownerManualRestore
  (repeat' (first | split | dsimp only)) <;> simp

end Sys2Proof.Machine
end

