-- ==== Sys2Proof/Laws/JournalKeeps.lean ====
section
/-! SUPPORT. Which operations keep the journal's bounds. -/

namespace Sys2Proof.Machine

/-- What each step of a fold keeps, the fold keeps. -/
@[simp] theorem foldl_journal {α : Type} (g : State → α → State) (hg : ∀ s a, JournalOk s.jrn → JournalOk (g s a).jrn)
    (l : List α) (s : State) (H : JournalOk s.jrn) : JournalOk (l.foldl g s).jrn := by
  induction l generalizing s with
  | nil => exact H
  | cons a l ih => exact ih _ (hg s a H)

/-- A posting keeps the journal's bounds (R169, R171). -/
@[simp] theorem Journal.push_journal (j : Journal) (b : Body) (H : JournalOk j) : JournalOk (j.push b) := by
  obtain ⟨h1, h2⟩ := H
  have hp : ∀ p : Fin 3, (j.push b).unread[p] ≤ (j.push b).ring.length ∧ (j.push b).lost[p] ≤ 255 := by
    intro p
    have := h2 p
    fin_cases p <;> simp [Journal.push, perPort] at * <;> (repeat' split) <;> simp_all <;> omega
  refine ⟨?_, hp⟩
  simp only [Journal.push]
  split <;> simp_all <;> omega

/-- `postRecord` keeps the journal's bounds. -/
@[simp] theorem postRecord_journal (b : Body) (s : State) (H : JournalOk s.jrn) :
    JournalOk (postRecord b s).jrn := by
  simp (maxDischargeDepth := 20) (contextual := true) [postRecord, H]

/-- `setStatus` keeps the journal's bounds. -/
@[simp] theorem setStatus_journal (k : FaultKind) (d : Detail) (s : State) (H : JournalOk s.jrn) :
    JournalOk (setStatus k d s).jrn := by
  simp (maxDischargeDepth := 20) (contextual := true) [setStatus, H]

/-- `raiseOverrun` keeps the journal's bounds. -/
@[simp] theorem raiseOverrun_journal (port : Option (Fin 3)) (s : State) (H : JournalOk s.jrn) :
    JournalOk (raiseOverrun port s).jrn := by
  unfold raiseOverrun
  (repeat' (first | split | dsimp only)) <;> simp (maxDischargeDepth := 20) (contextual := true) [H]

/-- `post` keeps the journal's bounds. -/
@[simp] theorem post_journal (b : Body) (s : State) (H : JournalOk s.jrn) :
    JournalOk (post b s).jrn := by
  simp (maxDischargeDepth := 20) (contextual := true) [post, H]

/-- `raiseFault` keeps the journal's bounds. -/
@[simp] theorem raiseFault_journal (k : FaultKind) (d : Detail) (s : State) (H : JournalOk s.jrn) :
    JournalOk (raiseFault k d s).jrn := by
  simp only [raiseFault]
  split <;> simp (maxDischargeDepth := 20) (contextual := true) [H]

/-- `reportTrue` keeps the journal's bounds. -/
@[simp] theorem reportTrue_journal (k : FaultKind) (d : Detail) (s : State) (H : JournalOk s.jrn) :
    JournalOk (reportTrue k d s).jrn := by
  simp (maxDischargeDepth := 20) (contextual := true) [reportTrue, H]

/-- `changePoint` keeps the journal's bounds. -/
@[simp] theorem changePoint_journal (p : Fin 64) (new : PointState) (c : Cause) (s : State) (H : JournalOk s.jrn) :
    JournalOk (changePoint p new c s).jrn := by
  simp (maxDischargeDepth := 20) (contextual := true) [changePoint, H]

/-- `movePoint` keeps the journal's bounds. -/
@[simp] theorem movePoint_journal (p : Fin 64) (new : PointState) (c : Cause) (s : State) (H : JournalOk s.jrn) :
    JournalOk (movePoint p new c s).jrn := by
  simp (maxDischargeDepth := 20) (contextual := true) [movePoint, H]

/-- `wantShedBare` keeps the journal's bounds. -/
@[simp] theorem wantShedBare_journal (p : Fin 64) (c : Cause) (s : State) (H : JournalOk s.jrn) :
    JournalOk (wantShedBare p c s).jrn := by
  simp only [wantShedBare]
  split <;> simp (maxDischargeDepth := 20) (contextual := true) [H]

/-- `wantShed` keeps the journal's bounds. -/
@[simp] theorem wantShed_journal (p : Fin 64) (c : Cause) (s : State) (H : JournalOk s.jrn) :
    JournalOk (wantShed p c s).jrn := by
  simp (maxDischargeDepth := 20) (contextual := true) [wantShed, H]

/-- `cancelPoint` keeps the journal's bounds. -/
@[simp] theorem cancelPoint_journal (p : Fin 64) (s : State) (H : JournalOk s.jrn) :
    JournalOk (cancelPoint p s).jrn := by
  simp (maxDischargeDepth := 20) (contextual := true) [cancelPoint, H]

/-- `dropConsent` keeps the journal's bounds. -/
@[simp] theorem dropConsent_journal (mark : ConsentMark) (s : State) (H : JournalOk s.jrn) :
    JournalOk (dropConsent mark s).jrn := by
  simp only [dropConsent]
  split <;> simp (maxDischargeDepth := 20) (contextual := true) [H]

/-- `trackerLeaveHalted` keeps the journal's bounds. -/
@[simp] theorem trackerLeaveHalted_journal (s : State) (H : JournalOk s.jrn) :
    JournalOk (trackerLeaveHalted s).jrn := by
  simp only [trackerLeaveHalted]
  split <;> simp (maxDischargeDepth := 20) (contextual := true) [H]

/-- `trackerQuietCleared` keeps the journal's bounds. -/
@[simp] theorem trackerQuietCleared_journal (s : State) (H : JournalOk s.jrn) :
    JournalOk (trackerQuietCleared s).jrn := by
  simp only [trackerQuietCleared]
  split <;> simp (maxDischargeDepth := 20) (contextual := true) [H]

/-- `consentBackToOpen` keeps the journal's bounds. -/
@[simp] theorem consentBackToOpen_journal (mark : ConsentMark) (s : State) (H : JournalOk s.jrn) :
    JournalOk (consentBackToOpen mark s).jrn := by
  simp (maxDischargeDepth := 20) (contextual := true) [consentBackToOpen, H]

/-- `setSequence` keeps the journal's bounds. -/
@[simp] theorem setSequence_journal (new : SeqState) (s : State) (H : JournalOk s.jrn) :
    JournalOk (setSequence new s).jrn := by
  simp (maxDischargeDepth := 20) (contextual := true) [setSequence, H]

/-- `enterHalted` keeps the journal's bounds. -/
@[simp] theorem enterHalted_journal (s : State) (H : JournalOk s.jrn) :
    JournalOk (enterHalted s).jrn := by
  simp (maxDischargeDepth := 20) (contextual := true) [enterHalted, H]

/-- `setShedding` keeps the journal's bounds. -/
@[simp] theorem setShedding_journal (s : State) (H : JournalOk s.jrn) :
    JournalOk (setShedding s).jrn := by
  simp (maxDischargeDepth := 20) (contextual := true) [setShedding, H]

/-- `openEvent` keeps the journal's bounds. -/
@[simp] theorem openEvent_journal (s : State) (H : JournalOk s.jrn) :
    JournalOk (openEvent s).jrn := by
  simp (maxDischargeDepth := 20) (contextual := true) [openEvent, H]

/-- `releaseLine` keeps the journal's bounds. -/
@[simp] theorem releaseLine_journal (l : Fin 4) (s : State) (H : JournalOk s.jrn) :
    JournalOk (releaseLine l s).jrn := by
  simp only [releaseLine]
  split <;> simp (maxDischargeDepth := 20) (contextual := true) [H]

/-- `releaseLines` keeps the journal's bounds. -/
@[simp] theorem releaseLines_journal (s : State) (H : JournalOk s.jrn) :
    JournalOk (releaseLines s).jrn := by
  simp (maxDischargeDepth := 20) (contextual := true) [releaseLines, H]

/-- `shedStepPoint` keeps the journal's bounds. -/
@[simp] theorem shedStepPoint_journal (s : State) (p : Fin 64) (H : JournalOk s.jrn) :
    JournalOk (shedStepPoint s p).jrn := by
  unfold shedStepPoint
  (repeat' (first | split | dsimp only)) <;> simp (maxDischargeDepth := 20) (contextual := true) [H]

/-- `startShedStep` keeps the journal's bounds. -/
@[simp] theorem startShedStep_journal (k : Nat) (s : State) (H : JournalOk s.jrn) :
    JournalOk (startShedStep k s).jrn := by
  simp (maxDischargeDepth := 20) (contextual := true) [startShedStep, H]

/-- `afterShedDone` keeps the journal's bounds. -/
@[simp] theorem afterShedDone_journal (k : Nat) (s : State) (H : JournalOk s.jrn) :
    JournalOk (afterShedDone k s).jrn := by
  simp only [afterShedDone]
  split <;> simp (maxDischargeDepth := 20) (contextual := true) [H]

/-- `shedStepDone` keeps the journal's bounds. -/
@[simp] theorem shedStepDone_journal (k : Nat) (s : State) (H : JournalOk s.jrn) :
    JournalOk (shedStepDone k s).jrn := by
  simp (maxDischargeDepth := 20) (contextual := true) [shedStepDone, H]

/-- `withdrawManual` keeps the journal's bounds. -/
@[simp] theorem withdrawManual_journal (s : State) (p : Fin 64) (H : JournalOk s.jrn) :
    JournalOk (withdrawManual s p).jrn := by
  unfold withdrawManual
  (repeat' (first | split | dsimp only)) <;> simp (maxDischargeDepth := 20) (contextual := true) [H]

/-- `shedFromWatch` keeps the journal's bounds. -/
@[simp] theorem shedFromWatch_journal (s : State) (H : JournalOk s.jrn) :
    JournalOk (shedFromWatch s).jrn := by
  simp (maxDischargeDepth := 20) (contextual := true) [shedFromWatch, H]

/-- `shedFromHalted` keeps the journal's bounds. -/
@[simp] theorem shedFromHalted_journal (s : State) (H : JournalOk s.jrn) :
    JournalOk (shedFromHalted s).jrn := by
  simp (maxDischargeDepth := 20) (contextual := true) [shedFromHalted, H]

/-- `checkShedding` keeps the journal's bounds. -/
@[simp] theorem checkShedding_journal (s : State) (H : JournalOk s.jrn) :
    JournalOk (checkShedding s).jrn := by
  unfold checkShedding
  (repeat' (first | split | dsimp only)) <;> simp (maxDischargeDepth := 20) (contextual := true) [H]

/-- `closeEvent` keeps the journal's bounds. -/
@[simp] theorem closeEvent_journal (s : State) (H : JournalOk s.jrn) :
    JournalOk (closeEvent s).jrn := by
  simp only [closeEvent]
  split <;> simp (maxDischargeDepth := 20) (contextual := true) [H]

/-- `quietRule` keeps the journal's bounds. -/
@[simp] theorem quietRule_journal (s : State) (H : JournalOk s.jrn) :
    JournalOk (quietRule s).jrn := by
  simp only [quietRule]
  split <;> simp (maxDischargeDepth := 20) (contextual := true) [H]

/-- `enforce` keeps the journal's bounds. -/
@[simp] theorem enforce_journal (p : Fin 64) (s : State) (H : JournalOk s.jrn) :
    JournalOk (enforce p s).jrn := by
  simp only [enforce]
  split <;> simp (maxDischargeDepth := 20) (contextual := true) [H]

/-- `enforceAtStart` keeps the journal's bounds. -/
@[simp] theorem enforceAtStart_journal (s : State) (p : Fin 64) (H : JournalOk s.jrn) :
    JournalOk (enforceAtStart s p).jrn := by
  simp only [enforceAtStart]
  split <;> simp (maxDischargeDepth := 20) (contextual := true) [H]

/-- `startupDecision` keeps the journal's bounds. -/
@[simp] theorem startupDecision_journal (s : State) (H : JournalOk s.jrn) :
    JournalOk (startupDecision s).jrn := by
  unfold startupDecision
  (repeat' (first | split | dsimp only)) <;> simp (maxDischargeDepth := 20) (contextual := true) [H]

/-- `checkRound` keeps the journal's bounds. -/
@[simp] theorem checkRound_journal (s : State) (H : JournalOk s.jrn) :
    JournalOk (checkRound s).jrn := by
  simp only [checkRound]
  split <;> simp (maxDischargeDepth := 20) (contextual := true) [H]

/-- `placeAwait` keeps the journal's bounds. -/
@[simp] theorem placeAwait_journal (p : Fin 64) (s : State) (H : JournalOk s.jrn) :
    JournalOk (placeAwait p s).jrn := by
  simp (maxDischargeDepth := 20) (contextual := true) [placeAwait, H]

/-- `restartStepPoint` keeps the journal's bounds. -/
@[simp] theorem restartStepPoint_journal (s : State) (p : Fin 64) (H : JournalOk s.jrn) :
    JournalOk (restartStepPoint s p).jrn := by
  simp only [restartStepPoint]
  split <;> simp (maxDischargeDepth := 20) (contextual := true) [H]

/-- `startRestartStep` keeps the journal's bounds. -/
@[simp] theorem startRestartStep_journal (k : Nat) (s : State) (H : JournalOk s.jrn) :
    JournalOk (startRestartStep k s).jrn := by
  simp (maxDischargeDepth := 20) (contextual := true) [startRestartStep, H]

/-- `afterRestartDone` keeps the journal's bounds. -/
@[simp] theorem afterRestartDone_journal (k : Nat) (s : State) (H : JournalOk s.jrn) :
    JournalOk (afterRestartDone k s).jrn := by
  simp only [afterRestartDone]
  split <;> simp (maxDischargeDepth := 20) (contextual := true) [H]

/-- `restartStepDone` keeps the journal's bounds. -/
@[simp] theorem restartStepDone_journal (k : Nat) (s : State) (H : JournalOk s.jrn) :
    JournalOk (restartStepDone k s).jrn := by
  simp (maxDischargeDepth := 20) (contextual := true) [restartStepDone, H]

/-- `completeRestart` keeps the journal's bounds. -/
@[simp] theorem completeRestart_journal (s : State) (H : JournalOk s.jrn) :
    JournalOk (completeRestart s).jrn := by
  simp (maxDischargeDepth := 20) (contextual := true) [completeRestart, H]

/-- `beginRestart` keeps the journal's bounds. -/
@[simp] theorem beginRestart_journal (s : State) (H : JournalOk s.jrn) :
    JournalOk (beginRestart s).jrn := by
  simp only [beginRestart]
  split <;> simp (maxDischargeDepth := 20) (contextual := true) [H]

/-- `gatePost` keeps the journal's bounds. -/
@[simp] theorem gatePost_journal (p : Fin 64) (s : State) (H : JournalOk s.jrn) :
    JournalOk (gatePost p s).jrn := by
  simp (maxDischargeDepth := 20) (contextual := true) [gatePost, H]

/-- `settleFor` keeps the journal's bounds. -/
@[simp] theorem settleFor_journal (n : Nat) (s : State) (H : JournalOk s.jrn) :
    JournalOk (settleFor n s).jrn := by
  refine settleFor_keeps (fun t => JournalOk t.jrn) ?_ n s H
  intro t t' ht h
  rcases settleOnce_cases h with h | h | h | ⟨p, h⟩ <;> rw [h] <;> simp [ht]

/-- `settle` keeps the journal's bounds. -/
@[simp] theorem settle_journal (s : State) (H : JournalOk s.jrn) :
    JournalOk (settle s).jrn := by
  simp (maxDischargeDepth := 20) (contextual := true) [settle, H]

/-- `cancelPendingRestore` keeps the journal's bounds. -/
@[simp] theorem cancelPendingRestore_journal (s : State) (p : Fin 64) (H : JournalOk s.jrn) :
    JournalOk (cancelPendingRestore s p).jrn := by
  simp only [cancelPendingRestore]
  split <;> simp (maxDischargeDepth := 20) (contextual := true) [H]

/-- `shedInFlightRestore` keeps the journal's bounds. -/
@[simp] theorem shedInFlightRestore_journal (s : State) (p : Fin 64) (H : JournalOk s.jrn) :
    JournalOk (shedInFlightRestore s p).jrn := by
  simp only [shedInFlightRestore]
  split <;> simp (maxDischargeDepth := 20) (contextual := true) [H]

/-- `cancelAwait` keeps the journal's bounds. -/
@[simp] theorem cancelAwait_journal (s : State) (p : Fin 64) (H : JournalOk s.jrn) :
    JournalOk (cancelAwait s p).jrn := by
  simp only [cancelAwait]
  split <;> simp (maxDischargeDepth := 20) (contextual := true) [H]

/-- `abortRestart` keeps the journal's bounds. -/
@[simp] theorem abortRestart_journal (s : State) (H : JournalOk s.jrn) :
    JournalOk (abortRestart s).jrn := by
  simp (maxDischargeDepth := 20) (contextual := true) [abortRestart, H]

/-- `vetoStop` keeps the journal's bounds. -/
@[simp] theorem vetoStop_journal (s : State) (H : JournalOk s.jrn) :
    JournalOk (vetoStop s).jrn := by
  simp (maxDischargeDepth := 20) (contextual := true) [vetoStop, H]

/-- `cutGrace` keeps the journal's bounds. -/
@[simp] theorem cutGrace_journal (s : State) (p : Fin 64) (H : JournalOk s.jrn) :
    JournalOk (cutGrace s p).jrn := by
  simp only [cutGrace]
  split <;> simp (maxDischargeDepth := 20) (contextual := true) [H]

/-- `eventAtLevel` keeps the journal's bounds. -/
@[simp] theorem eventAtLevel_journal (s : State) (H : JournalOk s.jrn) :
    JournalOk (eventAtLevel s).jrn := by
  unfold eventAtLevel
  (repeat' (first | split | dsimp only)) <;> simp (maxDischargeDepth := 20) (contextual := true) [H]

/-- `sequencerAtLevel` keeps the journal's bounds. -/
@[simp] theorem sequencerAtLevel_journal (s : State) (H : JournalOk s.jrn) :
    JournalOk (sequencerAtLevel s).jrn := by
  unfold sequencerAtLevel
  (repeat' (first | split | dsimp only)) <;> simp (maxDischargeDepth := 20) (contextual := true) [H]

/-- `clearQuiet` keeps the journal's bounds. -/
@[simp] theorem clearQuiet_journal (s : State) (H : JournalOk s.jrn) :
    JournalOk (clearQuiet s).jrn := by
  simp only [clearQuiet]
  split <;> simp (maxDischargeDepth := 20) (contextual := true) [H]

/-- `assertLine` keeps the journal's bounds. -/
@[simp] theorem assertLine_journal (l : Fin 4) (s : State) (H : JournalOk s.jrn) :
    JournalOk (assertLine l s).jrn := by
  simp only [assertLine]
  split <;> simp (maxDischargeDepth := 20) (contextual := true) [H]

/-- `assertLines` keeps the journal's bounds. -/
@[simp] theorem assertLines_journal (s : State) (H : JournalOk s.jrn) :
    JournalOk (assertLines s).jrn := by
  simp (maxDischargeDepth := 20) (contextual := true) [assertLines, H]

/-- `changeLevel` keeps the journal's bounds. -/
@[simp] theorem changeLevel_journal (new : Level) (s : State) (H : JournalOk s.jrn) :
    JournalOk (changeLevel new s).jrn := by
  unfold changeLevel
  (repeat' (first | split | dsimp only)) <;> simp (maxDischargeDepth := 20) (contextual := true) [H]

/-- `recompute` keeps the journal's bounds. -/
@[simp] theorem recompute_journal (s : State) (H : JournalOk s.jrn) :
    JournalOk (recompute s).jrn := by
  unfold recompute
  (repeat' (first | split | dsimp only)) <;> simp (maxDischargeDepth := 20) (contextual := true) [H]

/-- `healthyCountEdge` keeps the journal's bounds. -/
@[simp] theorem healthyCountEdge_journal (h : Nat) (s : State) (H : JournalOk s.jrn) :
    JournalOk (healthyCountEdge h s).jrn := by
  unfold healthyCountEdge
  (repeat' (first | split | dsimp only)) <;> simp (maxDischargeDepth := 20) (contextual := true) [H]

/-- `healthChange` keeps the journal's bounds. -/
@[simp] theorem healthChange_journal (i : Fin 6) (s : State) (H : JournalOk s.jrn) :
    JournalOk (healthChange i s).jrn := by
  simp only [healthChange]
  simp (maxDischargeDepth := 20) (contextual := true) [H]

/-- `setHealth` keeps the journal's bounds. -/
@[simp] theorem setHealth_journal (i : Fin 6) (new : Health) (s : State) (H : JournalOk s.jrn) :
    JournalOk (setHealth i new s).jrn := by
  simp (maxDischargeDepth := 20) (contextual := true) [setHealth, H]

/-- `revote` keeps the journal's bounds. -/
@[simp] theorem revote_journal (i : Fin 6) (old : Level) (s : State) (H : JournalOk s.jrn) :
    JournalOk (revote i old s).jrn := by
  simp only [revote]
  split <;> simp (maxDischargeDepth := 20) (contextual := true) [H]

/-- `clearWindow` keeps the journal's bounds. -/
@[simp] theorem clearWindow_journal (i : Fin 6) (s : State) (H : JournalOk s.jrn) :
    JournalOk (clearWindow i s).jrn := by
  simp (maxDischargeDepth := 20) (contextual := true) [clearWindow, H]

/-- `settleArrival` keeps the journal's bounds. -/
@[simp] theorem settleArrival_journal (i : Fin 6) (s : State) (H : JournalOk s.jrn) :
    JournalOk (settleArrival i s).jrn := by
  unfold settleArrival
  (repeat' (first | split | dsimp only)) <;> simp (maxDischargeDepth := 20) (contextual := true) [H]

/-- `enterArrival` keeps the journal's bounds. -/
@[simp] theorem enterArrival_journal (i : Fin 6) (v : Nat) (s : State) (H : JournalOk s.jrn) :
    JournalOk (enterArrival i v s).jrn := by
  simp only [enterArrival]
  simp (maxDischargeDepth := 20) (contextual := true) [H]

/-- `arrival` keeps the journal's bounds. -/
@[simp] theorem arrival_journal (i : Fin 6) (v : Nat) (s : State) (H : JournalOk s.jrn) :
    JournalOk (arrival i v s).jrn := by
  simp (maxDischargeDepth := 20) (contextual := true) [arrival, H]

/-- `takeSample` keeps the journal's bounds. -/
@[simp] theorem takeSample_journal (i : Fin 6) (a : Sample) (s : State) (H : JournalOk s.jrn) :
    JournalOk (takeSample i a s).jrn := by
  simp only [takeSample]
  split <;> simp (maxDischargeDepth := 20) (contextual := true) [H]

/-- `takeFillers` keeps the journal's bounds. -/
@[simp] theorem takeFillers_journal (i : Fin 6) (n : Nat) (s : State) (H : JournalOk s.jrn) :
    JournalOk (takeFillers i n s).jrn := by
  induction n generalizing s with
  | zero => exact H
  | succ n ih => exact ih _ (by simp [H])

/-- `countCheckError` keeps the journal's bounds. -/
@[simp] theorem countCheckError_journal (i : Fin 6) (s : State) (H : JournalOk s.jrn) :
    JournalOk (countCheckError i s).jrn := by
  simp (maxDischargeDepth := 20) (contextual := true) [countCheckError, H]

/-- `newWindow` keeps the journal's bounds. -/
@[simp] theorem newWindow_journal (i : Fin 6) (seq : Byte) (a : Sample) (s : State) (H : JournalOk s.jrn) :
    JournalOk (newWindow i seq a s).jrn := by
  simp (maxDischargeDepth := 20) (contextual := true) [newWindow, H]

/-- `startSettling` keeps the journal's bounds. -/
@[simp] theorem startSettling_journal (i : Fin 6) (seq : Byte) (a : Sample) (s : State) (H : JournalOk s.jrn) :
    JournalOk (startSettling i seq a s).jrn := by
  simp (maxDischargeDepth := 20) (contextual := true) [startSettling, H]

/-- `resettle` keeps the journal's bounds. -/
@[simp] theorem resettle_journal (i : Fin 6) (seq : Byte) (a : Sample) (s : State) (H : JournalOk s.jrn) :
    JournalOk (resettle i seq a s).jrn := by
  simp only [resettle]
  split <;> simp (maxDischargeDepth := 20) (contextual := true) [H]

/-- `continueWindow` keeps the journal's bounds. -/
@[simp] theorem continueWindow_journal (i : Fin 6) (seq : Byte) (a : Sample) (s : State) (H : JournalOk s.jrn) :
    JournalOk (continueWindow i seq a s).jrn := by
  unfold continueWindow
  (repeat' (first | split | dsimp only)) <;> simp (maxDischargeDepth := 20) (contextual := true) [H]

/-- `validFrame` keeps the journal's bounds. -/
@[simp] theorem validFrame_journal (i : Fin 6) (seq : Byte) (a : Sample) (s : State) (H : JournalOk s.jrn) :
    JournalOk (validFrame i seq a s).jrn := by
  simp only [validFrame]
  split <;> simp (maxDischargeDepth := 20) (contextual := true) [H]

/-- `checkFrame` keeps the journal's bounds. -/
@[simp] theorem checkFrame_journal (i : Fin 6) (bytes : List Byte) (bad : Bool) (s : State) (H : JournalOk s.jrn) :
    JournalOk (checkFrame i bytes bad s).jrn := by
  unfold checkFrame
  (repeat' (first | split | dsimp only)) <;> simp (maxDischargeDepth := 20) (contextual := true) [H]

/-- `sensorByte` keeps the journal's bounds. -/
@[simp] theorem sensorByte_journal (i : Fin 6) (s : State) (b : LineByte) (H : JournalOk s.jrn) :
    JournalOk (sensorByte i s b).jrn := by
  unfold sensorByte
  (repeat' (first | split | dsimp only)) <;> simp (maxDischargeDepth := 20) (contextual := true) [H]

/-- `abandonFrame` keeps the journal's bounds. -/
@[simp] theorem abandonFrame_journal (i : Fin 6) (s : State) (H : JournalOk s.jrn) :
    JournalOk (abandonFrame i s).jrn := by
  simp only [abandonFrame]
  split <;> simp (maxDischargeDepth := 20) (contextual := true) [H]

/-- `gapExpiry` keeps the journal's bounds. -/
@[simp] theorem gapExpiry_journal (i : Fin 6) (s : State) (H : JournalOk s.jrn) :
    JournalOk (gapExpiry i s).jrn := by
  unfold gapExpiry
  (repeat' (first | split | dsimp only)) <;> simp (maxDischargeDepth := 20) (contextual := true) [H]

/-- `warnDone` keeps the journal's bounds. -/
@[simp] theorem warnDone_journal (p : Fin 64) (s : State) (H : JournalOk s.jrn) :
    JournalOk (warnDone p s).jrn := by
  simp only [warnDone]
  split <;> simp (maxDischargeDepth := 20) (contextual := true) [H]

/-- `restoreDone` keeps the journal's bounds. -/
@[simp] theorem restoreDone_journal (p : Fin 64) (s : State) (H : JournalOk s.jrn) :
    JournalOk (restoreDone p s).jrn := by
  simp only [restoreDone]
  split <;> simp (maxDischargeDepth := 20) (contextual := true) [H]

/-- `resultDone` keeps the journal's bounds. -/
@[simp] theorem resultDone_journal (k : MotionKind) (p : Fin 64) (s : State) (H : JournalOk s.jrn) :
    JournalOk (resultDone k p s).jrn := by
  simp only [resultDone]
  split <;> simp (maxDischargeDepth := 20) (contextual := true) [H]

/-- `resultNoReply` keeps the journal's bounds. -/
@[simp] theorem resultNoReply_journal (k : MotionKind) (p : Fin 64) (s : State) (H : JournalOk s.jrn) :
    JournalOk (resultNoReply k p s).jrn := by
  simp only [resultNoReply]
  split <;> simp (maxDischargeDepth := 20) (contextual := true) [H]

/-- `resultAt` keeps the journal's bounds. -/
@[simp] theorem resultAt_journal (k : MotionKind) (p : Fin 64) (r : Result) (s : State) (H : JournalOk s.jrn) :
    JournalOk (resultAt k p r s).jrn := by
  simp only [resultAt]
  split <;> simp (maxDischargeDepth := 20) (contextual := true) [H]

/-- `applyResult` keeps the journal's bounds. -/
@[simp] theorem applyResult_journal (f : InFlight) (r : Result) (s : State) (H : JournalOk s.jrn) :
    JournalOk (applyResult f r s).jrn := by
  unfold applyResult
  (repeat' (first | split | dsimp only)) <;> simp (maxDischargeDepth := 20) (contextual := true) [H]

/-- `externalChange` keeps the journal's bounds. -/
@[simp] theorem externalChange_journal (p : Fin 64) (new : PointState) (s : State) (H : JournalOk s.jrn) :
    JournalOk (externalChange p new s).jrn := by
  simp (maxDischargeDepth := 20) (contextual := true) [externalChange, H]

/-- `compareContact` keeps the journal's bounds. -/
@[simp] theorem compareContact_journal (p : Fin 64) (closed : Bool) (s : State) (H : JournalOk s.jrn) :
    JournalOk (compareContact p closed s).jrn := by
  unfold compareContact
  (repeat' (first | split | dsimp only)) <;> simp (maxDischargeDepth := 20) (contextual := true) [H]

/-- `applyLockout` keeps the journal's bounds. -/
@[simp] theorem applyLockout_journal (p : Fin 64) (o : OutputStatus) (s : State) (H : JournalOk s.jrn) :
    JournalOk (applyLockout p o s).jrn := by
  unfold applyLockout
  (repeat' (first | split | dsimp only)) <;> simp (maxDischargeDepth := 20) (contextual := true) [H]

/-- `feedbackAt` keeps the journal's bounds. -/
@[simp] theorem feedbackAt_journal (o : OutputStatus) (p : Fin 64) (s : State) (H : JournalOk s.jrn) :
    JournalOk (feedbackAt o p s).jrn := by
  simp only [feedbackAt]
  split <;> simp (maxDischargeDepth := 20) (contextual := true) [H]

/-- `feedback` keeps the journal's bounds. -/
@[simp] theorem feedback_journal (st : Fin 16) (outs : Option (Vector OutputStatus 4)) (s : State) (H : JournalOk s.jrn) :
    JournalOk (feedback st outs s).jrn := by
  simp only [feedback]
  split <;> simp (maxDischargeDepth := 20) (contextual := true) [H]

/-- `takeDeferred` keeps the journal's bounds. -/
@[simp] theorem takeDeferred_journal (f : InFlight) (r : Result) (s : State) (H : JournalOk s.jrn) :
    JournalOk (takeDeferred f r s).jrn := by
  unfold takeDeferred
  (repeat' (first | split | dsimp only)) <;> simp (maxDischargeDepth := 20) (contextual := true) [H]

/-- `rejoinGate` keeps the journal's bounds. -/
@[simp] theorem rejoinGate_journal (p : Fin 64) (s : State) (H : JournalOk s.jrn) :
    JournalOk (rejoinGate p s).jrn := by
  simp only [rejoinGate]
  split <;> simp (maxDischargeDepth := 20) (contextual := true) [H]

/-- `handOver` keeps the journal's bounds. -/
@[simp] theorem handOver_journal (before : Vector PointEntry 64) (s : State) (p : Fin 64) (H : JournalOk s.jrn) :
    JournalOk (handOver before s p).jrn := by
  simp only [handOver]
  split <;> simp (maxDischargeDepth := 20) (contextual := true) [H]

/-- `lampAfter` keeps the journal's bounds. -/
@[simp] theorem lampAfter_journal (before : Vector PointEntry 64) (s : State) (p : Fin 64) (H : JournalOk s.jrn) :
    JournalOk (lampAfter before s p).jrn := by
  simp (maxDischargeDepth := 20) (contextual := true) [lampAfter, H]

/-- `takeResolution` keeps the journal's bounds. -/
@[simp] theorem takeResolution_journal (f : InFlight) (st : Fin 16) (r : Result) (outs : Option (Vector OutputStatus 4)) (s : State) (H : JournalOk s.jrn) :
    JournalOk (takeResolution f st r outs s).jrn := by
  simp (maxDischargeDepth := 20) (contextual := true) [takeResolution, H]

/-- `unreachablePoint` keeps the journal's bounds. -/
@[simp] theorem unreachablePoint_journal (s : State) (p : Fin 64) (H : JournalOk s.jrn) :
    JournalOk (unreachablePoint s p).jrn := by
  unfold unreachablePoint
  (repeat' (first | split | dsimp only)) <;> simp (maxDischargeDepth := 20) (contextual := true) [H]

/-- `stationUnreachable` keeps the journal's bounds. -/
@[simp] theorem stationUnreachable_journal (st : Fin 16) (s : State) (H : JournalOk s.jrn) :
    JournalOk (stationUnreachable st s).jrn := by
  simp only [stationUnreachable]
  split <;> simp (maxDischargeDepth := 20) (contextual := true) [H]

/-- `checkUnreachable` keeps the journal's bounds. -/
@[simp] theorem checkUnreachable_journal (cause : Option (Fin 16)) (s : State) (H : JournalOk s.jrn) :
    JournalOk (checkUnreachable cause s).jrn := by
  unfold checkUnreachable
  (repeat' (first | split | dsimp only)) <;> simp (maxDischargeDepth := 20) (contextual := true) [H]

/-- `pollResolved` keeps the journal's bounds. -/
@[simp] theorem pollResolved_journal (o : Order) (s : State) (H : JournalOk s.jrn) :
    JournalOk (pollResolved o s).jrn := by
  simp only [pollResolved]
  split <;> simp (maxDischargeDepth := 20) (contextual := true) [H]

/-- `resolve` keeps the journal's bounds. -/
@[simp] theorem resolve_journal (f : InFlight) (st : Fin 16) (r : Result) (outs : Option (Vector OutputStatus 4))
    (s : State) (H : JournalOk s.jrn) :
    JournalOk (resolve f st r outs s).jrn := by
  simp (maxDischargeDepth := 20) (contextual := true) [resolve, H]

/-- `matchingReply` keeps the journal's bounds. -/
@[simp] theorem matchingReply_journal (f : InFlight) (st : Fin 16) (r : Result) (outs : Vector OutputStatus 4) (s : State)
    (H : JournalOk s.jrn) :
    JournalOk (matchingReply f st r outs s).jrn := by
  simp (maxDischargeDepth := 20) (contextual := true) [matchingReply, H]

/-- `replyFrameTaken` keeps the journal's bounds. -/
@[simp] theorem replyFrameTaken_journal (src tag : Byte) (r : Result) (outs : Vector OutputStatus 4) (s : State)
    (H : JournalOk s.jrn) :
    JournalOk (replyFrameTaken src tag r outs s).jrn := by
  unfold replyFrameTaken
  (repeat' (first | split | dsimp only)) <;> simp (maxDischargeDepth := 20) (contextual := true) [H]

/-- `loopFrame` keeps the journal's bounds. -/
@[simp] theorem loopFrame_journal (bytes : List Byte) (bad : Bool) (s : State) (H : JournalOk s.jrn) :
    JournalOk (loopFrame bytes bad s).jrn := by
  unfold loopFrame
  (repeat' (first | split | dsimp only)) <;> simp (maxDischargeDepth := 20) (contextual := true) [H]

/-- `loopByte` keeps the journal's bounds. -/
@[simp] theorem loopByte_journal (s : State) (b : LineByte) (H : JournalOk s.jrn) :
    JournalOk (loopByte s b).jrn := by
  unfold loopByte
  (repeat' (first | split | dsimp only)) <;> simp (maxDischargeDepth := 20) (contextual := true) [H]

/-- `countNoReply` keeps the journal's bounds. -/
@[simp] theorem countNoReply_journal (st : Fin 16) (s : State) (H : JournalOk s.jrn) :
    JournalOk (countNoReply st s).jrn := by
  simp only [countNoReply]
  split <;> simp (maxDischargeDepth := 20) (contextual := true) [H]

/-- `afterTimeout` keeps the journal's bounds. -/
@[simp] theorem afterTimeout_journal (f : InFlight) (st : Fin 16) (s : State) (H : JournalOk s.jrn) :
    JournalOk (afterTimeout f st s).jrn := by
  simp only [afterTimeout]
  split <;> simp (maxDischargeDepth := 20) (contextual := true) [H]

/-- `replyTimeout` keeps the journal's bounds. -/
@[simp] theorem replyTimeout_journal (s : State) (H : JournalOk s.jrn) :
    JournalOk (replyTimeout s).jrn := by
  unfold replyTimeout
  (repeat' (first | split | dsimp only)) <;> simp (maxDischargeDepth := 20) (contextual := true) [H]

/-- `graceExpiry` keeps the journal's bounds. -/
@[simp] theorem graceExpiry_journal (p : Fin 64) (s : State) (H : JournalOk s.jrn) :
    JournalOk (graceExpiry p s).jrn := by
  simp only [graceExpiry]
  split <;> simp (maxDischargeDepth := 20) (contextual := true) [H]

/-- `settleExpiry` keeps the journal's bounds. -/
@[simp] theorem settleExpiry_journal (p : Fin 64) (s : State) (H : JournalOk s.jrn) :
    JournalOk (settleExpiry p s).jrn := by
  simp only [settleExpiry]
  split <;> simp (maxDischargeDepth := 20) (contextual := true) [H]

/-- `shedWarned` keeps the journal's bounds. -/
@[simp] theorem shedWarned_journal (s : State) (p : Fin 64) (H : JournalOk s.jrn) :
    JournalOk (shedWarned s p).jrn := by
  simp only [shedWarned]
  split <;> simp (maxDischargeDepth := 20) (contextual := true) [H]

/-- `shedTimeout` keeps the journal's bounds. -/
@[simp] theorem shedTimeout_journal (k : Nat) (s : State) (H : JournalOk s.jrn) :
    JournalOk (shedTimeout k s).jrn := by
  simp (maxDischargeDepth := 20) (contextual := true) [shedTimeout, H]

/-- `failAwait` keeps the journal's bounds. -/
@[simp] theorem failAwait_journal (s : State) (p : Fin 64) (H : JournalOk s.jrn) :
    JournalOk (failAwait s p).jrn := by
  simp only [failAwait]
  split <;> simp (maxDischargeDepth := 20) (contextual := true) [H]

/-- `restartTimeout` keeps the journal's bounds. -/
@[simp] theorem restartTimeout_journal (k : Nat) (s : State) (H : JournalOk s.jrn) :
    JournalOk (restartTimeout k s).jrn := by
  simp (maxDischargeDepth := 20) (contextual := true) [restartTimeout, H]

/-- `enableStation` keeps the journal's bounds. -/
@[simp] theorem enableStation_journal (s : State) (i : Fin 6) (H : JournalOk s.jrn) :
    JournalOk (enableStation s i).jrn := by
  simp only [enableStation]
  split <;> simp (maxDischargeDepth := 20) (contextual := true) [H]

/-- `loadHandOver` keeps the journal's bounds. -/
@[simp] theorem loadHandOver_journal (s : State) (H : JournalOk s.jrn) :
    JournalOk (loadHandOver s).jrn := by
  simp (maxDischargeDepth := 20) (contextual := true) [loadHandOver, H]

/-- `beginRound` keeps the journal's bounds. -/
@[simp] theorem beginRound_journal (s : State) (H : JournalOk s.jrn) :
    JournalOk (beginRound s).jrn := by
  simp (maxDischargeDepth := 20) (contextual := true) [beginRound, H]

/-- `loadRecords` keeps the journal's bounds. -/
@[simp] theorem loadRecords_journal (mark : PlanMark) (reason : LoadReason) (s : State) (H : JournalOk s.jrn) :
    JournalOk (loadRecords mark reason s).jrn := by
  simp (maxDischargeDepth := 20) (contextual := true) [loadRecords, H]

/-- `loadSucceeds` keeps the journal's bounds. -/
@[simp] theorem loadSucceeds_journal (p : Plan) (s : State) (H : JournalOk s.jrn) :
    JournalOk (loadSucceeds p s).jrn := by
  simp (maxDischargeDepth := 20) (contextual := true) [loadSucceeds, H]

/-- `loadFails` keeps the journal's bounds. -/
@[simp] theorem loadFails_journal (reason : LoadReason) (s : State) (H : JournalOk s.jrn) :
    JournalOk (loadFails reason s).jrn := by
  simp (maxDischargeDepth := 20) (contextual := true) [loadFails, H]

/-- `imageLoadEnd` keeps the journal's bounds. -/
@[simp] theorem imageLoadEnd_journal (image : List Byte) (s : State) (H : JournalOk s.jrn) :
    JournalOk (imageLoadEnd image s).jrn := by
  unfold imageLoadEnd
  (repeat' (first | split | dsimp only)) <;> simp (maxDischargeDepth := 20) (contextual := true) [H]

/-- `saveSucceeds` keeps the journal's bounds. -/
@[simp] theorem saveSucceeds_journal (f : SaveFlight) (s : State) (H : JournalOk s.jrn) :
    JournalOk (saveSucceeds f s).jrn := by
  simp (maxDischargeDepth := 20) (contextual := true) [saveSucceeds, H]

/-- `saveFails` keeps the journal's bounds. -/
@[simp] theorem saveFails_journal (f : SaveFlight) (s : State) (H : JournalOk s.jrn) :
    JournalOk (saveFails f s).jrn := by
  simp (maxDischargeDepth := 20) (contextual := true) [saveFails, H]

/-- `leaveUse` keeps the journal's bounds. -/
@[simp] theorem leaveUse_journal (p : Fin 64) (s : State) (H : JournalOk s.jrn) :
    JournalOk (leaveUse p s).jrn := by
  simp (maxDischargeDepth := 20) (contextual := true) [leaveUse, H]

/-- `recheckManual` keeps the journal's bounds. -/
@[simp] theorem recheckManual_journal (p : Fin 64) (s : State) (H : JournalOk s.jrn) :
    JournalOk (recheckManual p s).jrn := by
  simp only [recheckManual]
  split <;> simp (maxDischargeDepth := 20) (contextual := true) [H]

/-- `commitPoint` keeps the journal's bounds. -/
@[simp] theorem commitPoint_journal (old : Plan) (s : State) (p : Fin 64) (H : JournalOk s.jrn) :
    JournalOk (commitPoint old s p).jrn := by
  simp only [commitPoint]
  split <;> simp (maxDischargeDepth := 20) (contextual := true) [H]

/-- `commitStation` keeps the journal's bounds. -/
@[simp] theorem commitStation_journal (old : Plan) (s : State) (i : Fin 6) (H : JournalOk s.jrn) :
    JournalOk (commitStation old s i).jrn := by
  simp only [commitStation]
  split <;> simp (maxDischargeDepth := 20) (contextual := true) [H]

/-- `commitLoop` keeps the journal's bounds. -/
@[simp] theorem commitLoop_journal (s : State) (H : JournalOk s.jrn) :
    JournalOk (commitLoop s).jrn := by
  simp (maxDischargeDepth := 20) (contextual := true) [commitLoop, H]

/-- `commitQuiet` keeps the journal's bounds. -/
@[simp] theorem commitQuiet_journal (s : State) (H : JournalOk s.jrn) :
    JournalOk (commitQuiet s).jrn := by
  unfold commitQuiet
  (repeat' (first | split | dsimp only)) <;> simp (maxDischargeDepth := 20) (contextual := true) [H]

/-- `commitHandOver` keeps the journal's bounds. -/
@[simp] theorem commitHandOver_journal (old : Plan) (s : State) (H : JournalOk s.jrn) :
    JournalOk (commitHandOver old s).jrn := by
  simp (maxDischargeDepth := 20) (contextual := true) [commitHandOver, H]

/-- `leaveNoPlan` keeps the journal's bounds. -/
@[simp] theorem leaveNoPlan_journal (s : State) (H : JournalOk s.jrn) :
    JournalOk (leaveNoPlan s).jrn := by
  simp only [leaveNoPlan]
  split <;> simp (maxDischargeDepth := 20) (contextual := true) [H]

/-- `commitPlan` keeps the journal's bounds. -/
@[simp] theorem commitPlan_journal (p : Fin 3) (shadow : Plan) (s : State) (H : JournalOk s.jrn) :
    JournalOk (commitPlan p shadow s).jrn := by
  simp (maxDischargeDepth := 20) (contextual := true) [commitPlan, H]

/-- `ownerCommit` keeps the journal's bounds. -/
@[simp] theorem ownerCommit_journal (p : Fin 3) (save : Bool) (s : State) (H : JournalOk s.jrn) :
    JournalOk (ownerCommit p save s).jrn := by
  unfold ownerCommit
  (repeat' (first | split | dsimp only)) <;> simp (maxDischargeDepth := 20) (contextual := true) [H]

/-- `firstConsent` keeps the journal's bounds. -/
@[simp] theorem firstConsent_journal (p : Fin 3) (s : State) (H : JournalOk s.jrn) :
    JournalOk (firstConsent p s).jrn := by
  simp (maxDischargeDepth := 20) (contextual := true) [firstConsent, H]

/-- `grantRestart` keeps the journal's bounds. -/
@[simp] theorem grantRestart_journal (p : Fin 3) (s : State) (H : JournalOk s.jrn) :
    JournalOk (grantRestart p s).jrn := by
  simp (maxDischargeDepth := 20) (contextual := true) [grantRestart, H]

/-- `ownerConsent` keeps the journal's bounds. -/
@[simp] theorem ownerConsent_journal (p : Fin 3) (s : State) (H : JournalOk s.jrn) :
    JournalOk (ownerConsent p s).jrn := by
  unfold ownerConsent
  (repeat' (first | split | dsimp only)) <;> simp (maxDischargeDepth := 20) (contextual := true) [H]

/-- `setVeto` keeps the journal's bounds. -/
@[simp] theorem setVeto_journal (p : Fin 3) (v : Bool) (s : State) (H : JournalOk s.jrn) :
    JournalOk (setVeto p v s).jrn := by
  simp (maxDischargeDepth := 20) (contextual := true) [setVeto, H]

/-- `vetoEffect` keeps the journal's bounds. -/
@[simp] theorem vetoEffect_journal (s : State) (H : JournalOk s.jrn) :
    JournalOk (vetoEffect s).jrn := by
  unfold vetoEffect
  (repeat' (first | split | dsimp only)) <;> simp (maxDischargeDepth := 20) (contextual := true) [H]

/-- `ownerVeto` keeps the journal's bounds. -/
@[simp] theorem ownerVeto_journal (p : Fin 3) (s : State) (H : JournalOk s.jrn) :
    JournalOk (ownerVeto p s).jrn := by
  unfold ownerVeto
  (repeat' (first | split | dsimp only)) <;> simp (maxDischargeDepth := 20) (contextual := true) [H]

/-- `clearKind` keeps the journal's bounds. -/
@[simp] theorem clearKind_journal (s : State) (k : FaultKind) (H : JournalOk s.jrn) :
    JournalOk (clearKind s k).jrn := by
  unfold clearKind
  (repeat' (first | split | dsimp only)) <;> simp (maxDischargeDepth := 20) (contextual := true) [H]

/-- `ownerFaultClear` keeps the journal's bounds. -/
@[simp] theorem ownerFaultClear_journal (p : Fin 3) (set : Nat) (s : State) (H : JournalOk s.jrn) :
    JournalOk (ownerFaultClear p set s).jrn := by
  simp (maxDischargeDepth := 20) (contextual := true) [ownerFaultClear, H]

/-- `ownerManualShed` keeps the journal's bounds. -/
@[simp] theorem ownerManualShed_journal (p : Fin 3) (i : Fin 64) (s : State) (H : JournalOk s.jrn) :
    JournalOk (ownerManualShed p i s).jrn := by
  unfold ownerManualShed
  (repeat' (first | split | dsimp only)) <;> simp (maxDischargeDepth := 20) (contextual := true) [H]

/-- `placeManual` keeps the journal's bounds. -/
@[simp] theorem placeManual_journal (p : Fin 3) (i : Fin 64) (s : State) (H : JournalOk s.jrn) :
    JournalOk (placeManual p i s).jrn := by
  simp only [placeManual]
  split <;> simp (maxDischargeDepth := 20) (contextual := true) [H]

/-- `ownerManualRestore` keeps the journal's bounds. -/
@[simp] theorem ownerManualRestore_journal (p : Fin 3) (i : Fin 64) (s : State) (H : JournalOk s.jrn) :
    JournalOk (ownerManualRestore p i s).jrn := by
  unfold ownerManualRestore
  (repeat' (first | split | dsimp only)) <;> simp (maxDischargeDepth := 20) (contextual := true) [H]

/-- `withdrawConsent` keeps the journal's bounds. -/
@[simp] theorem withdrawConsent_journal (p : Fin 3) (s : State) (H : JournalOk s.jrn) :
    JournalOk (withdrawConsent p s).jrn := by
  simp only [withdrawConsent]
  split <;> simp (maxDischargeDepth := 20) (contextual := true) [H]

/-- `portReset` keeps the journal's bounds. -/
@[simp] theorem portReset_journal (p : Fin 3) (s : State) (H : JournalOk s.jrn) :
    JournalOk (portReset p s).jrn := by
  simp only [portReset]
  split <;> simp (maxDischargeDepth := 20) (contextual := true) [H]

end Sys2Proof.Machine
end

