-- ==== Sys2Proof/Laws/LinesKeeps.lean ====
section
/-! SUPPORT. Which operations keep the attention lines with their flags. -/

namespace Sys2Proof.Machine

/-- Every attention line of the ports stands asserted exactly while a flag is both set and enabled (R166). -/
def LinesOk (q : Spu) : Prop := ∀ (n : Nat) (h : n < 3), q.ports[n].attention = (q.ports[n].flags &&& q.ports[n].mask != 0)

/-- The invariant of the statements, read through the ports. -/
theorem attentionOk_iff (s : State) : AttentionOk s ↔ LinesOk s.spu :=
  ⟨fun h n hn => h ⟨n, hn⟩, fun h p => h p.val p.isLt⟩

/-- What each step of a fold keeps, the fold keeps. -/
@[simp] theorem foldl_lines {α : Type} (g : State → α → State) (hg : ∀ s a, LinesOk s.spu → LinesOk (g s a).spu)
    (l : List α) (s : State) (H : LinesOk s.spu) : LinesOk (l.foldl g s).spu := by
  induction l generalizing s with
  | nil => exact H
  | cons a l ih => exact ih _ (hg s a H)

/-- A change of a port that keeps its line with its flags keeps the lines. -/
@[simp] theorem State.modPort_lines (s : State) (i : Fin 3) (f : Port → Port)
    (hf : ∀ q : Port, q.attention = (q.flags &&& q.mask != 0) → (f q).attention = ((f q).flags &&& (f q).mask != 0))
    (H : LinesOk s.spu) : LinesOk (s.modPort i f).spu := by
  intro j hj
  rw [State.modPort_at]
  split
  · exact hf _ (H i.val i.isLt)
  · exact H j hj

/-- A port reset drives the line (R158). -/
@[simp] theorem Port.resetTo_line (w : Nat) (q : Port) :
    (q.resetTo w).attention = ((q.resetTo w).flags &&& (q.resetTo w).mask != 0) := rfl

/-- `raiseOn` keeps the attention lines with their flags. -/
@[simp] theorem raiseOn_lines (n : Notice) (i : Fin 3) (s : State) (H : LinesOk s.spu) :
    LinesOk (raiseOn n i s).spu := by
  intro j hj
  simp only [raiseOn, State.modPort_at]
  split
  · simp [Port.raise, Port.drive]
  · exact H j hj

/-- `raiseAll` keeps the attention lines with their flags. -/
@[simp] theorem raiseAll_lines (n : Notice) (s : State) (H : LinesOk s.spu) :
    LinesOk (raiseAll n s).spu := by
  simp (maxDischargeDepth := 20) (contextual := true) [raiseAll, H]

/-- `noteUnread` keeps the attention lines with their flags. -/
@[simp] theorem noteUnread_lines (before : Journal) (i : Fin 3) (s : State) (H : LinesOk s.spu) :
    LinesOk (noteUnread before i s).spu := by
  simp only [noteUnread]
  split <;> simp (maxDischargeDepth := 20) (contextual := true) [H]

/-- `postRecord` keeps the attention lines with their flags. -/
@[simp] theorem postRecord_lines (b : Body) (s : State) (H : LinesOk s.spu) :
    LinesOk (postRecord b s).spu := by
  simp (maxDischargeDepth := 20) (contextual := true) [postRecord, H]

/-- `offerFault` keeps the attention lines with their flags. -/
@[simp] theorem offerFault_lines (k : FaultKind) (d : Detail) (s : State) (H : LinesOk s.spu) :
    LinesOk (offerFault k d s).spu := by
  unfold offerFault
  (repeat' (first | split | dsimp only)) <;> simp (maxDischargeDepth := 20) (contextual := true) [H]

/-- `setStatus` keeps the attention lines with their flags. -/
@[simp] theorem setStatus_lines (k : FaultKind) (d : Detail) (s : State) (H : LinesOk s.spu) :
    LinesOk (setStatus k d s).spu := by
  simp (maxDischargeDepth := 20) (contextual := true) [setStatus, H]

/-- `raiseOverrun` keeps the attention lines with their flags. -/
@[simp] theorem raiseOverrun_lines (port : Option (Fin 3)) (s : State) (H : LinesOk s.spu) :
    LinesOk (raiseOverrun port s).spu := by
  unfold raiseOverrun
  (repeat' (first | split | dsimp only)) <;> simp (maxDischargeDepth := 20) (contextual := true) [H]

/-- `post` keeps the attention lines with their flags. -/
@[simp] theorem post_lines (b : Body) (s : State) (H : LinesOk s.spu) :
    LinesOk (post b s).spu := by
  simp (maxDischargeDepth := 20) (contextual := true) [post, H]

/-- `raiseFault` keeps the attention lines with their flags. -/
@[simp] theorem raiseFault_lines (k : FaultKind) (d : Detail) (s : State) (H : LinesOk s.spu) :
    LinesOk (raiseFault k d s).spu := by
  simp only [raiseFault]
  split <;> simp (maxDischargeDepth := 20) (contextual := true) [H]

/-- `reportTrue` keeps the attention lines with their flags. -/
@[simp] theorem reportTrue_lines (k : FaultKind) (d : Detail) (s : State) (H : LinesOk s.spu) :
    LinesOk (reportTrue k d s).spu := by
  simp (maxDischargeDepth := 20) (contextual := true) [reportTrue, H]

/-- `changePoint` keeps the attention lines with their flags. -/
@[simp] theorem changePoint_lines (p : Fin 64) (new : PointState) (c : Cause) (s : State) (H : LinesOk s.spu) :
    LinesOk (changePoint p new c s).spu := by
  simp (maxDischargeDepth := 20) (contextual := true) [changePoint, H]

/-- `movePoint` keeps the attention lines with their flags. -/
@[simp] theorem movePoint_lines (p : Fin 64) (new : PointState) (c : Cause) (s : State) (H : LinesOk s.spu) :
    LinesOk (movePoint p new c s).spu := by
  simp (maxDischargeDepth := 20) (contextual := true) [movePoint, H]

/-- `wantShedBare` keeps the attention lines with their flags. -/
@[simp] theorem wantShedBare_lines (p : Fin 64) (c : Cause) (s : State) (H : LinesOk s.spu) :
    LinesOk (wantShedBare p c s).spu := by
  simp only [wantShedBare]
  split <;> simp (maxDischargeDepth := 20) (contextual := true) [H]

/-- `wantShed` keeps the attention lines with their flags. -/
@[simp] theorem wantShed_lines (p : Fin 64) (c : Cause) (s : State) (H : LinesOk s.spu) :
    LinesOk (wantShed p c s).spu := by
  simp (maxDischargeDepth := 20) (contextual := true) [wantShed, H]

/-- `cancelPoint` keeps the attention lines with their flags. -/
@[simp] theorem cancelPoint_lines (p : Fin 64) (s : State) (H : LinesOk s.spu) :
    LinesOk (cancelPoint p s).spu := by
  simp (maxDischargeDepth := 20) (contextual := true) [cancelPoint, H]

/-- `setTracker` keeps the attention lines with their flags. -/
@[simp] theorem setTracker_lines (t : Tracker) (s : State) (H : LinesOk s.spu) :
    LinesOk (setTracker t s).spu := by
  simp only [setTracker]
  split <;> simp (maxDischargeDepth := 20) (contextual := true) [H]

/-- `dropConsent` keeps the attention lines with their flags. -/
@[simp] theorem dropConsent_lines (mark : ConsentMark) (s : State) (H : LinesOk s.spu) :
    LinesOk (dropConsent mark s).spu := by
  simp only [dropConsent]
  split <;> simp (maxDischargeDepth := 20) (contextual := true) [H]

/-- `trackerEnterHalted` keeps the attention lines with their flags. -/
@[simp] theorem trackerEnterHalted_lines (s : State) (H : LinesOk s.spu) :
    LinesOk (trackerEnterHalted s).spu := by
  simp only [trackerEnterHalted]
  split <;> simp (maxDischargeDepth := 20) (contextual := true) [H]

/-- `trackerLeaveHalted` keeps the attention lines with their flags. -/
@[simp] theorem trackerLeaveHalted_lines (s : State) (H : LinesOk s.spu) :
    LinesOk (trackerLeaveHalted s).spu := by
  simp only [trackerLeaveHalted]
  split <;> simp (maxDischargeDepth := 20) (contextual := true) [H]

/-- `trackerQuietReached` keeps the attention lines with their flags. -/
@[simp] theorem trackerQuietReached_lines (s : State) (H : LinesOk s.spu) :
    LinesOk (trackerQuietReached s).spu := by
  simp only [trackerQuietReached]
  split <;> simp (maxDischargeDepth := 20) (contextual := true) [H]

/-- `trackerQuietCleared` keeps the attention lines with their flags. -/
@[simp] theorem trackerQuietCleared_lines (s : State) (H : LinesOk s.spu) :
    LinesOk (trackerQuietCleared s).spu := by
  simp only [trackerQuietCleared]
  split <;> simp (maxDischargeDepth := 20) (contextual := true) [H]

/-- `consentBackToOpen` keeps the attention lines with their flags. -/
@[simp] theorem consentBackToOpen_lines (mark : ConsentMark) (s : State) (H : LinesOk s.spu) :
    LinesOk (consentBackToOpen mark s).spu := by
  simp (maxDischargeDepth := 20) (contextual := true) [consentBackToOpen, H]

/-- `setSequence` keeps the attention lines with their flags. -/
@[simp] theorem setSequence_lines (new : SeqState) (s : State) (H : LinesOk s.spu) :
    LinesOk (setSequence new s).spu := by
  simp (maxDischargeDepth := 20) (contextual := true) [setSequence, H]

/-- `enterHalted` keeps the attention lines with their flags. -/
@[simp] theorem enterHalted_lines (s : State) (H : LinesOk s.spu) :
    LinesOk (enterHalted s).spu := by
  simp (maxDischargeDepth := 20) (contextual := true) [enterHalted, H]

/-- `setShedding` keeps the attention lines with their flags. -/
@[simp] theorem setShedding_lines (s : State) (H : LinesOk s.spu) :
    LinesOk (setShedding s).spu := by
  simp (maxDischargeDepth := 20) (contextual := true) [setShedding, H]

/-- `openEvent` keeps the attention lines with their flags. -/
@[simp] theorem openEvent_lines (s : State) (H : LinesOk s.spu) :
    LinesOk (openEvent s).spu := by
  simp (maxDischargeDepth := 20) (contextual := true) [openEvent, H]

/-- `releaseLine` keeps the attention lines with their flags. -/
@[simp] theorem releaseLine_lines (l : Fin 4) (s : State) (H : LinesOk s.spu) :
    LinesOk (releaseLine l s).spu := by
  simp only [releaseLine]
  split <;> simp (maxDischargeDepth := 20) (contextual := true) [H]

/-- `releaseLines` keeps the attention lines with their flags. -/
@[simp] theorem releaseLines_lines (s : State) (H : LinesOk s.spu) :
    LinesOk (releaseLines s).spu := by
  simp (maxDischargeDepth := 20) (contextual := true) [releaseLines, H]

/-- `shedStepPoint` keeps the attention lines with their flags. -/
@[simp] theorem shedStepPoint_lines (s : State) (p : Fin 64) (H : LinesOk s.spu) :
    LinesOk (shedStepPoint s p).spu := by
  unfold shedStepPoint
  (repeat' (first | split | dsimp only)) <;> simp (maxDischargeDepth := 20) (contextual := true) [H]

/-- `startShedStep` keeps the attention lines with their flags. -/
@[simp] theorem startShedStep_lines (k : Nat) (s : State) (H : LinesOk s.spu) :
    LinesOk (startShedStep k s).spu := by
  simp (maxDischargeDepth := 20) (contextual := true) [startShedStep, H]

/-- `afterShedDone` keeps the attention lines with their flags. -/
@[simp] theorem afterShedDone_lines (k : Nat) (s : State) (H : LinesOk s.spu) :
    LinesOk (afterShedDone k s).spu := by
  simp only [afterShedDone]
  split <;> simp (maxDischargeDepth := 20) (contextual := true) [H]

/-- `shedStepDone` keeps the attention lines with their flags. -/
@[simp] theorem shedStepDone_lines (k : Nat) (s : State) (H : LinesOk s.spu) :
    LinesOk (shedStepDone k s).spu := by
  simp (maxDischargeDepth := 20) (contextual := true) [shedStepDone, H]

/-- `withdrawManual` keeps the attention lines with their flags. -/
@[simp] theorem withdrawManual_lines (s : State) (p : Fin 64) (H : LinesOk s.spu) :
    LinesOk (withdrawManual s p).spu := by
  unfold withdrawManual
  (repeat' (first | split | dsimp only)) <;> simp (maxDischargeDepth := 20) (contextual := true) [H]

/-- `shedFromWatch` keeps the attention lines with their flags. -/
@[simp] theorem shedFromWatch_lines (s : State) (H : LinesOk s.spu) :
    LinesOk (shedFromWatch s).spu := by
  simp (maxDischargeDepth := 20) (contextual := true) [shedFromWatch, H]

/-- `shedFromHalted` keeps the attention lines with their flags. -/
@[simp] theorem shedFromHalted_lines (s : State) (H : LinesOk s.spu) :
    LinesOk (shedFromHalted s).spu := by
  simp (maxDischargeDepth := 20) (contextual := true) [shedFromHalted, H]

/-- `checkShedding` keeps the attention lines with their flags. -/
@[simp] theorem checkShedding_lines (s : State) (H : LinesOk s.spu) :
    LinesOk (checkShedding s).spu := by
  unfold checkShedding
  (repeat' (first | split | dsimp only)) <;> simp (maxDischargeDepth := 20) (contextual := true) [H]

/-- `closeEvent` keeps the attention lines with their flags. -/
@[simp] theorem closeEvent_lines (s : State) (H : LinesOk s.spu) :
    LinesOk (closeEvent s).spu := by
  simp only [closeEvent]
  split <;> simp (maxDischargeDepth := 20) (contextual := true) [H]

/-- `quietRule` keeps the attention lines with their flags. -/
@[simp] theorem quietRule_lines (s : State) (H : LinesOk s.spu) :
    LinesOk (quietRule s).spu := by
  simp only [quietRule]
  split <;> simp (maxDischargeDepth := 20) (contextual := true) [H]

/-- `enforce` keeps the attention lines with their flags. -/
@[simp] theorem enforce_lines (p : Fin 64) (s : State) (H : LinesOk s.spu) :
    LinesOk (enforce p s).spu := by
  simp only [enforce]
  split <;> simp (maxDischargeDepth := 20) (contextual := true) [H]

/-- `enforceAtStart` keeps the attention lines with their flags. -/
@[simp] theorem enforceAtStart_lines (s : State) (p : Fin 64) (H : LinesOk s.spu) :
    LinesOk (enforceAtStart s p).spu := by
  simp only [enforceAtStart]
  split <;> simp (maxDischargeDepth := 20) (contextual := true) [H]

/-- `startupDecision` keeps the attention lines with their flags. -/
@[simp] theorem startupDecision_lines (s : State) (H : LinesOk s.spu) :
    LinesOk (startupDecision s).spu := by
  unfold startupDecision
  (repeat' (first | split | dsimp only)) <;> simp (maxDischargeDepth := 20) (contextual := true) [H]

/-- `checkRound` keeps the attention lines with their flags. -/
@[simp] theorem checkRound_lines (s : State) (H : LinesOk s.spu) :
    LinesOk (checkRound s).spu := by
  simp only [checkRound]
  split <;> simp (maxDischargeDepth := 20) (contextual := true) [H]

/-- `placeAwait` keeps the attention lines with their flags. -/
@[simp] theorem placeAwait_lines (p : Fin 64) (s : State) (H : LinesOk s.spu) :
    LinesOk (placeAwait p s).spu := by
  simp (maxDischargeDepth := 20) (contextual := true) [placeAwait, H]

/-- `restartStepPoint` keeps the attention lines with their flags. -/
@[simp] theorem restartStepPoint_lines (s : State) (p : Fin 64) (H : LinesOk s.spu) :
    LinesOk (restartStepPoint s p).spu := by
  simp only [restartStepPoint]
  split <;> simp (maxDischargeDepth := 20) (contextual := true) [H]

/-- `startRestartStep` keeps the attention lines with their flags. -/
@[simp] theorem startRestartStep_lines (k : Nat) (s : State) (H : LinesOk s.spu) :
    LinesOk (startRestartStep k s).spu := by
  simp (maxDischargeDepth := 20) (contextual := true) [startRestartStep, H]

/-- `afterRestartDone` keeps the attention lines with their flags. -/
@[simp] theorem afterRestartDone_lines (k : Nat) (s : State) (H : LinesOk s.spu) :
    LinesOk (afterRestartDone k s).spu := by
  simp only [afterRestartDone]
  split <;> simp (maxDischargeDepth := 20) (contextual := true) [H]

/-- `restartStepDone` keeps the attention lines with their flags. -/
@[simp] theorem restartStepDone_lines (k : Nat) (s : State) (H : LinesOk s.spu) :
    LinesOk (restartStepDone k s).spu := by
  simp (maxDischargeDepth := 20) (contextual := true) [restartStepDone, H]

/-- `completeRestart` keeps the attention lines with their flags. -/
@[simp] theorem completeRestart_lines (s : State) (H : LinesOk s.spu) :
    LinesOk (completeRestart s).spu := by
  simp (maxDischargeDepth := 20) (contextual := true) [completeRestart, H]

/-- `beginRestart` keeps the attention lines with their flags. -/
@[simp] theorem beginRestart_lines (s : State) (H : LinesOk s.spu) :
    LinesOk (beginRestart s).spu := by
  simp only [beginRestart]
  split <;> simp (maxDischargeDepth := 20) (contextual := true) [H]

/-- `gatePost` keeps the attention lines with their flags. -/
@[simp] theorem gatePost_lines (p : Fin 64) (s : State) (H : LinesOk s.spu) :
    LinesOk (gatePost p s).spu := by
  simp (maxDischargeDepth := 20) (contextual := true) [gatePost, H]

/-- `settleFor` keeps the attention lines with their flags. -/
@[simp] theorem settleFor_lines (n : Nat) (s : State) (H : LinesOk s.spu) :
    LinesOk (settleFor n s).spu := by
  refine settleFor_keeps (fun t => LinesOk t.spu) ?_ n s H
  intro t t' ht h
  rcases settleOnce_cases h with h | h | h | ⟨p, h⟩ <;> rw [h] <;> simp [ht]

/-- `settle` keeps the attention lines with their flags. -/
@[simp] theorem settle_lines (s : State) (H : LinesOk s.spu) :
    LinesOk (settle s).spu := by
  simp (maxDischargeDepth := 20) (contextual := true) [settle, H]

/-- `cancelPendingRestore` keeps the attention lines with their flags. -/
@[simp] theorem cancelPendingRestore_lines (s : State) (p : Fin 64) (H : LinesOk s.spu) :
    LinesOk (cancelPendingRestore s p).spu := by
  simp only [cancelPendingRestore]
  split <;> simp (maxDischargeDepth := 20) (contextual := true) [H]

/-- `shedInFlightRestore` keeps the attention lines with their flags. -/
@[simp] theorem shedInFlightRestore_lines (s : State) (p : Fin 64) (H : LinesOk s.spu) :
    LinesOk (shedInFlightRestore s p).spu := by
  simp only [shedInFlightRestore]
  split <;> simp (maxDischargeDepth := 20) (contextual := true) [H]

/-- `cancelAwait` keeps the attention lines with their flags. -/
@[simp] theorem cancelAwait_lines (s : State) (p : Fin 64) (H : LinesOk s.spu) :
    LinesOk (cancelAwait s p).spu := by
  simp only [cancelAwait]
  split <;> simp (maxDischargeDepth := 20) (contextual := true) [H]

/-- `abortRestart` keeps the attention lines with their flags. -/
@[simp] theorem abortRestart_lines (s : State) (H : LinesOk s.spu) :
    LinesOk (abortRestart s).spu := by
  simp (maxDischargeDepth := 20) (contextual := true) [abortRestart, H]

/-- `vetoStop` keeps the attention lines with their flags. -/
@[simp] theorem vetoStop_lines (s : State) (H : LinesOk s.spu) :
    LinesOk (vetoStop s).spu := by
  simp (maxDischargeDepth := 20) (contextual := true) [vetoStop, H]

/-- `cutGrace` keeps the attention lines with their flags. -/
@[simp] theorem cutGrace_lines (s : State) (p : Fin 64) (H : LinesOk s.spu) :
    LinesOk (cutGrace s p).spu := by
  simp only [cutGrace]
  split <;> simp (maxDischargeDepth := 20) (contextual := true) [H]

/-- `eventAtLevel` keeps the attention lines with their flags. -/
@[simp] theorem eventAtLevel_lines (s : State) (H : LinesOk s.spu) :
    LinesOk (eventAtLevel s).spu := by
  unfold eventAtLevel
  (repeat' (first | split | dsimp only)) <;> simp (maxDischargeDepth := 20) (contextual := true) [H]

/-- `sequencerAtLevel` keeps the attention lines with their flags. -/
@[simp] theorem sequencerAtLevel_lines (s : State) (H : LinesOk s.spu) :
    LinesOk (sequencerAtLevel s).spu := by
  unfold sequencerAtLevel
  (repeat' (first | split | dsimp only)) <;> simp (maxDischargeDepth := 20) (contextual := true) [H]

/-- `clearQuiet` keeps the attention lines with their flags. -/
@[simp] theorem clearQuiet_lines (s : State) (H : LinesOk s.spu) :
    LinesOk (clearQuiet s).spu := by
  simp only [clearQuiet]
  split <;> simp (maxDischargeDepth := 20) (contextual := true) [H]

/-- `assertLine` keeps the attention lines with their flags. -/
@[simp] theorem assertLine_lines (l : Fin 4) (s : State) (H : LinesOk s.spu) :
    LinesOk (assertLine l s).spu := by
  simp only [assertLine]
  split <;> simp (maxDischargeDepth := 20) (contextual := true) [H]

/-- `assertLines` keeps the attention lines with their flags. -/
@[simp] theorem assertLines_lines (s : State) (H : LinesOk s.spu) :
    LinesOk (assertLines s).spu := by
  simp (maxDischargeDepth := 20) (contextual := true) [assertLines, H]

/-- `changeLevel` keeps the attention lines with their flags. -/
@[simp] theorem changeLevel_lines (new : Level) (s : State) (H : LinesOk s.spu) :
    LinesOk (changeLevel new s).spu := by
  unfold changeLevel
  (repeat' (first | split | dsimp only)) <;> simp (maxDischargeDepth := 20) (contextual := true) [H]

/-- `recompute` keeps the attention lines with their flags. -/
@[simp] theorem recompute_lines (s : State) (H : LinesOk s.spu) :
    LinesOk (recompute s).spu := by
  unfold recompute
  (repeat' (first | split | dsimp only)) <;> simp (maxDischargeDepth := 20) (contextual := true) [H]

/-- `healthyCountEdge` keeps the attention lines with their flags. -/
@[simp] theorem healthyCountEdge_lines (h : Nat) (s : State) (H : LinesOk s.spu) :
    LinesOk (healthyCountEdge h s).spu := by
  unfold healthyCountEdge
  (repeat' (first | split | dsimp only)) <;> simp (maxDischargeDepth := 20) (contextual := true) [H]

/-- `healthChange` keeps the attention lines with their flags. -/
@[simp] theorem healthChange_lines (i : Fin 6) (s : State) (H : LinesOk s.spu) :
    LinesOk (healthChange i s).spu := by
  simp only [healthChange]
  simp (maxDischargeDepth := 20) (contextual := true) [H]

/-- `setHealth` keeps the attention lines with their flags. -/
@[simp] theorem setHealth_lines (i : Fin 6) (new : Health) (s : State) (H : LinesOk s.spu) :
    LinesOk (setHealth i new s).spu := by
  simp (maxDischargeDepth := 20) (contextual := true) [setHealth, H]

/-- `revote` keeps the attention lines with their flags. -/
@[simp] theorem revote_lines (i : Fin 6) (old : Level) (s : State) (H : LinesOk s.spu) :
    LinesOk (revote i old s).spu := by
  simp only [revote]
  split <;> simp (maxDischargeDepth := 20) (contextual := true) [H]

/-- `clearWindow` keeps the attention lines with their flags. -/
@[simp] theorem clearWindow_lines (i : Fin 6) (s : State) (H : LinesOk s.spu) :
    LinesOk (clearWindow i s).spu := by
  simp (maxDischargeDepth := 20) (contextual := true) [clearWindow, H]

/-- `settleArrival` keeps the attention lines with their flags. -/
@[simp] theorem settleArrival_lines (i : Fin 6) (s : State) (H : LinesOk s.spu) :
    LinesOk (settleArrival i s).spu := by
  unfold settleArrival
  (repeat' (first | split | dsimp only)) <;> simp (maxDischargeDepth := 20) (contextual := true) [H]

/-- `enterArrival` keeps the attention lines with their flags. -/
@[simp] theorem enterArrival_lines (i : Fin 6) (v : Nat) (s : State) (H : LinesOk s.spu) :
    LinesOk (enterArrival i v s).spu := by
  simp only [enterArrival]
  simp (maxDischargeDepth := 20) (contextual := true) [H]

/-- `arrival` keeps the attention lines with their flags. -/
@[simp] theorem arrival_lines (i : Fin 6) (v : Nat) (s : State) (H : LinesOk s.spu) :
    LinesOk (arrival i v s).spu := by
  simp (maxDischargeDepth := 20) (contextual := true) [arrival, H]

/-- `takeSample` keeps the attention lines with their flags. -/
@[simp] theorem takeSample_lines (i : Fin 6) (a : Sample) (s : State) (H : LinesOk s.spu) :
    LinesOk (takeSample i a s).spu := by
  simp only [takeSample]
  split <;> simp (maxDischargeDepth := 20) (contextual := true) [H]

/-- `takeFillers` keeps the attention lines with their flags. -/
@[simp] theorem takeFillers_lines (i : Fin 6) (n : Nat) (s : State) (H : LinesOk s.spu) :
    LinesOk (takeFillers i n s).spu := by
  induction n generalizing s with
  | zero => exact H
  | succ n ih => exact ih _ (by simp [H])

/-- `countCheckError` keeps the attention lines with their flags. -/
@[simp] theorem countCheckError_lines (i : Fin 6) (s : State) (H : LinesOk s.spu) :
    LinesOk (countCheckError i s).spu := by
  simp (maxDischargeDepth := 20) (contextual := true) [countCheckError, H]

/-- `newWindow` keeps the attention lines with their flags. -/
@[simp] theorem newWindow_lines (i : Fin 6) (seq : Byte) (a : Sample) (s : State) (H : LinesOk s.spu) :
    LinesOk (newWindow i seq a s).spu := by
  simp (maxDischargeDepth := 20) (contextual := true) [newWindow, H]

/-- `startSettling` keeps the attention lines with their flags. -/
@[simp] theorem startSettling_lines (i : Fin 6) (seq : Byte) (a : Sample) (s : State) (H : LinesOk s.spu) :
    LinesOk (startSettling i seq a s).spu := by
  simp (maxDischargeDepth := 20) (contextual := true) [startSettling, H]

/-- `resettle` keeps the attention lines with their flags. -/
@[simp] theorem resettle_lines (i : Fin 6) (seq : Byte) (a : Sample) (s : State) (H : LinesOk s.spu) :
    LinesOk (resettle i seq a s).spu := by
  simp only [resettle]
  split <;> simp (maxDischargeDepth := 20) (contextual := true) [H]

/-- `continueWindow` keeps the attention lines with their flags. -/
@[simp] theorem continueWindow_lines (i : Fin 6) (seq : Byte) (a : Sample) (s : State) (H : LinesOk s.spu) :
    LinesOk (continueWindow i seq a s).spu := by
  unfold continueWindow
  (repeat' (first | split | dsimp only)) <;> simp (maxDischargeDepth := 20) (contextual := true) [H]

/-- `validFrame` keeps the attention lines with their flags. -/
@[simp] theorem validFrame_lines (i : Fin 6) (seq : Byte) (a : Sample) (s : State) (H : LinesOk s.spu) :
    LinesOk (validFrame i seq a s).spu := by
  simp only [validFrame]
  split <;> simp (maxDischargeDepth := 20) (contextual := true) [H]

/-- `checkFrame` keeps the attention lines with their flags. -/
@[simp] theorem checkFrame_lines (i : Fin 6) (bytes : List Byte) (bad : Bool) (s : State) (H : LinesOk s.spu) :
    LinesOk (checkFrame i bytes bad s).spu := by
  unfold checkFrame
  (repeat' (first | split | dsimp only)) <;> simp (maxDischargeDepth := 20) (contextual := true) [H]

/-- `sensorByte` keeps the attention lines with their flags. -/
@[simp] theorem sensorByte_lines (i : Fin 6) (s : State) (b : LineByte) (H : LinesOk s.spu) :
    LinesOk (sensorByte i s b).spu := by
  unfold sensorByte
  (repeat' (first | split | dsimp only)) <;> simp (maxDischargeDepth := 20) (contextual := true) [H]

/-- `abandonFrame` keeps the attention lines with their flags. -/
@[simp] theorem abandonFrame_lines (i : Fin 6) (s : State) (H : LinesOk s.spu) :
    LinesOk (abandonFrame i s).spu := by
  simp only [abandonFrame]
  split <;> simp (maxDischargeDepth := 20) (contextual := true) [H]

/-- `gapExpiry` keeps the attention lines with their flags. -/
@[simp] theorem gapExpiry_lines (i : Fin 6) (s : State) (H : LinesOk s.spu) :
    LinesOk (gapExpiry i s).spu := by
  unfold gapExpiry
  (repeat' (first | split | dsimp only)) <;> simp (maxDischargeDepth := 20) (contextual := true) [H]

/-- `warnDone` keeps the attention lines with their flags. -/
@[simp] theorem warnDone_lines (p : Fin 64) (s : State) (H : LinesOk s.spu) :
    LinesOk (warnDone p s).spu := by
  simp only [warnDone]
  split <;> simp (maxDischargeDepth := 20) (contextual := true) [H]

/-- `restoreDone` keeps the attention lines with their flags. -/
@[simp] theorem restoreDone_lines (p : Fin 64) (s : State) (H : LinesOk s.spu) :
    LinesOk (restoreDone p s).spu := by
  simp only [restoreDone]
  split <;> simp (maxDischargeDepth := 20) (contextual := true) [H]

/-- `resultDone` keeps the attention lines with their flags. -/
@[simp] theorem resultDone_lines (k : MotionKind) (p : Fin 64) (s : State) (H : LinesOk s.spu) :
    LinesOk (resultDone k p s).spu := by
  simp only [resultDone]
  split <;> simp (maxDischargeDepth := 20) (contextual := true) [H]

/-- `resultNoReply` keeps the attention lines with their flags. -/
@[simp] theorem resultNoReply_lines (k : MotionKind) (p : Fin 64) (s : State) (H : LinesOk s.spu) :
    LinesOk (resultNoReply k p s).spu := by
  simp only [resultNoReply]
  split <;> simp (maxDischargeDepth := 20) (contextual := true) [H]

/-- `resultAt` keeps the attention lines with their flags. -/
@[simp] theorem resultAt_lines (k : MotionKind) (p : Fin 64) (r : Result) (s : State) (H : LinesOk s.spu) :
    LinesOk (resultAt k p r s).spu := by
  simp only [resultAt]
  split <;> simp (maxDischargeDepth := 20) (contextual := true) [H]

/-- `applyResult` keeps the attention lines with their flags. -/
@[simp] theorem applyResult_lines (f : InFlight) (r : Result) (s : State) (H : LinesOk s.spu) :
    LinesOk (applyResult f r s).spu := by
  unfold applyResult
  (repeat' (first | split | dsimp only)) <;> simp (maxDischargeDepth := 20) (contextual := true) [H]

/-- `externalChange` keeps the attention lines with their flags. -/
@[simp] theorem externalChange_lines (p : Fin 64) (new : PointState) (s : State) (H : LinesOk s.spu) :
    LinesOk (externalChange p new s).spu := by
  simp (maxDischargeDepth := 20) (contextual := true) [externalChange, H]

/-- `compareContact` keeps the attention lines with their flags. -/
@[simp] theorem compareContact_lines (p : Fin 64) (closed : Bool) (s : State) (H : LinesOk s.spu) :
    LinesOk (compareContact p closed s).spu := by
  unfold compareContact
  (repeat' (first | split | dsimp only)) <;> simp (maxDischargeDepth := 20) (contextual := true) [H]

/-- `applyLockout` keeps the attention lines with their flags. -/
@[simp] theorem applyLockout_lines (p : Fin 64) (o : OutputStatus) (s : State) (H : LinesOk s.spu) :
    LinesOk (applyLockout p o s).spu := by
  unfold applyLockout
  (repeat' (first | split | dsimp only)) <;> simp (maxDischargeDepth := 20) (contextual := true) [H]

/-- `feedbackAt` keeps the attention lines with their flags. -/
@[simp] theorem feedbackAt_lines (o : OutputStatus) (p : Fin 64) (s : State) (H : LinesOk s.spu) :
    LinesOk (feedbackAt o p s).spu := by
  simp only [feedbackAt]
  split <;> simp (maxDischargeDepth := 20) (contextual := true) [H]

/-- `feedback` keeps the attention lines with their flags. -/
@[simp] theorem feedback_lines (st : Fin 16) (outs : Option (Vector OutputStatus 4)) (s : State) (H : LinesOk s.spu) :
    LinesOk (feedback st outs s).spu := by
  simp only [feedback]
  split <;> simp (maxDischargeDepth := 20) (contextual := true) [H]

/-- `takeDeferred` keeps the attention lines with their flags. -/
@[simp] theorem takeDeferred_lines (f : InFlight) (r : Result) (s : State) (H : LinesOk s.spu) :
    LinesOk (takeDeferred f r s).spu := by
  unfold takeDeferred
  (repeat' (first | split | dsimp only)) <;> simp (maxDischargeDepth := 20) (contextual := true) [H]

/-- `rejoinGate` keeps the attention lines with their flags. -/
@[simp] theorem rejoinGate_lines (p : Fin 64) (s : State) (H : LinesOk s.spu) :
    LinesOk (rejoinGate p s).spu := by
  simp only [rejoinGate]
  split <;> simp (maxDischargeDepth := 20) (contextual := true) [H]

/-- `handOver` keeps the attention lines with their flags. -/
@[simp] theorem handOver_lines (before : Vector PointEntry 64) (s : State) (p : Fin 64) (H : LinesOk s.spu) :
    LinesOk (handOver before s p).spu := by
  simp only [handOver]
  split <;> simp (maxDischargeDepth := 20) (contextual := true) [H]

/-- `lampAfter` keeps the attention lines with their flags. -/
@[simp] theorem lampAfter_lines (before : Vector PointEntry 64) (s : State) (p : Fin 64) (H : LinesOk s.spu) :
    LinesOk (lampAfter before s p).spu := by
  simp (maxDischargeDepth := 20) (contextual := true) [lampAfter, H]

/-- `takeResolution` keeps the attention lines with their flags. -/
@[simp] theorem takeResolution_lines (f : InFlight) (st : Fin 16) (r : Result) (outs : Option (Vector OutputStatus 4)) (s : State) (H : LinesOk s.spu) :
    LinesOk (takeResolution f st r outs s).spu := by
  simp (maxDischargeDepth := 20) (contextual := true) [takeResolution, H]

/-- `unreachablePoint` keeps the attention lines with their flags. -/
@[simp] theorem unreachablePoint_lines (s : State) (p : Fin 64) (H : LinesOk s.spu) :
    LinesOk (unreachablePoint s p).spu := by
  unfold unreachablePoint
  (repeat' (first | split | dsimp only)) <;> simp (maxDischargeDepth := 20) (contextual := true) [H]

/-- `stationUnreachable` keeps the attention lines with their flags. -/
@[simp] theorem stationUnreachable_lines (st : Fin 16) (s : State) (H : LinesOk s.spu) :
    LinesOk (stationUnreachable st s).spu := by
  simp only [stationUnreachable]
  split <;> simp (maxDischargeDepth := 20) (contextual := true) [H]

/-- `checkUnreachable` keeps the attention lines with their flags. -/
@[simp] theorem checkUnreachable_lines (cause : Option (Fin 16)) (s : State) (H : LinesOk s.spu) :
    LinesOk (checkUnreachable cause s).spu := by
  unfold checkUnreachable
  (repeat' (first | split | dsimp only)) <;> simp (maxDischargeDepth := 20) (contextual := true) [H]

/-- `pollResolved` keeps the attention lines with their flags. -/
@[simp] theorem pollResolved_lines (o : Order) (s : State) (H : LinesOk s.spu) :
    LinesOk (pollResolved o s).spu := by
  simp only [pollResolved]
  split <;> simp (maxDischargeDepth := 20) (contextual := true) [H]

/-- `resolve` keeps the attention lines with their flags. -/
@[simp] theorem resolve_lines (f : InFlight) (st : Fin 16) (r : Result) (outs : Option (Vector OutputStatus 4)) (s : State)
    (H : LinesOk s.spu) :
    LinesOk (resolve f st r outs s).spu := by
  simp (maxDischargeDepth := 20) (contextual := true) [resolve, H]

/-- `matchingReply` keeps the attention lines with their flags. -/
@[simp] theorem matchingReply_lines (f : InFlight) (st : Fin 16) (r : Result) (outs : Vector OutputStatus 4) (s : State)
    (H : LinesOk s.spu) :
    LinesOk (matchingReply f st r outs s).spu := by
  simp (maxDischargeDepth := 20) (contextual := true) [matchingReply, H]

/-- `replyFrameTaken` keeps the attention lines with their flags. -/
@[simp] theorem replyFrameTaken_lines (src tag : Byte) (r : Result) (outs : Vector OutputStatus 4) (s : State)
    (H : LinesOk s.spu) :
    LinesOk (replyFrameTaken src tag r outs s).spu := by
  unfold replyFrameTaken
  (repeat' (first | split | dsimp only)) <;> simp (maxDischargeDepth := 20) (contextual := true) [H]

/-- `loopFrame` keeps the attention lines with their flags. -/
@[simp] theorem loopFrame_lines (bytes : List Byte) (bad : Bool) (s : State) (H : LinesOk s.spu) :
    LinesOk (loopFrame bytes bad s).spu := by
  unfold loopFrame
  (repeat' (first | split | dsimp only)) <;> simp (maxDischargeDepth := 20) (contextual := true) [H]

/-- `loopByte` keeps the attention lines with their flags. -/
@[simp] theorem loopByte_lines (s : State) (b : LineByte) (H : LinesOk s.spu) :
    LinesOk (loopByte s b).spu := by
  unfold loopByte
  (repeat' (first | split | dsimp only)) <;> simp (maxDischargeDepth := 20) (contextual := true) [H]

/-- `countNoReply` keeps the attention lines with their flags. -/
@[simp] theorem countNoReply_lines (st : Fin 16) (s : State) (H : LinesOk s.spu) :
    LinesOk (countNoReply st s).spu := by
  simp only [countNoReply]
  split <;> simp (maxDischargeDepth := 20) (contextual := true) [H]

/-- `afterTimeout` keeps the attention lines with their flags. -/
@[simp] theorem afterTimeout_lines (f : InFlight) (st : Fin 16) (s : State) (H : LinesOk s.spu) :
    LinesOk (afterTimeout f st s).spu := by
  simp only [afterTimeout]
  split <;> simp (maxDischargeDepth := 20) (contextual := true) [H]

/-- `replyTimeout` keeps the attention lines with their flags. -/
@[simp] theorem replyTimeout_lines (s : State) (H : LinesOk s.spu) :
    LinesOk (replyTimeout s).spu := by
  unfold replyTimeout
  (repeat' (first | split | dsimp only)) <;> simp (maxDischargeDepth := 20) (contextual := true) [H]

/-- `graceExpiry` keeps the attention lines with their flags. -/
@[simp] theorem graceExpiry_lines (p : Fin 64) (s : State) (H : LinesOk s.spu) :
    LinesOk (graceExpiry p s).spu := by
  simp only [graceExpiry]
  split <;> simp (maxDischargeDepth := 20) (contextual := true) [H]

/-- `settleExpiry` keeps the attention lines with their flags. -/
@[simp] theorem settleExpiry_lines (p : Fin 64) (s : State) (H : LinesOk s.spu) :
    LinesOk (settleExpiry p s).spu := by
  simp only [settleExpiry]
  split <;> simp (maxDischargeDepth := 20) (contextual := true) [H]

/-- `shedWarned` keeps the attention lines with their flags. -/
@[simp] theorem shedWarned_lines (s : State) (p : Fin 64) (H : LinesOk s.spu) :
    LinesOk (shedWarned s p).spu := by
  simp only [shedWarned]
  split <;> simp (maxDischargeDepth := 20) (contextual := true) [H]

/-- `shedTimeout` keeps the attention lines with their flags. -/
@[simp] theorem shedTimeout_lines (k : Nat) (s : State) (H : LinesOk s.spu) :
    LinesOk (shedTimeout k s).spu := by
  simp (maxDischargeDepth := 20) (contextual := true) [shedTimeout, H]

/-- `failAwait` keeps the attention lines with their flags. -/
@[simp] theorem failAwait_lines (s : State) (p : Fin 64) (H : LinesOk s.spu) :
    LinesOk (failAwait s p).spu := by
  simp only [failAwait]
  split <;> simp (maxDischargeDepth := 20) (contextual := true) [H]

/-- `restartTimeout` keeps the attention lines with their flags. -/
@[simp] theorem restartTimeout_lines (k : Nat) (s : State) (H : LinesOk s.spu) :
    LinesOk (restartTimeout k s).spu := by
  simp (maxDischargeDepth := 20) (contextual := true) [restartTimeout, H]

/-- `reply` keeps the attention lines with their flags. -/
@[simp] theorem reply_lines (p : Fin 3) (status : ReplyStatus) (payload : List Byte) (s : State) (H : LinesOk s.spu) :
    LinesOk (reply p status payload s).spu := by
  simp (maxDischargeDepth := 20) (contextual := true) [reply, H]

/-- `enableStation` keeps the attention lines with their flags. -/
@[simp] theorem enableStation_lines (s : State) (i : Fin 6) (H : LinesOk s.spu) :
    LinesOk (enableStation s i).spu := by
  simp only [enableStation]
  split <;> simp (maxDischargeDepth := 20) (contextual := true) [H]

/-- `takeWatermark` keeps the attention lines with their flags. -/
@[simp] theorem takeWatermark_lines (s : State) (i : Fin 3) (H : LinesOk s.spu) :
    LinesOk (takeWatermark s i).spu := by
  simp (maxDischargeDepth := 20) (contextual := true) [takeWatermark, H]

/-- `loadHandOver` keeps the attention lines with their flags. -/
@[simp] theorem loadHandOver_lines (s : State) (H : LinesOk s.spu) :
    LinesOk (loadHandOver s).spu := by
  simp (maxDischargeDepth := 20) (contextual := true) [loadHandOver, H]

/-- `beginRound` keeps the attention lines with their flags. -/
@[simp] theorem beginRound_lines (s : State) (H : LinesOk s.spu) :
    LinesOk (beginRound s).spu := by
  simp (maxDischargeDepth := 20) (contextual := true) [beginRound, H]

/-- `loadRecords` keeps the attention lines with their flags. -/
@[simp] theorem loadRecords_lines (mark : PlanMark) (reason : LoadReason) (s : State) (H : LinesOk s.spu) :
    LinesOk (loadRecords mark reason s).spu := by
  simp (maxDischargeDepth := 20) (contextual := true) [loadRecords, H]

/-- `loadSucceeds` keeps the attention lines with their flags. -/
@[simp] theorem loadSucceeds_lines (p : Plan) (s : State) (H : LinesOk s.spu) :
    LinesOk (loadSucceeds p s).spu := by
  simp (maxDischargeDepth := 20) (contextual := true) [loadSucceeds, H]

/-- `loadFails` keeps the attention lines with their flags. -/
@[simp] theorem loadFails_lines (reason : LoadReason) (s : State) (H : LinesOk s.spu) :
    LinesOk (loadFails reason s).spu := by
  simp (maxDischargeDepth := 20) (contextual := true) [loadFails, H]

/-- `imageLoadEnd` keeps the attention lines with their flags. -/
@[simp] theorem imageLoadEnd_lines (image : List Byte) (s : State) (H : LinesOk s.spu) :
    LinesOk (imageLoadEnd image s).spu := by
  unfold imageLoadEnd
  (repeat' (first | split | dsimp only)) <;> simp (maxDischargeDepth := 20) (contextual := true) [H]

/-- `saveReply` keeps the attention lines with their flags. -/
@[simp] theorem saveReply_lines (f : SaveFlight) (status : ReplyStatus) (payload : List Byte) (s : State) (H : LinesOk s.spu) :
    LinesOk (saveReply f status payload s).spu := by
  simp only [saveReply]
  split <;> simp (maxDischargeDepth := 20) (contextual := true) [H]

/-- `saveSucceeds` keeps the attention lines with their flags. -/
@[simp] theorem saveSucceeds_lines (f : SaveFlight) (s : State) (H : LinesOk s.spu) :
    LinesOk (saveSucceeds f s).spu := by
  simp (maxDischargeDepth := 20) (contextual := true) [saveSucceeds, H]

/-- `saveFails` keeps the attention lines with their flags. -/
@[simp] theorem saveFails_lines (f : SaveFlight) (s : State) (H : LinesOk s.spu) :
    LinesOk (saveFails f s).spu := by
  simp (maxDischargeDepth := 20) (contextual := true) [saveFails, H]

/-- `leaveUse` keeps the attention lines with their flags. -/
@[simp] theorem leaveUse_lines (p : Fin 64) (s : State) (H : LinesOk s.spu) :
    LinesOk (leaveUse p s).spu := by
  simp (maxDischargeDepth := 20) (contextual := true) [leaveUse, H]

/-- `recheckManual` keeps the attention lines with their flags. -/
@[simp] theorem recheckManual_lines (p : Fin 64) (s : State) (H : LinesOk s.spu) :
    LinesOk (recheckManual p s).spu := by
  simp only [recheckManual]
  split <;> simp (maxDischargeDepth := 20) (contextual := true) [H]

/-- `commitPoint` keeps the attention lines with their flags. -/
@[simp] theorem commitPoint_lines (old : Plan) (s : State) (p : Fin 64) (H : LinesOk s.spu) :
    LinesOk (commitPoint old s p).spu := by
  simp only [commitPoint]
  split <;> simp (maxDischargeDepth := 20) (contextual := true) [H]

/-- `commitStation` keeps the attention lines with their flags. -/
@[simp] theorem commitStation_lines (old : Plan) (s : State) (i : Fin 6) (H : LinesOk s.spu) :
    LinesOk (commitStation old s i).spu := by
  simp only [commitStation]
  split <;> simp (maxDischargeDepth := 20) (contextual := true) [H]

/-- `commitLoop` keeps the attention lines with their flags. -/
@[simp] theorem commitLoop_lines (s : State) (H : LinesOk s.spu) :
    LinesOk (commitLoop s).spu := by
  simp (maxDischargeDepth := 20) (contextual := true) [commitLoop, H]

/-- `commitQuiet` keeps the attention lines with their flags. -/
@[simp] theorem commitQuiet_lines (s : State) (H : LinesOk s.spu) :
    LinesOk (commitQuiet s).spu := by
  unfold commitQuiet
  (repeat' (first | split | dsimp only)) <;> simp (maxDischargeDepth := 20) (contextual := true) [H]

/-- `commitHandOver` keeps the attention lines with their flags. -/
@[simp] theorem commitHandOver_lines (old : Plan) (s : State) (H : LinesOk s.spu) :
    LinesOk (commitHandOver old s).spu := by
  simp (maxDischargeDepth := 20) (contextual := true) [commitHandOver, H]

/-- `leaveNoPlan` keeps the attention lines with their flags. -/
@[simp] theorem leaveNoPlan_lines (s : State) (H : LinesOk s.spu) :
    LinesOk (leaveNoPlan s).spu := by
  simp only [leaveNoPlan]
  split <;> simp (maxDischargeDepth := 20) (contextual := true) [H]

/-- `commitPlan` keeps the attention lines with their flags. -/
@[simp] theorem commitPlan_lines (p : Fin 3) (shadow : Plan) (s : State) (H : LinesOk s.spu) :
    LinesOk (commitPlan p shadow s).spu := by
  simp (maxDischargeDepth := 20) (contextual := true) [commitPlan, H]

/-- `finishCommit` keeps the attention lines with their flags. -/
@[simp] theorem finishCommit_lines (p : Fin 3) (save : Bool) (s : State) (H : LinesOk s.spu) :
    LinesOk (finishCommit p save s).spu := by
  simp only [finishCommit]
  split <;> simp (maxDischargeDepth := 20) (contextual := true) [H]

/-- `ownerCommit` keeps the attention lines with their flags. -/
@[simp] theorem ownerCommit_lines (p : Fin 3) (save : Bool) (s : State) (H : LinesOk s.spu) :
    LinesOk (ownerCommit p save s).spu := by
  unfold ownerCommit
  (repeat' (first | split | dsimp only)) <;> simp (maxDischargeDepth := 20) (contextual := true) [H]

/-- `refuse` keeps the attention lines with their flags. -/
@[simp] theorem refuse_lines (p : Fin 3) (status : ReplyStatus) (s : State) (H : LinesOk s.spu) :
    LinesOk (refuse p status s).spu := by
  simp (maxDischargeDepth := 20) (contextual := true) [refuse, H]

/-- `countFrameError` keeps the attention lines with their flags. -/
@[simp] theorem countFrameError_lines (p : Fin 3) (s : State) (H : LinesOk s.spu) :
    LinesOk (countFrameError p s).spu := by
  simp (maxDischargeDepth := 20) (contextual := true) [countFrameError, H]

/-- `linkUp` keeps the attention lines with their flags. -/
@[simp] theorem linkUp_lines (p : Fin 3) (s : State) (H : LinesOk s.spu) :
    LinesOk (linkUp p s).spu := by
  simp (maxDischargeDepth := 20) (contextual := true) [linkUp, H]

/-- `answerBusy` keeps the attention lines with their flags. -/
@[simp] theorem answerBusy_lines (p : Fin 3) (code : Byte) (s : State) (H : LinesOk s.spu) :
    LinesOk (answerBusy p code s).spu := by
  simp only [answerBusy]
  split <;> simp (maxDischargeDepth := 20) (contextual := true) [H]

/-- `enterService` keeps the attention lines with their flags. -/
@[simp] theorem enterService_lines (p : Fin 3) (code : Byte) (s : State) (H : LinesOk s.spu) :
    LinesOk (enterService p code s).spu := by
  simp (maxDischargeDepth := 20) (contextual := true) [enterService, H]

/-- `ownerClaim` keeps the attention lines with their flags. -/
@[simp] theorem ownerClaim_lines (p : Fin 3) (s : State) (H : LinesOk s.spu) :
    LinesOk (ownerClaim p s).spu := by
  unfold ownerClaim
  (repeat' (first | split | dsimp only)) <;> simp (maxDischargeDepth := 20) (contextual := true) [H]

/-- `dropClaim` keeps the attention lines with their flags. -/
@[simp] theorem dropClaim_lines (s : State) (H : LinesOk s.spu) :
    LinesOk (dropClaim s).spu := by
  simp (maxDischargeDepth := 20) (contextual := true) [dropClaim, H]

/-- `ownerPlanWrite` keeps the attention lines with their flags. -/
@[simp] theorem ownerPlanWrite_lines (p : Fin 3) (r : PlanRecord) (s : State) (H : LinesOk s.spu) :
    LinesOk (ownerPlanWrite p r s).spu := by
  unfold ownerPlanWrite
  (repeat' (first | split | dsimp only)) <;> simp (maxDischargeDepth := 20) (contextual := true) [H]

/-- `ownerSave` keeps the attention lines with their flags. -/
@[simp] theorem ownerSave_lines (p : Fin 3) (s : State) (H : LinesOk s.spu) :
    LinesOk (ownerSave p s).spu := by
  unfold ownerSave
  (repeat' (first | split | dsimp only)) <;> simp (maxDischargeDepth := 20) (contextual := true) [H]

/-- `firstConsent` keeps the attention lines with their flags. -/
@[simp] theorem firstConsent_lines (p : Fin 3) (s : State) (H : LinesOk s.spu) :
    LinesOk (firstConsent p s).spu := by
  simp (maxDischargeDepth := 20) (contextual := true) [firstConsent, H]

/-- `grantRestart` keeps the attention lines with their flags. -/
@[simp] theorem grantRestart_lines (p : Fin 3) (s : State) (H : LinesOk s.spu) :
    LinesOk (grantRestart p s).spu := by
  simp (maxDischargeDepth := 20) (contextual := true) [grantRestart, H]

/-- `ownerConsent` keeps the attention lines with their flags. -/
@[simp] theorem ownerConsent_lines (p : Fin 3) (s : State) (H : LinesOk s.spu) :
    LinesOk (ownerConsent p s).spu := by
  unfold ownerConsent
  (repeat' (first | split | dsimp only)) <;> simp (maxDischargeDepth := 20) (contextual := true) [H]

/-- `setVeto` keeps the attention lines with their flags. -/
@[simp] theorem setVeto_lines (p : Fin 3) (v : Bool) (s : State) (H : LinesOk s.spu) :
    LinesOk (setVeto p v s).spu := by
  simp (maxDischargeDepth := 20) (contextual := true) [setVeto, H]

/-- `vetoEffect` keeps the attention lines with their flags. -/
@[simp] theorem vetoEffect_lines (s : State) (H : LinesOk s.spu) :
    LinesOk (vetoEffect s).spu := by
  unfold vetoEffect
  (repeat' (first | split | dsimp only)) <;> simp (maxDischargeDepth := 20) (contextual := true) [H]

/-- `ownerVeto` keeps the attention lines with their flags. -/
@[simp] theorem ownerVeto_lines (p : Fin 3) (s : State) (H : LinesOk s.spu) :
    LinesOk (ownerVeto p s).spu := by
  unfold ownerVeto
  (repeat' (first | split | dsimp only)) <;> simp (maxDischargeDepth := 20) (contextual := true) [H]

/-- `clearKind` keeps the attention lines with their flags. -/
@[simp] theorem clearKind_lines (s : State) (k : FaultKind) (H : LinesOk s.spu) :
    LinesOk (clearKind s k).spu := by
  unfold clearKind
  (repeat' (first | split | dsimp only)) <;> simp (maxDischargeDepth := 20) (contextual := true) [H]

/-- `ownerFaultClear` keeps the attention lines with their flags. -/
@[simp] theorem ownerFaultClear_lines (p : Fin 3) (set : Nat) (s : State) (H : LinesOk s.spu) :
    LinesOk (ownerFaultClear p set s).spu := by
  simp (maxDischargeDepth := 20) (contextual := true) [ownerFaultClear, H]

/-- `ownerManualShed` keeps the attention lines with their flags. -/
@[simp] theorem ownerManualShed_lines (p : Fin 3) (i : Fin 64) (s : State) (H : LinesOk s.spu) :
    LinesOk (ownerManualShed p i s).spu := by
  unfold ownerManualShed
  (repeat' (first | split | dsimp only)) <;> simp (maxDischargeDepth := 20) (contextual := true) [H]

/-- `placeManual` keeps the attention lines with their flags. -/
@[simp] theorem placeManual_lines (p : Fin 3) (i : Fin 64) (s : State) (H : LinesOk s.spu) :
    LinesOk (placeManual p i s).spu := by
  simp only [placeManual]
  split <;> simp (maxDischargeDepth := 20) (contextual := true) [H]

/-- `ownerManualRestore` keeps the attention lines with their flags. -/
@[simp] theorem ownerManualRestore_lines (p : Fin 3) (i : Fin 64) (s : State) (H : LinesOk s.spu) :
    LinesOk (ownerManualRestore p i s).spu := by
  unfold ownerManualRestore
  (repeat' (first | split | dsimp only)) <;> simp (maxDischargeDepth := 20) (contextual := true) [H]

/-- `withdrawConsent` keeps the attention lines with their flags. -/
@[simp] theorem withdrawConsent_lines (p : Fin 3) (s : State) (H : LinesOk s.spu) :
    LinesOk (withdrawConsent p s).spu := by
  simp only [withdrawConsent]
  split <;> simp (maxDischargeDepth := 20) (contextual := true) [H]

/-- `portReset` keeps the attention lines with their flags. -/
@[simp] theorem portReset_lines (p : Fin 3) (s : State) (H : LinesOk s.spu) :
    LinesOk (portReset p s).spu := by
  have A := State.modPort_lines s p (Port.resetTo s.pls.active.params.watermark) (fun q _ => Port.resetTo_line _ q) H
  have B := abandonSaveReply_frame p (s.modPort p (Port.resetTo s.pls.active.params.watermark))
  simp only [portReset]
  refine raiseFault_lines _ _ _ (withdrawConsent_lines _ _ ?_)
  split
  · exact dropClaim_lines _ (by simpa [B] using A)
  · simpa [B] using A

end Sys2Proof.Machine
end

