-- ==== Sys2Proof/Laws/PerInstr.lean ====
section
/-! SUPPORT. The requests a well-formed command brings, constructor by constructor: their payloads fit a frame. -/

namespace Sys2Proof.Laws.PayloadFits

/-- A well-formed command that brings a request brings one whose payload has at most 120 bytes (R157). -/
def Statement (i : Instr) : Prop :=
  i.wf = true → ∀ p code payload, i.request = some (p, code, payload) → payload.length ≤ 120

/-- The case of `coldReset`. -/
theorem coldReset : Statement (.coldReset) := fun _ _ _ _ e => nomatch e

/-- The case of `warmReset`. -/
theorem warmReset : Statement (.warmReset) := fun _ _ _ _ e => nomatch e

/-- The case of `imageLoadEnd`. -/
theorem imageLoadEnd (image : List Byte) : Statement (.imageLoadEnd image) := fun _ _ _ _ e => nomatch e

/-- The case of `saveEnd`. -/
theorem saveEnd (failedAt : Option Nat) : Statement (.saveEnd failedAt) := fun _ _ _ _ e => nomatch e

/-- The case of `sensorFrame`. -/
theorem sensorFrame (station : Fin 6) (bytes : List LineByte) : Statement (.sensorFrame station bytes) := fun _ _ _ _ e => nomatch e

/-- The case of `sensorIdleAbandon`. -/
theorem sensorIdleAbandon (station : Fin 6) (next : Option LineByte) : Statement (.sensorIdleAbandon station next) := fun _ _ _ _ e => nomatch e

/-- The case of `gapTimerExpiry`. -/
theorem gapTimerExpiry (station : Fin 6) : Statement (.gapTimerExpiry station) := fun _ _ _ _ e => nomatch e

/-- The case of `blindTimerExpiry`. -/
theorem blindTimerExpiry : Statement (.blindTimerExpiry) := fun _ _ _ _ e => nomatch e

/-- The case of `quietReached`. -/
theorem quietReached : Statement (.quietReached) := fun _ _ _ _ e => nomatch e

/-- The case of `orderFrameEnd`. -/
theorem orderFrameEnd : Statement (.orderFrameEnd) := fun _ _ _ _ e => nomatch e

/-- The case of `tripAllFrameEnd`. -/
theorem tripAllFrameEnd : Statement (.tripAllFrameEnd) := fun _ _ _ _ e => nomatch e

/-- The case of `loopReplyFrame`. -/
theorem loopReplyFrame (bytes : List LineByte) : Statement (.loopReplyFrame bytes) := fun _ _ _ _ e => nomatch e

/-- The case of `loopIdleAbandon`. -/
theorem loopIdleAbandon (next : Option LineByte) : Statement (.loopIdleAbandon next) := fun _ _ _ _ e => nomatch e

/-- The case of `replyTimeout`. -/
theorem replyTimeout : Statement (.replyTimeout) := fun _ _ _ _ e => nomatch e

/-- The case of `pollTimerExpiry`. -/
theorem pollTimerExpiry : Statement (.pollTimerExpiry) := fun _ _ _ _ e => nomatch e

/-- The case of `restoreSpacingExpiry`. -/
theorem restoreSpacingExpiry : Statement (.restoreSpacingExpiry) := fun _ _ _ _ e => nomatch e

/-- The case of `graceTimerExpiry`. -/
theorem graceTimerExpiry (point : Fin 64) : Statement (.graceTimerExpiry point) := fun _ _ _ _ e => nomatch e

/-- The case of `settleTimerExpiry`. -/
theorem settleTimerExpiry (point : Fin 64) : Statement (.settleTimerExpiry point) := fun _ _ _ _ e => nomatch e

/-- The case of `shedDelayExpiry`. -/
theorem shedDelayExpiry : Statement (.shedDelayExpiry) := fun _ _ _ _ e => nomatch e

/-- The case of `shedStepTimeout`. -/
theorem shedStepTimeout : Statement (.shedStepTimeout) := fun _ _ _ _ e => nomatch e

/-- The case of `restartDelayExpiry`. -/
theorem restartDelayExpiry : Statement (.restartDelayExpiry) := fun _ _ _ _ e => nomatch e

/-- The case of `restartStepTimeout`. -/
theorem restartStepTimeout : Statement (.restartStepTimeout) := fun _ _ _ _ e => nomatch e

/-- The case of `consentWindowExpiry`. -/
theorem consentWindowExpiry : Statement (.consentWindowExpiry) := fun _ _ _ _ e => nomatch e

/-- The case of `linkTimeout`. -/
theorem linkTimeout (port : Fin 3) : Statement (.linkTimeout port) := fun _ _ _ _ e => nomatch e

/-- The case of `requestFrameInvalid`. -/
theorem requestFrameInvalid (port : Fin 3) (bytes : List LineByte) : Statement (.requestFrameInvalid port bytes) := fun _ _ _ _ e => nomatch e

/-- The case of `requestIdleAbandon`. -/
theorem requestIdleAbandon (port : Fin 3) (next : Option LineByte) : Statement (.requestIdleAbandon port next) := fun _ _ _ _ e => nomatch e

/-- The case of `requestWhileBusy`. -/
theorem requestWhileBusy (port : Fin 3) (code : Byte) (payload : List Byte) : Statement (.requestWhileBusy port code payload) :=
  fun h _ _ _ e => by cases e; exact of_decide_eq_true h

/-- The case of `replySent`. -/
theorem replySent (port : Fin 3) : Statement (.replySent port) := fun _ _ _ _ e => nomatch e

/-- The case of `unknownRequest`. -/
theorem unknownRequest (port : Fin 3) (code : Byte) (payload : List Byte) : Statement (.unknownRequest port code payload) :=
  fun h _ _ _ e => by cases e; exact of_decide_eq_true (Bool.and_eq_true_iff.mp h).2

/-- The case of `status`. -/
theorem status (port : Fin 3) (payload : List Byte) : Statement (.status port payload) :=
  fun h _ _ _ e => by cases e; exact of_decide_eq_true h

/-- The case of `ident`. -/
theorem ident (port : Fin 3) (payload : List Byte) : Statement (.ident port payload) :=
  fun h _ _ _ e => by cases e; exact of_decide_eq_true h

/-- The case of `stationDetail`. -/
theorem stationDetail (port : Fin 3) (payload : List Byte) : Statement (.stationDetail port payload) :=
  fun h _ _ _ e => by cases e; exact of_decide_eq_true h

/-- The case of `pointDetail`. -/
theorem pointDetail (port : Fin 3) (payload : List Byte) : Statement (.pointDetail port payload) :=
  fun h _ _ _ e => by cases e; exact of_decide_eq_true h

/-- The case of `sequenceDetail`. -/
theorem sequenceDetail (port : Fin 3) (payload : List Byte) : Statement (.sequenceDetail port payload) :=
  fun h _ _ _ e => by cases e; exact of_decide_eq_true h

/-- The case of `journalRead`. -/
theorem journalRead (port : Fin 3) (payload : List Byte) : Statement (.journalRead port payload) :=
  fun h _ _ _ e => by cases e; exact of_decide_eq_true h

/-- The case of `noticeMask`. -/
theorem noticeMask (port : Fin 3) (payload : List Byte) : Statement (.noticeMask port payload) :=
  fun h _ _ _ e => by cases e; exact of_decide_eq_true h

/-- The case of `claim`. -/
theorem claim (port : Fin 3) (payload : List Byte) : Statement (.claim port payload) :=
  fun h _ _ _ e => by cases e; exact of_decide_eq_true h

/-- The case of `release`. -/
theorem release (port : Fin 3) (payload : List Byte) : Statement (.release port payload) :=
  fun h _ _ _ e => by cases e; exact of_decide_eq_true h

/-- The case of `planWrite`. -/
theorem planWrite (port : Fin 3) (payload : List Byte) : Statement (.planWrite port payload) :=
  fun h _ _ _ e => by cases e; exact of_decide_eq_true h

/-- The case of `planRead`. -/
theorem planRead (port : Fin 3) (payload : List Byte) : Statement (.planRead port payload) :=
  fun h _ _ _ e => by cases e; exact of_decide_eq_true h

/-- The case of `commit`. -/
theorem commit (port : Fin 3) (payload : List Byte) : Statement (.commit port payload) :=
  fun h _ _ _ e => by cases e; exact of_decide_eq_true h

/-- The case of `save`. -/
theorem save (port : Fin 3) (payload : List Byte) : Statement (.save port payload) :=
  fun h _ _ _ e => by cases e; exact of_decide_eq_true h

/-- The case of `consent`. -/
theorem consent (port : Fin 3) (payload : List Byte) : Statement (.consent port payload) :=
  fun h _ _ _ e => by cases e; exact of_decide_eq_true h

/-- The case of `veto`. -/
theorem veto (port : Fin 3) (payload : List Byte) : Statement (.veto port payload) :=
  fun h _ _ _ e => by cases e; exact of_decide_eq_true h

/-- The case of `vetoClear`. -/
theorem vetoClear (port : Fin 3) (payload : List Byte) : Statement (.vetoClear port payload) :=
  fun h _ _ _ e => by cases e; exact of_decide_eq_true h

/-- The case of `faultClear`. -/
theorem faultClear (port : Fin 3) (payload : List Byte) : Statement (.faultClear port payload) :=
  fun h _ _ _ e => by cases e; exact of_decide_eq_true h

/-- The case of `manualShed`. -/
theorem manualShed (port : Fin 3) (payload : List Byte) : Statement (.manualShed port payload) :=
  fun h _ _ _ e => by cases e; exact of_decide_eq_true h

/-- The case of `manualRestore`. -/
theorem manualRestore (port : Fin 3) (payload : List Byte) : Statement (.manualRestore port payload) :=
  fun h _ _ _ e => by cases e; exact of_decide_eq_true h

end Sys2Proof.Laws.PayloadFits
end

