-- ==== Sys2Proof/Laws/PortsKeeps.lean ====
section
/-! SUPPORT. Which operations leave what a port holds beside its flags and its line. -/

namespace Sys2Proof.Machine

/-- A port beside its flags and its line. -/
def Port.rest (q : Port) : Port := { q with flags := 0, attention := false }

/-- Raising a flag leaves the rest of a port. -/
@[simp] theorem Port.raise_rest (n : Notice) (q : Port) : (q.raise n).rest = q.rest := rfl

/-- Driving the line leaves the rest of a port. -/
@[simp] theorem Port.drive_rest (q : Port) : q.drive.rest = q.rest := rfl

/-- The rest of a port is its other items. -/
theorem Port.rest_items {p q : Port} (h : p.rest = q.rest) :
    p.up = q.up ∧ p.link = q.link ∧ p.service = q.service ∧ p.queue = q.queue ∧ p.tail = q.tail ∧ p.mask = q.mask
      ∧ p.watermark = q.watermark ∧ p.frameErrors = q.frameErrors ∧ p.rx = q.rx := by
  cases p; cases q; simpa [Port.rest] using h

/-- A fold of steps that leave the rest of a port leaves it. -/
@[simp] theorem foldl_ports {α : Type} (g : State → α → State)
    (H : ∀ s a (j : Nat) (hj : j < 3), (g s a).spu.ports[j].rest = s.spu.ports[j].rest)
    (l : List α) (s : State) (j : Nat) (hj : j < 3) : (l.foldl g s).spu.ports[j].rest = s.spu.ports[j].rest := by
  induction l generalizing s with
  | nil => rfl
  | cons a l ih => simp [ih, H]

/-- `raiseOn` leaves what a port holds beside its flags and its line. -/
@[simp] theorem raiseOn_ports (n : Notice) (i : Fin 3) (s : State) (j : Nat) (hj : j < 3) :
    (raiseOn n i s).spu.ports[j].rest = s.spu.ports[j].rest := by
  simp only [raiseOn, State.modPort_at]
  split
  · next e => subst e; simp
  · simp

/-- `raiseOn` leaves what a port holds beside its flags and its line, item by item. -/
@[simp] theorem raiseOn_port (n : Notice) (i : Fin 3) (s : State) (j : Nat) (hj : j < 3) :
    (raiseOn n i s).spu.ports[j].up = s.spu.ports[j].up ∧ (raiseOn n i s).spu.ports[j].link = s.spu.ports[j].link
      ∧ (raiseOn n i s).spu.ports[j].service = s.spu.ports[j].service
      ∧ (raiseOn n i s).spu.ports[j].queue = s.spu.ports[j].queue
      ∧ (raiseOn n i s).spu.ports[j].tail = s.spu.ports[j].tail ∧ (raiseOn n i s).spu.ports[j].mask = s.spu.ports[j].mask
      ∧ (raiseOn n i s).spu.ports[j].watermark = s.spu.ports[j].watermark
      ∧ (raiseOn n i s).spu.ports[j].frameErrors = s.spu.ports[j].frameErrors
      ∧ (raiseOn n i s).spu.ports[j].rx = s.spu.ports[j].rx :=
  Port.rest_items (raiseOn_ports n i s j hj)

/-- `raiseAll` leaves what a port holds beside its flags and its line. -/
@[simp] theorem raiseAll_ports (n : Notice) (s : State) (j : Nat) (hj : j < 3) :
    (raiseAll n s).spu.ports[j].rest = s.spu.ports[j].rest := by
  simp [raiseAll]

/-- `raiseAll` leaves what a port holds beside its flags and its line, item by item. -/
@[simp] theorem raiseAll_port (n : Notice) (s : State) (j : Nat) (hj : j < 3) :
    (raiseAll n s).spu.ports[j].up = s.spu.ports[j].up ∧ (raiseAll n s).spu.ports[j].link = s.spu.ports[j].link
      ∧ (raiseAll n s).spu.ports[j].service = s.spu.ports[j].service
      ∧ (raiseAll n s).spu.ports[j].queue = s.spu.ports[j].queue ∧ (raiseAll n s).spu.ports[j].tail = s.spu.ports[j].tail
      ∧ (raiseAll n s).spu.ports[j].mask = s.spu.ports[j].mask
      ∧ (raiseAll n s).spu.ports[j].watermark = s.spu.ports[j].watermark
      ∧ (raiseAll n s).spu.ports[j].frameErrors = s.spu.ports[j].frameErrors
      ∧ (raiseAll n s).spu.ports[j].rx = s.spu.ports[j].rx :=
  Port.rest_items (raiseAll_ports n s j hj)

/-- `noteUnread` leaves what a port holds beside its flags and its line. -/
@[simp] theorem noteUnread_ports (before : Journal) (i : Fin 3) (s : State) (j : Nat) (hj : j < 3) :
    (noteUnread before i s).spu.ports[j].rest = s.spu.ports[j].rest := by
  simp only [noteUnread]
  split <;> simp

/-- `noteUnread` leaves what a port holds beside its flags and its line, item by item. -/
@[simp] theorem noteUnread_port (before : Journal) (i : Fin 3) (s : State) (j : Nat) (hj : j < 3) :
    (noteUnread before i s).spu.ports[j].up = s.spu.ports[j].up
      ∧ (noteUnread before i s).spu.ports[j].link = s.spu.ports[j].link
      ∧ (noteUnread before i s).spu.ports[j].service = s.spu.ports[j].service
      ∧ (noteUnread before i s).spu.ports[j].queue = s.spu.ports[j].queue
      ∧ (noteUnread before i s).spu.ports[j].tail = s.spu.ports[j].tail
      ∧ (noteUnread before i s).spu.ports[j].mask = s.spu.ports[j].mask
      ∧ (noteUnread before i s).spu.ports[j].watermark = s.spu.ports[j].watermark
      ∧ (noteUnread before i s).spu.ports[j].frameErrors = s.spu.ports[j].frameErrors
      ∧ (noteUnread before i s).spu.ports[j].rx = s.spu.ports[j].rx :=
  Port.rest_items (noteUnread_ports before i s j hj)

/-- `postRecord` leaves what a port holds beside its flags and its line. -/
@[simp] theorem postRecord_ports (b : Body) (s : State) (j : Nat) (hj : j < 3) :
    (postRecord b s).spu.ports[j].rest = s.spu.ports[j].rest := by
  simp [postRecord]

/-- `postRecord` leaves what a port holds beside its flags and its line, item by item. -/
@[simp] theorem postRecord_port (b : Body) (s : State) (j : Nat) (hj : j < 3) :
    (postRecord b s).spu.ports[j].up = s.spu.ports[j].up ∧ (postRecord b s).spu.ports[j].link = s.spu.ports[j].link
      ∧ (postRecord b s).spu.ports[j].service = s.spu.ports[j].service
      ∧ (postRecord b s).spu.ports[j].queue = s.spu.ports[j].queue
      ∧ (postRecord b s).spu.ports[j].tail = s.spu.ports[j].tail
      ∧ (postRecord b s).spu.ports[j].mask = s.spu.ports[j].mask
      ∧ (postRecord b s).spu.ports[j].watermark = s.spu.ports[j].watermark
      ∧ (postRecord b s).spu.ports[j].frameErrors = s.spu.ports[j].frameErrors
      ∧ (postRecord b s).spu.ports[j].rx = s.spu.ports[j].rx :=
  Port.rest_items (postRecord_ports b s j hj)

/-- `offerFault` leaves what a port holds beside its flags and its line. -/
@[simp] theorem offerFault_ports (k : FaultKind) (d : Detail) (s : State) (j : Nat) (hj : j < 3) :
    (offerFault k d s).spu.ports[j].rest = s.spu.ports[j].rest := by
  unfold offerFault
  (repeat' (first | split | dsimp only)) <;> simp

/-- `offerFault` leaves what a port holds beside its flags and its line, item by item. -/
@[simp] theorem offerFault_port (k : FaultKind) (d : Detail) (s : State) (j : Nat) (hj : j < 3) :
    (offerFault k d s).spu.ports[j].up = s.spu.ports[j].up ∧ (offerFault k d s).spu.ports[j].link = s.spu.ports[j].link
      ∧ (offerFault k d s).spu.ports[j].service = s.spu.ports[j].service
      ∧ (offerFault k d s).spu.ports[j].queue = s.spu.ports[j].queue
      ∧ (offerFault k d s).spu.ports[j].tail = s.spu.ports[j].tail
      ∧ (offerFault k d s).spu.ports[j].mask = s.spu.ports[j].mask
      ∧ (offerFault k d s).spu.ports[j].watermark = s.spu.ports[j].watermark
      ∧ (offerFault k d s).spu.ports[j].frameErrors = s.spu.ports[j].frameErrors
      ∧ (offerFault k d s).spu.ports[j].rx = s.spu.ports[j].rx :=
  Port.rest_items (offerFault_ports k d s j hj)

/-- `setStatus` leaves what a port holds beside its flags and its line. -/
@[simp] theorem setStatus_ports (k : FaultKind) (d : Detail) (s : State) (j : Nat) (hj : j < 3) :
    (setStatus k d s).spu.ports[j].rest = s.spu.ports[j].rest := by
  simp [setStatus]

/-- `setStatus` leaves what a port holds beside its flags and its line, item by item. -/
@[simp] theorem setStatus_port (k : FaultKind) (d : Detail) (s : State) (j : Nat) (hj : j < 3) :
    (setStatus k d s).spu.ports[j].up = s.spu.ports[j].up ∧ (setStatus k d s).spu.ports[j].link = s.spu.ports[j].link
      ∧ (setStatus k d s).spu.ports[j].service = s.spu.ports[j].service
      ∧ (setStatus k d s).spu.ports[j].queue = s.spu.ports[j].queue
      ∧ (setStatus k d s).spu.ports[j].tail = s.spu.ports[j].tail
      ∧ (setStatus k d s).spu.ports[j].mask = s.spu.ports[j].mask
      ∧ (setStatus k d s).spu.ports[j].watermark = s.spu.ports[j].watermark
      ∧ (setStatus k d s).spu.ports[j].frameErrors = s.spu.ports[j].frameErrors
      ∧ (setStatus k d s).spu.ports[j].rx = s.spu.ports[j].rx :=
  Port.rest_items (setStatus_ports k d s j hj)

/-- `raiseOverrun` leaves what a port holds beside its flags and its line. -/
@[simp] theorem raiseOverrun_ports (port : Option (Fin 3)) (s : State) (j : Nat) (hj : j < 3) :
    (raiseOverrun port s).spu.ports[j].rest = s.spu.ports[j].rest := by
  unfold raiseOverrun
  (repeat' (first | split | dsimp only)) <;> simp

/-- `raiseOverrun` leaves what a port holds beside its flags and its line, item by item. -/
@[simp] theorem raiseOverrun_port (port : Option (Fin 3)) (s : State) (j : Nat) (hj : j < 3) :
    (raiseOverrun port s).spu.ports[j].up = s.spu.ports[j].up
      ∧ (raiseOverrun port s).spu.ports[j].link = s.spu.ports[j].link
      ∧ (raiseOverrun port s).spu.ports[j].service = s.spu.ports[j].service
      ∧ (raiseOverrun port s).spu.ports[j].queue = s.spu.ports[j].queue
      ∧ (raiseOverrun port s).spu.ports[j].tail = s.spu.ports[j].tail
      ∧ (raiseOverrun port s).spu.ports[j].mask = s.spu.ports[j].mask
      ∧ (raiseOverrun port s).spu.ports[j].watermark = s.spu.ports[j].watermark
      ∧ (raiseOverrun port s).spu.ports[j].frameErrors = s.spu.ports[j].frameErrors
      ∧ (raiseOverrun port s).spu.ports[j].rx = s.spu.ports[j].rx :=
  Port.rest_items (raiseOverrun_ports port s j hj)

/-- `post` leaves what a port holds beside its flags and its line. -/
@[simp] theorem post_ports (b : Body) (s : State) (j : Nat) (hj : j < 3) :
    (post b s).spu.ports[j].rest = s.spu.ports[j].rest := by
  simp [post]

/-- `post` leaves what a port holds beside its flags and its line, item by item. -/
@[simp] theorem post_port (b : Body) (s : State) (j : Nat) (hj : j < 3) :
    (post b s).spu.ports[j].up = s.spu.ports[j].up ∧ (post b s).spu.ports[j].link = s.spu.ports[j].link
      ∧ (post b s).spu.ports[j].service = s.spu.ports[j].service ∧ (post b s).spu.ports[j].queue = s.spu.ports[j].queue
      ∧ (post b s).spu.ports[j].tail = s.spu.ports[j].tail ∧ (post b s).spu.ports[j].mask = s.spu.ports[j].mask
      ∧ (post b s).spu.ports[j].watermark = s.spu.ports[j].watermark
      ∧ (post b s).spu.ports[j].frameErrors = s.spu.ports[j].frameErrors ∧ (post b s).spu.ports[j].rx = s.spu.ports[j].rx :=
  Port.rest_items (post_ports b s j hj)

/-- `raiseFault` leaves what a port holds beside its flags and its line. -/
@[simp] theorem raiseFault_ports (k : FaultKind) (d : Detail) (s : State) (j : Nat) (hj : j < 3) :
    (raiseFault k d s).spu.ports[j].rest = s.spu.ports[j].rest := by
  simp only [raiseFault]
  split <;> simp

/-- `raiseFault` leaves what a port holds beside its flags and its line, item by item. -/
@[simp] theorem raiseFault_port (k : FaultKind) (d : Detail) (s : State) (j : Nat) (hj : j < 3) :
    (raiseFault k d s).spu.ports[j].up = s.spu.ports[j].up ∧ (raiseFault k d s).spu.ports[j].link = s.spu.ports[j].link
      ∧ (raiseFault k d s).spu.ports[j].service = s.spu.ports[j].service
      ∧ (raiseFault k d s).spu.ports[j].queue = s.spu.ports[j].queue
      ∧ (raiseFault k d s).spu.ports[j].tail = s.spu.ports[j].tail
      ∧ (raiseFault k d s).spu.ports[j].mask = s.spu.ports[j].mask
      ∧ (raiseFault k d s).spu.ports[j].watermark = s.spu.ports[j].watermark
      ∧ (raiseFault k d s).spu.ports[j].frameErrors = s.spu.ports[j].frameErrors
      ∧ (raiseFault k d s).spu.ports[j].rx = s.spu.ports[j].rx :=
  Port.rest_items (raiseFault_ports k d s j hj)

/-- `reportTrue` leaves what a port holds beside its flags and its line. -/
@[simp] theorem reportTrue_ports (k : FaultKind) (d : Detail) (s : State) (j : Nat) (hj : j < 3) :
    (reportTrue k d s).spu.ports[j].rest = s.spu.ports[j].rest := by
  simp [reportTrue]

/-- `reportTrue` leaves what a port holds beside its flags and its line, item by item. -/
@[simp] theorem reportTrue_port (k : FaultKind) (d : Detail) (s : State) (j : Nat) (hj : j < 3) :
    (reportTrue k d s).spu.ports[j].up = s.spu.ports[j].up ∧ (reportTrue k d s).spu.ports[j].link = s.spu.ports[j].link
      ∧ (reportTrue k d s).spu.ports[j].service = s.spu.ports[j].service
      ∧ (reportTrue k d s).spu.ports[j].queue = s.spu.ports[j].queue
      ∧ (reportTrue k d s).spu.ports[j].tail = s.spu.ports[j].tail
      ∧ (reportTrue k d s).spu.ports[j].mask = s.spu.ports[j].mask
      ∧ (reportTrue k d s).spu.ports[j].watermark = s.spu.ports[j].watermark
      ∧ (reportTrue k d s).spu.ports[j].frameErrors = s.spu.ports[j].frameErrors
      ∧ (reportTrue k d s).spu.ports[j].rx = s.spu.ports[j].rx :=
  Port.rest_items (reportTrue_ports k d s j hj)

/-- `changePoint` leaves what a port holds beside its flags and its line. -/
@[simp] theorem changePoint_ports (p : Fin 64) (new : PointState) (c : Cause) (s : State) (j : Nat) (hj : j < 3) :
    (changePoint p new c s).spu.ports[j].rest = s.spu.ports[j].rest := by
  simp [changePoint]

/-- `changePoint` leaves what a port holds beside its flags and its line, item by item. -/
@[simp] theorem changePoint_port (p : Fin 64) (new : PointState) (c : Cause) (s : State) (j : Nat) (hj : j < 3) :
    (changePoint p new c s).spu.ports[j].up = s.spu.ports[j].up
      ∧ (changePoint p new c s).spu.ports[j].link = s.spu.ports[j].link
      ∧ (changePoint p new c s).spu.ports[j].service = s.spu.ports[j].service
      ∧ (changePoint p new c s).spu.ports[j].queue = s.spu.ports[j].queue
      ∧ (changePoint p new c s).spu.ports[j].tail = s.spu.ports[j].tail
      ∧ (changePoint p new c s).spu.ports[j].mask = s.spu.ports[j].mask
      ∧ (changePoint p new c s).spu.ports[j].watermark = s.spu.ports[j].watermark
      ∧ (changePoint p new c s).spu.ports[j].frameErrors = s.spu.ports[j].frameErrors
      ∧ (changePoint p new c s).spu.ports[j].rx = s.spu.ports[j].rx :=
  Port.rest_items (changePoint_ports p new c s j hj)

/-- `movePoint` leaves what a port holds beside its flags and its line. -/
@[simp] theorem movePoint_ports (p : Fin 64) (new : PointState) (c : Cause) (s : State) (j : Nat) (hj : j < 3) :
    (movePoint p new c s).spu.ports[j].rest = s.spu.ports[j].rest := by
  simp [movePoint]

/-- `movePoint` leaves what a port holds beside its flags and its line, item by item. -/
@[simp] theorem movePoint_port (p : Fin 64) (new : PointState) (c : Cause) (s : State) (j : Nat) (hj : j < 3) :
    (movePoint p new c s).spu.ports[j].up = s.spu.ports[j].up
      ∧ (movePoint p new c s).spu.ports[j].link = s.spu.ports[j].link
      ∧ (movePoint p new c s).spu.ports[j].service = s.spu.ports[j].service
      ∧ (movePoint p new c s).spu.ports[j].queue = s.spu.ports[j].queue
      ∧ (movePoint p new c s).spu.ports[j].tail = s.spu.ports[j].tail
      ∧ (movePoint p new c s).spu.ports[j].mask = s.spu.ports[j].mask
      ∧ (movePoint p new c s).spu.ports[j].watermark = s.spu.ports[j].watermark
      ∧ (movePoint p new c s).spu.ports[j].frameErrors = s.spu.ports[j].frameErrors
      ∧ (movePoint p new c s).spu.ports[j].rx = s.spu.ports[j].rx :=
  Port.rest_items (movePoint_ports p new c s j hj)

/-- `wantShedBare` leaves what a port holds beside its flags and its line. -/
@[simp] theorem wantShedBare_ports (p : Fin 64) (c : Cause) (s : State) (j : Nat) (hj : j < 3) :
    (wantShedBare p c s).spu.ports[j].rest = s.spu.ports[j].rest := by
  unfold wantShedBare
  (repeat' (first | split | dsimp only)) <;> simp

/-- `wantShedBare` leaves what a port holds beside its flags and its line, item by item. -/
@[simp] theorem wantShedBare_port (p : Fin 64) (c : Cause) (s : State) (j : Nat) (hj : j < 3) :
    (wantShedBare p c s).spu.ports[j].up = s.spu.ports[j].up
      ∧ (wantShedBare p c s).spu.ports[j].link = s.spu.ports[j].link
      ∧ (wantShedBare p c s).spu.ports[j].service = s.spu.ports[j].service
      ∧ (wantShedBare p c s).spu.ports[j].queue = s.spu.ports[j].queue
      ∧ (wantShedBare p c s).spu.ports[j].tail = s.spu.ports[j].tail
      ∧ (wantShedBare p c s).spu.ports[j].mask = s.spu.ports[j].mask
      ∧ (wantShedBare p c s).spu.ports[j].watermark = s.spu.ports[j].watermark
      ∧ (wantShedBare p c s).spu.ports[j].frameErrors = s.spu.ports[j].frameErrors
      ∧ (wantShedBare p c s).spu.ports[j].rx = s.spu.ports[j].rx :=
  Port.rest_items (wantShedBare_ports p c s j hj)

/-- `wantShed` leaves what a port holds beside its flags and its line. -/
@[simp] theorem wantShed_ports (p : Fin 64) (c : Cause) (s : State) (j : Nat) (hj : j < 3) :
    (wantShed p c s).spu.ports[j].rest = s.spu.ports[j].rest := by
  simp [wantShed]

/-- `wantShed` leaves what a port holds beside its flags and its line, item by item. -/
@[simp] theorem wantShed_port (p : Fin 64) (c : Cause) (s : State) (j : Nat) (hj : j < 3) :
    (wantShed p c s).spu.ports[j].up = s.spu.ports[j].up ∧ (wantShed p c s).spu.ports[j].link = s.spu.ports[j].link
      ∧ (wantShed p c s).spu.ports[j].service = s.spu.ports[j].service
      ∧ (wantShed p c s).spu.ports[j].queue = s.spu.ports[j].queue
      ∧ (wantShed p c s).spu.ports[j].tail = s.spu.ports[j].tail
      ∧ (wantShed p c s).spu.ports[j].mask = s.spu.ports[j].mask
      ∧ (wantShed p c s).spu.ports[j].watermark = s.spu.ports[j].watermark
      ∧ (wantShed p c s).spu.ports[j].frameErrors = s.spu.ports[j].frameErrors
      ∧ (wantShed p c s).spu.ports[j].rx = s.spu.ports[j].rx :=
  Port.rest_items (wantShed_ports p c s j hj)

/-- `cancelPoint` leaves what a port holds beside its flags and its line. -/
@[simp] theorem cancelPoint_ports (p : Fin 64) (s : State) (j : Nat) (hj : j < 3) :
    (cancelPoint p s).spu.ports[j].rest = s.spu.ports[j].rest := by
  simp [cancelPoint]

/-- `cancelPoint` leaves what a port holds beside its flags and its line, item by item. -/
@[simp] theorem cancelPoint_port (p : Fin 64) (s : State) (j : Nat) (hj : j < 3) :
    (cancelPoint p s).spu.ports[j].up = s.spu.ports[j].up ∧ (cancelPoint p s).spu.ports[j].link = s.spu.ports[j].link
      ∧ (cancelPoint p s).spu.ports[j].service = s.spu.ports[j].service
      ∧ (cancelPoint p s).spu.ports[j].queue = s.spu.ports[j].queue
      ∧ (cancelPoint p s).spu.ports[j].tail = s.spu.ports[j].tail
      ∧ (cancelPoint p s).spu.ports[j].mask = s.spu.ports[j].mask
      ∧ (cancelPoint p s).spu.ports[j].watermark = s.spu.ports[j].watermark
      ∧ (cancelPoint p s).spu.ports[j].frameErrors = s.spu.ports[j].frameErrors
      ∧ (cancelPoint p s).spu.ports[j].rx = s.spu.ports[j].rx :=
  Port.rest_items (cancelPoint_ports p s j hj)

/-- `setTracker` leaves what a port holds beside its flags and its line. -/
@[simp] theorem setTracker_ports (t : Tracker) (s : State) (j : Nat) (hj : j < 3) :
    (setTracker t s).spu.ports[j].rest = s.spu.ports[j].rest := by
  simp only [setTracker]
  split <;> simp

/-- `setTracker` leaves what a port holds beside its flags and its line, item by item. -/
@[simp] theorem setTracker_port (t : Tracker) (s : State) (j : Nat) (hj : j < 3) :
    (setTracker t s).spu.ports[j].up = s.spu.ports[j].up ∧ (setTracker t s).spu.ports[j].link = s.spu.ports[j].link
      ∧ (setTracker t s).spu.ports[j].service = s.spu.ports[j].service
      ∧ (setTracker t s).spu.ports[j].queue = s.spu.ports[j].queue
      ∧ (setTracker t s).spu.ports[j].tail = s.spu.ports[j].tail
      ∧ (setTracker t s).spu.ports[j].mask = s.spu.ports[j].mask
      ∧ (setTracker t s).spu.ports[j].watermark = s.spu.ports[j].watermark
      ∧ (setTracker t s).spu.ports[j].frameErrors = s.spu.ports[j].frameErrors
      ∧ (setTracker t s).spu.ports[j].rx = s.spu.ports[j].rx :=
  Port.rest_items (setTracker_ports t s j hj)

/-- `dropConsent` leaves what a port holds beside its flags and its line. -/
@[simp] theorem dropConsent_ports (mark : ConsentMark) (s : State) (j : Nat) (hj : j < 3) :
    (dropConsent mark s).spu.ports[j].rest = s.spu.ports[j].rest := by
  unfold dropConsent
  (repeat' (first | split | dsimp only)) <;> simp

/-- `dropConsent` leaves what a port holds beside its flags and its line, item by item. -/
@[simp] theorem dropConsent_port (mark : ConsentMark) (s : State) (j : Nat) (hj : j < 3) :
    (dropConsent mark s).spu.ports[j].up = s.spu.ports[j].up
      ∧ (dropConsent mark s).spu.ports[j].link = s.spu.ports[j].link
      ∧ (dropConsent mark s).spu.ports[j].service = s.spu.ports[j].service
      ∧ (dropConsent mark s).spu.ports[j].queue = s.spu.ports[j].queue
      ∧ (dropConsent mark s).spu.ports[j].tail = s.spu.ports[j].tail
      ∧ (dropConsent mark s).spu.ports[j].mask = s.spu.ports[j].mask
      ∧ (dropConsent mark s).spu.ports[j].watermark = s.spu.ports[j].watermark
      ∧ (dropConsent mark s).spu.ports[j].frameErrors = s.spu.ports[j].frameErrors
      ∧ (dropConsent mark s).spu.ports[j].rx = s.spu.ports[j].rx :=
  Port.rest_items (dropConsent_ports mark s j hj)

/-- `trackerEnterHalted` leaves what a port holds beside its flags and its line. -/
@[simp] theorem trackerEnterHalted_ports (s : State) (j : Nat) (hj : j < 3) :
    (trackerEnterHalted s).spu.ports[j].rest = s.spu.ports[j].rest := by
  simp only [trackerEnterHalted]
  split <;> simp

/-- `trackerEnterHalted` leaves what a port holds beside its flags and its line, item by item. -/
@[simp] theorem trackerEnterHalted_port (s : State) (j : Nat) (hj : j < 3) :
    (trackerEnterHalted s).spu.ports[j].up = s.spu.ports[j].up
      ∧ (trackerEnterHalted s).spu.ports[j].link = s.spu.ports[j].link
      ∧ (trackerEnterHalted s).spu.ports[j].service = s.spu.ports[j].service
      ∧ (trackerEnterHalted s).spu.ports[j].queue = s.spu.ports[j].queue
      ∧ (trackerEnterHalted s).spu.ports[j].tail = s.spu.ports[j].tail
      ∧ (trackerEnterHalted s).spu.ports[j].mask = s.spu.ports[j].mask
      ∧ (trackerEnterHalted s).spu.ports[j].watermark = s.spu.ports[j].watermark
      ∧ (trackerEnterHalted s).spu.ports[j].frameErrors = s.spu.ports[j].frameErrors
      ∧ (trackerEnterHalted s).spu.ports[j].rx = s.spu.ports[j].rx :=
  Port.rest_items (trackerEnterHalted_ports s j hj)

/-- `trackerLeaveHalted` leaves what a port holds beside its flags and its line. -/
@[simp] theorem trackerLeaveHalted_ports (s : State) (j : Nat) (hj : j < 3) :
    (trackerLeaveHalted s).spu.ports[j].rest = s.spu.ports[j].rest := by
  unfold trackerLeaveHalted
  (repeat' (first | split | dsimp only)) <;> simp

/-- `trackerLeaveHalted` leaves what a port holds beside its flags and its line, item by item. -/
@[simp] theorem trackerLeaveHalted_port (s : State) (j : Nat) (hj : j < 3) :
    (trackerLeaveHalted s).spu.ports[j].up = s.spu.ports[j].up
      ∧ (trackerLeaveHalted s).spu.ports[j].link = s.spu.ports[j].link
      ∧ (trackerLeaveHalted s).spu.ports[j].service = s.spu.ports[j].service
      ∧ (trackerLeaveHalted s).spu.ports[j].queue = s.spu.ports[j].queue
      ∧ (trackerLeaveHalted s).spu.ports[j].tail = s.spu.ports[j].tail
      ∧ (trackerLeaveHalted s).spu.ports[j].mask = s.spu.ports[j].mask
      ∧ (trackerLeaveHalted s).spu.ports[j].watermark = s.spu.ports[j].watermark
      ∧ (trackerLeaveHalted s).spu.ports[j].frameErrors = s.spu.ports[j].frameErrors
      ∧ (trackerLeaveHalted s).spu.ports[j].rx = s.spu.ports[j].rx :=
  Port.rest_items (trackerLeaveHalted_ports s j hj)

/-- `trackerQuietReached` leaves what a port holds beside its flags and its line. -/
@[simp] theorem trackerQuietReached_ports (s : State) (j : Nat) (hj : j < 3) :
    (trackerQuietReached s).spu.ports[j].rest = s.spu.ports[j].rest := by
  unfold trackerQuietReached
  (repeat' (first | split | dsimp only)) <;> simp

/-- `trackerQuietReached` leaves what a port holds beside its flags and its line, item by item. -/
@[simp] theorem trackerQuietReached_port (s : State) (j : Nat) (hj : j < 3) :
    (trackerQuietReached s).spu.ports[j].up = s.spu.ports[j].up
      ∧ (trackerQuietReached s).spu.ports[j].link = s.spu.ports[j].link
      ∧ (trackerQuietReached s).spu.ports[j].service = s.spu.ports[j].service
      ∧ (trackerQuietReached s).spu.ports[j].queue = s.spu.ports[j].queue
      ∧ (trackerQuietReached s).spu.ports[j].tail = s.spu.ports[j].tail
      ∧ (trackerQuietReached s).spu.ports[j].mask = s.spu.ports[j].mask
      ∧ (trackerQuietReached s).spu.ports[j].watermark = s.spu.ports[j].watermark
      ∧ (trackerQuietReached s).spu.ports[j].frameErrors = s.spu.ports[j].frameErrors
      ∧ (trackerQuietReached s).spu.ports[j].rx = s.spu.ports[j].rx :=
  Port.rest_items (trackerQuietReached_ports s j hj)

/-- `trackerQuietCleared` leaves what a port holds beside its flags and its line. -/
@[simp] theorem trackerQuietCleared_ports (s : State) (j : Nat) (hj : j < 3) :
    (trackerQuietCleared s).spu.ports[j].rest = s.spu.ports[j].rest := by
  unfold trackerQuietCleared
  (repeat' (first | split | dsimp only)) <;> simp

/-- `trackerQuietCleared` leaves what a port holds beside its flags and its line, item by item. -/
@[simp] theorem trackerQuietCleared_port (s : State) (j : Nat) (hj : j < 3) :
    (trackerQuietCleared s).spu.ports[j].up = s.spu.ports[j].up
      ∧ (trackerQuietCleared s).spu.ports[j].link = s.spu.ports[j].link
      ∧ (trackerQuietCleared s).spu.ports[j].service = s.spu.ports[j].service
      ∧ (trackerQuietCleared s).spu.ports[j].queue = s.spu.ports[j].queue
      ∧ (trackerQuietCleared s).spu.ports[j].tail = s.spu.ports[j].tail
      ∧ (trackerQuietCleared s).spu.ports[j].mask = s.spu.ports[j].mask
      ∧ (trackerQuietCleared s).spu.ports[j].watermark = s.spu.ports[j].watermark
      ∧ (trackerQuietCleared s).spu.ports[j].frameErrors = s.spu.ports[j].frameErrors
      ∧ (trackerQuietCleared s).spu.ports[j].rx = s.spu.ports[j].rx :=
  Port.rest_items (trackerQuietCleared_ports s j hj)

/-- `consentBackToOpen` leaves what a port holds beside its flags and its line. -/
@[simp] theorem consentBackToOpen_ports (mark : ConsentMark) (s : State) (j : Nat) (hj : j < 3) :
    (consentBackToOpen mark s).spu.ports[j].rest = s.spu.ports[j].rest := by
  simp [consentBackToOpen]

/-- `consentBackToOpen` leaves what a port holds beside its flags and its line, item by item. -/
@[simp] theorem consentBackToOpen_port (mark : ConsentMark) (s : State) (j : Nat) (hj : j < 3) :
    (consentBackToOpen mark s).spu.ports[j].up = s.spu.ports[j].up
      ∧ (consentBackToOpen mark s).spu.ports[j].link = s.spu.ports[j].link
      ∧ (consentBackToOpen mark s).spu.ports[j].service = s.spu.ports[j].service
      ∧ (consentBackToOpen mark s).spu.ports[j].queue = s.spu.ports[j].queue
      ∧ (consentBackToOpen mark s).spu.ports[j].tail = s.spu.ports[j].tail
      ∧ (consentBackToOpen mark s).spu.ports[j].mask = s.spu.ports[j].mask
      ∧ (consentBackToOpen mark s).spu.ports[j].watermark = s.spu.ports[j].watermark
      ∧ (consentBackToOpen mark s).spu.ports[j].frameErrors = s.spu.ports[j].frameErrors
      ∧ (consentBackToOpen mark s).spu.ports[j].rx = s.spu.ports[j].rx :=
  Port.rest_items (consentBackToOpen_ports mark s j hj)

/-- `setSequence` leaves what a port holds beside its flags and its line. -/
@[simp] theorem setSequence_ports (new : SeqState) (s : State) (j : Nat) (hj : j < 3) :
    (setSequence new s).spu.ports[j].rest = s.spu.ports[j].rest := by
  simp [setSequence]

/-- `setSequence` leaves what a port holds beside its flags and its line, item by item. -/
@[simp] theorem setSequence_port (new : SeqState) (s : State) (j : Nat) (hj : j < 3) :
    (setSequence new s).spu.ports[j].up = s.spu.ports[j].up ∧ (setSequence new s).spu.ports[j].link = s.spu.ports[j].link
      ∧ (setSequence new s).spu.ports[j].service = s.spu.ports[j].service
      ∧ (setSequence new s).spu.ports[j].queue = s.spu.ports[j].queue
      ∧ (setSequence new s).spu.ports[j].tail = s.spu.ports[j].tail
      ∧ (setSequence new s).spu.ports[j].mask = s.spu.ports[j].mask
      ∧ (setSequence new s).spu.ports[j].watermark = s.spu.ports[j].watermark
      ∧ (setSequence new s).spu.ports[j].frameErrors = s.spu.ports[j].frameErrors
      ∧ (setSequence new s).spu.ports[j].rx = s.spu.ports[j].rx :=
  Port.rest_items (setSequence_ports new s j hj)

/-- `enterHalted` leaves what a port holds beside its flags and its line. -/
@[simp] theorem enterHalted_ports (s : State) (j : Nat) (hj : j < 3) :
    (enterHalted s).spu.ports[j].rest = s.spu.ports[j].rest := by
  simp [enterHalted]

/-- `enterHalted` leaves what a port holds beside its flags and its line, item by item. -/
@[simp] theorem enterHalted_port (s : State) (j : Nat) (hj : j < 3) :
    (enterHalted s).spu.ports[j].up = s.spu.ports[j].up ∧ (enterHalted s).spu.ports[j].link = s.spu.ports[j].link
      ∧ (enterHalted s).spu.ports[j].service = s.spu.ports[j].service
      ∧ (enterHalted s).spu.ports[j].queue = s.spu.ports[j].queue
      ∧ (enterHalted s).spu.ports[j].tail = s.spu.ports[j].tail ∧ (enterHalted s).spu.ports[j].mask = s.spu.ports[j].mask
      ∧ (enterHalted s).spu.ports[j].watermark = s.spu.ports[j].watermark
      ∧ (enterHalted s).spu.ports[j].frameErrors = s.spu.ports[j].frameErrors
      ∧ (enterHalted s).spu.ports[j].rx = s.spu.ports[j].rx :=
  Port.rest_items (enterHalted_ports s j hj)

/-- `setShedding` leaves what a port holds beside its flags and its line. -/
@[simp] theorem setShedding_ports (s : State) (j : Nat) (hj : j < 3) :
    (setShedding s).spu.ports[j].rest = s.spu.ports[j].rest := by
  simp [setShedding]

/-- `setShedding` leaves what a port holds beside its flags and its line, item by item. -/
@[simp] theorem setShedding_port (s : State) (j : Nat) (hj : j < 3) :
    (setShedding s).spu.ports[j].up = s.spu.ports[j].up ∧ (setShedding s).spu.ports[j].link = s.spu.ports[j].link
      ∧ (setShedding s).spu.ports[j].service = s.spu.ports[j].service
      ∧ (setShedding s).spu.ports[j].queue = s.spu.ports[j].queue
      ∧ (setShedding s).spu.ports[j].tail = s.spu.ports[j].tail ∧ (setShedding s).spu.ports[j].mask = s.spu.ports[j].mask
      ∧ (setShedding s).spu.ports[j].watermark = s.spu.ports[j].watermark
      ∧ (setShedding s).spu.ports[j].frameErrors = s.spu.ports[j].frameErrors
      ∧ (setShedding s).spu.ports[j].rx = s.spu.ports[j].rx :=
  Port.rest_items (setShedding_ports s j hj)

/-- `openEvent` leaves what a port holds beside its flags and its line. -/
@[simp] theorem openEvent_ports (s : State) (j : Nat) (hj : j < 3) :
    (openEvent s).spu.ports[j].rest = s.spu.ports[j].rest := by
  simp [openEvent]

/-- `openEvent` leaves what a port holds beside its flags and its line, item by item. -/
@[simp] theorem openEvent_port (s : State) (j : Nat) (hj : j < 3) :
    (openEvent s).spu.ports[j].up = s.spu.ports[j].up ∧ (openEvent s).spu.ports[j].link = s.spu.ports[j].link
      ∧ (openEvent s).spu.ports[j].service = s.spu.ports[j].service
      ∧ (openEvent s).spu.ports[j].queue = s.spu.ports[j].queue ∧ (openEvent s).spu.ports[j].tail = s.spu.ports[j].tail
      ∧ (openEvent s).spu.ports[j].mask = s.spu.ports[j].mask
      ∧ (openEvent s).spu.ports[j].watermark = s.spu.ports[j].watermark
      ∧ (openEvent s).spu.ports[j].frameErrors = s.spu.ports[j].frameErrors
      ∧ (openEvent s).spu.ports[j].rx = s.spu.ports[j].rx :=
  Port.rest_items (openEvent_ports s j hj)

/-- `releaseLine` leaves what a port holds beside its flags and its line. -/
@[simp] theorem releaseLine_ports (l : Fin 4) (s : State) (j : Nat) (hj : j < 3) :
    (releaseLine l s).spu.ports[j].rest = s.spu.ports[j].rest := by
  simp only [releaseLine]
  split <;> simp

/-- `releaseLine` leaves what a port holds beside its flags and its line, item by item. -/
@[simp] theorem releaseLine_port (l : Fin 4) (s : State) (j : Nat) (hj : j < 3) :
    (releaseLine l s).spu.ports[j].up = s.spu.ports[j].up ∧ (releaseLine l s).spu.ports[j].link = s.spu.ports[j].link
      ∧ (releaseLine l s).spu.ports[j].service = s.spu.ports[j].service
      ∧ (releaseLine l s).spu.ports[j].queue = s.spu.ports[j].queue
      ∧ (releaseLine l s).spu.ports[j].tail = s.spu.ports[j].tail
      ∧ (releaseLine l s).spu.ports[j].mask = s.spu.ports[j].mask
      ∧ (releaseLine l s).spu.ports[j].watermark = s.spu.ports[j].watermark
      ∧ (releaseLine l s).spu.ports[j].frameErrors = s.spu.ports[j].frameErrors
      ∧ (releaseLine l s).spu.ports[j].rx = s.spu.ports[j].rx :=
  Port.rest_items (releaseLine_ports l s j hj)

/-- `releaseLines` leaves what a port holds beside its flags and its line. -/
@[simp] theorem releaseLines_ports (s : State) (j : Nat) (hj : j < 3) :
    (releaseLines s).spu.ports[j].rest = s.spu.ports[j].rest := by
  simp [releaseLines]

/-- `releaseLines` leaves what a port holds beside its flags and its line, item by item. -/
@[simp] theorem releaseLines_port (s : State) (j : Nat) (hj : j < 3) :
    (releaseLines s).spu.ports[j].up = s.spu.ports[j].up ∧ (releaseLines s).spu.ports[j].link = s.spu.ports[j].link
      ∧ (releaseLines s).spu.ports[j].service = s.spu.ports[j].service
      ∧ (releaseLines s).spu.ports[j].queue = s.spu.ports[j].queue
      ∧ (releaseLines s).spu.ports[j].tail = s.spu.ports[j].tail
      ∧ (releaseLines s).spu.ports[j].mask = s.spu.ports[j].mask
      ∧ (releaseLines s).spu.ports[j].watermark = s.spu.ports[j].watermark
      ∧ (releaseLines s).spu.ports[j].frameErrors = s.spu.ports[j].frameErrors
      ∧ (releaseLines s).spu.ports[j].rx = s.spu.ports[j].rx :=
  Port.rest_items (releaseLines_ports s j hj)

/-- `shedStepPoint` leaves what a port holds beside its flags and its line. -/
@[simp] theorem shedStepPoint_ports (s : State) (p : Fin 64) (j : Nat) (hj : j < 3) :
    (shedStepPoint s p).spu.ports[j].rest = s.spu.ports[j].rest := by
  unfold shedStepPoint
  (repeat' (first | split | dsimp only)) <;> simp

/-- `shedStepPoint` leaves what a port holds beside its flags and its line, item by item. -/
@[simp] theorem shedStepPoint_port (s : State) (p : Fin 64) (j : Nat) (hj : j < 3) :
    (shedStepPoint s p).spu.ports[j].up = s.spu.ports[j].up ∧ (shedStepPoint s p).spu.ports[j].link = s.spu.ports[j].link
      ∧ (shedStepPoint s p).spu.ports[j].service = s.spu.ports[j].service
      ∧ (shedStepPoint s p).spu.ports[j].queue = s.spu.ports[j].queue
      ∧ (shedStepPoint s p).spu.ports[j].tail = s.spu.ports[j].tail
      ∧ (shedStepPoint s p).spu.ports[j].mask = s.spu.ports[j].mask
      ∧ (shedStepPoint s p).spu.ports[j].watermark = s.spu.ports[j].watermark
      ∧ (shedStepPoint s p).spu.ports[j].frameErrors = s.spu.ports[j].frameErrors
      ∧ (shedStepPoint s p).spu.ports[j].rx = s.spu.ports[j].rx :=
  Port.rest_items (shedStepPoint_ports s p j hj)

/-- `startShedStep` leaves what a port holds beside its flags and its line. -/
@[simp] theorem startShedStep_ports (k : Nat) (s : State) (j : Nat) (hj : j < 3) :
    (startShedStep k s).spu.ports[j].rest = s.spu.ports[j].rest := by
  simp [startShedStep]

/-- `startShedStep` leaves what a port holds beside its flags and its line, item by item. -/
@[simp] theorem startShedStep_port (k : Nat) (s : State) (j : Nat) (hj : j < 3) :
    (startShedStep k s).spu.ports[j].up = s.spu.ports[j].up ∧ (startShedStep k s).spu.ports[j].link = s.spu.ports[j].link
      ∧ (startShedStep k s).spu.ports[j].service = s.spu.ports[j].service
      ∧ (startShedStep k s).spu.ports[j].queue = s.spu.ports[j].queue
      ∧ (startShedStep k s).spu.ports[j].tail = s.spu.ports[j].tail
      ∧ (startShedStep k s).spu.ports[j].mask = s.spu.ports[j].mask
      ∧ (startShedStep k s).spu.ports[j].watermark = s.spu.ports[j].watermark
      ∧ (startShedStep k s).spu.ports[j].frameErrors = s.spu.ports[j].frameErrors
      ∧ (startShedStep k s).spu.ports[j].rx = s.spu.ports[j].rx :=
  Port.rest_items (startShedStep_ports k s j hj)

/-- `afterShedDone` leaves what a port holds beside its flags and its line. -/
@[simp] theorem afterShedDone_ports (k : Nat) (s : State) (j : Nat) (hj : j < 3) :
    (afterShedDone k s).spu.ports[j].rest = s.spu.ports[j].rest := by
  simp only [afterShedDone]
  split <;> simp

/-- `afterShedDone` leaves what a port holds beside its flags and its line, item by item. -/
@[simp] theorem afterShedDone_port (k : Nat) (s : State) (j : Nat) (hj : j < 3) :
    (afterShedDone k s).spu.ports[j].up = s.spu.ports[j].up ∧ (afterShedDone k s).spu.ports[j].link = s.spu.ports[j].link
      ∧ (afterShedDone k s).spu.ports[j].service = s.spu.ports[j].service
      ∧ (afterShedDone k s).spu.ports[j].queue = s.spu.ports[j].queue
      ∧ (afterShedDone k s).spu.ports[j].tail = s.spu.ports[j].tail
      ∧ (afterShedDone k s).spu.ports[j].mask = s.spu.ports[j].mask
      ∧ (afterShedDone k s).spu.ports[j].watermark = s.spu.ports[j].watermark
      ∧ (afterShedDone k s).spu.ports[j].frameErrors = s.spu.ports[j].frameErrors
      ∧ (afterShedDone k s).spu.ports[j].rx = s.spu.ports[j].rx :=
  Port.rest_items (afterShedDone_ports k s j hj)

/-- `shedStepDone` leaves what a port holds beside its flags and its line. -/
@[simp] theorem shedStepDone_ports (k : Nat) (s : State) (j : Nat) (hj : j < 3) :
    (shedStepDone k s).spu.ports[j].rest = s.spu.ports[j].rest := by
  simp [shedStepDone]

/-- `shedStepDone` leaves what a port holds beside its flags and its line, item by item. -/
@[simp] theorem shedStepDone_port (k : Nat) (s : State) (j : Nat) (hj : j < 3) :
    (shedStepDone k s).spu.ports[j].up = s.spu.ports[j].up ∧ (shedStepDone k s).spu.ports[j].link = s.spu.ports[j].link
      ∧ (shedStepDone k s).spu.ports[j].service = s.spu.ports[j].service
      ∧ (shedStepDone k s).spu.ports[j].queue = s.spu.ports[j].queue
      ∧ (shedStepDone k s).spu.ports[j].tail = s.spu.ports[j].tail
      ∧ (shedStepDone k s).spu.ports[j].mask = s.spu.ports[j].mask
      ∧ (shedStepDone k s).spu.ports[j].watermark = s.spu.ports[j].watermark
      ∧ (shedStepDone k s).spu.ports[j].frameErrors = s.spu.ports[j].frameErrors
      ∧ (shedStepDone k s).spu.ports[j].rx = s.spu.ports[j].rx :=
  Port.rest_items (shedStepDone_ports k s j hj)

/-- `withdrawManual` leaves what a port holds beside its flags and its line. -/
@[simp] theorem withdrawManual_ports (s : State) (p : Fin 64) (j : Nat) (hj : j < 3) :
    (withdrawManual s p).spu.ports[j].rest = s.spu.ports[j].rest := by
  unfold withdrawManual
  (repeat' (first | split | dsimp only)) <;> simp

/-- `withdrawManual` leaves what a port holds beside its flags and its line, item by item. -/
@[simp] theorem withdrawManual_port (s : State) (p : Fin 64) (j : Nat) (hj : j < 3) :
    (withdrawManual s p).spu.ports[j].up = s.spu.ports[j].up
      ∧ (withdrawManual s p).spu.ports[j].link = s.spu.ports[j].link
      ∧ (withdrawManual s p).spu.ports[j].service = s.spu.ports[j].service
      ∧ (withdrawManual s p).spu.ports[j].queue = s.spu.ports[j].queue
      ∧ (withdrawManual s p).spu.ports[j].tail = s.spu.ports[j].tail
      ∧ (withdrawManual s p).spu.ports[j].mask = s.spu.ports[j].mask
      ∧ (withdrawManual s p).spu.ports[j].watermark = s.spu.ports[j].watermark
      ∧ (withdrawManual s p).spu.ports[j].frameErrors = s.spu.ports[j].frameErrors
      ∧ (withdrawManual s p).spu.ports[j].rx = s.spu.ports[j].rx :=
  Port.rest_items (withdrawManual_ports s p j hj)

/-- `shedFromWatch` leaves what a port holds beside its flags and its line. -/
@[simp] theorem shedFromWatch_ports (s : State) (j : Nat) (hj : j < 3) :
    (shedFromWatch s).spu.ports[j].rest = s.spu.ports[j].rest := by
  simp [shedFromWatch]

/-- `shedFromWatch` leaves what a port holds beside its flags and its line, item by item. -/
@[simp] theorem shedFromWatch_port (s : State) (j : Nat) (hj : j < 3) :
    (shedFromWatch s).spu.ports[j].up = s.spu.ports[j].up ∧ (shedFromWatch s).spu.ports[j].link = s.spu.ports[j].link
      ∧ (shedFromWatch s).spu.ports[j].service = s.spu.ports[j].service
      ∧ (shedFromWatch s).spu.ports[j].queue = s.spu.ports[j].queue
      ∧ (shedFromWatch s).spu.ports[j].tail = s.spu.ports[j].tail
      ∧ (shedFromWatch s).spu.ports[j].mask = s.spu.ports[j].mask
      ∧ (shedFromWatch s).spu.ports[j].watermark = s.spu.ports[j].watermark
      ∧ (shedFromWatch s).spu.ports[j].frameErrors = s.spu.ports[j].frameErrors
      ∧ (shedFromWatch s).spu.ports[j].rx = s.spu.ports[j].rx :=
  Port.rest_items (shedFromWatch_ports s j hj)

/-- `shedFromHalted` leaves what a port holds beside its flags and its line. -/
@[simp] theorem shedFromHalted_ports (s : State) (j : Nat) (hj : j < 3) :
    (shedFromHalted s).spu.ports[j].rest = s.spu.ports[j].rest := by
  simp [shedFromHalted]

/-- `shedFromHalted` leaves what a port holds beside its flags and its line, item by item. -/
@[simp] theorem shedFromHalted_port (s : State) (j : Nat) (hj : j < 3) :
    (shedFromHalted s).spu.ports[j].up = s.spu.ports[j].up ∧ (shedFromHalted s).spu.ports[j].link = s.spu.ports[j].link
      ∧ (shedFromHalted s).spu.ports[j].service = s.spu.ports[j].service
      ∧ (shedFromHalted s).spu.ports[j].queue = s.spu.ports[j].queue
      ∧ (shedFromHalted s).spu.ports[j].tail = s.spu.ports[j].tail
      ∧ (shedFromHalted s).spu.ports[j].mask = s.spu.ports[j].mask
      ∧ (shedFromHalted s).spu.ports[j].watermark = s.spu.ports[j].watermark
      ∧ (shedFromHalted s).spu.ports[j].frameErrors = s.spu.ports[j].frameErrors
      ∧ (shedFromHalted s).spu.ports[j].rx = s.spu.ports[j].rx :=
  Port.rest_items (shedFromHalted_ports s j hj)

/-- `checkShedding` leaves what a port holds beside its flags and its line. -/
@[simp] theorem checkShedding_ports (s : State) (j : Nat) (hj : j < 3) :
    (checkShedding s).spu.ports[j].rest = s.spu.ports[j].rest := by
  unfold checkShedding
  (repeat' (first | split | dsimp only)) <;> simp

/-- `checkShedding` leaves what a port holds beside its flags and its line, item by item. -/
@[simp] theorem checkShedding_port (s : State) (j : Nat) (hj : j < 3) :
    (checkShedding s).spu.ports[j].up = s.spu.ports[j].up ∧ (checkShedding s).spu.ports[j].link = s.spu.ports[j].link
      ∧ (checkShedding s).spu.ports[j].service = s.spu.ports[j].service
      ∧ (checkShedding s).spu.ports[j].queue = s.spu.ports[j].queue
      ∧ (checkShedding s).spu.ports[j].tail = s.spu.ports[j].tail
      ∧ (checkShedding s).spu.ports[j].mask = s.spu.ports[j].mask
      ∧ (checkShedding s).spu.ports[j].watermark = s.spu.ports[j].watermark
      ∧ (checkShedding s).spu.ports[j].frameErrors = s.spu.ports[j].frameErrors
      ∧ (checkShedding s).spu.ports[j].rx = s.spu.ports[j].rx :=
  Port.rest_items (checkShedding_ports s j hj)

/-- `closeEvent` leaves what a port holds beside its flags and its line. -/
@[simp] theorem closeEvent_ports (s : State) (j : Nat) (hj : j < 3) :
    (closeEvent s).spu.ports[j].rest = s.spu.ports[j].rest := by
  simp only [closeEvent]
  split <;> simp

/-- `closeEvent` leaves what a port holds beside its flags and its line, item by item. -/
@[simp] theorem closeEvent_port (s : State) (j : Nat) (hj : j < 3) :
    (closeEvent s).spu.ports[j].up = s.spu.ports[j].up ∧ (closeEvent s).spu.ports[j].link = s.spu.ports[j].link
      ∧ (closeEvent s).spu.ports[j].service = s.spu.ports[j].service
      ∧ (closeEvent s).spu.ports[j].queue = s.spu.ports[j].queue ∧ (closeEvent s).spu.ports[j].tail = s.spu.ports[j].tail
      ∧ (closeEvent s).spu.ports[j].mask = s.spu.ports[j].mask
      ∧ (closeEvent s).spu.ports[j].watermark = s.spu.ports[j].watermark
      ∧ (closeEvent s).spu.ports[j].frameErrors = s.spu.ports[j].frameErrors
      ∧ (closeEvent s).spu.ports[j].rx = s.spu.ports[j].rx :=
  Port.rest_items (closeEvent_ports s j hj)

/-- `quietRule` leaves what a port holds beside its flags and its line. -/
@[simp] theorem quietRule_ports (s : State) (j : Nat) (hj : j < 3) :
    (quietRule s).spu.ports[j].rest = s.spu.ports[j].rest := by
  simp only [quietRule]
  split <;> simp

/-- `quietRule` leaves what a port holds beside its flags and its line, item by item. -/
@[simp] theorem quietRule_port (s : State) (j : Nat) (hj : j < 3) :
    (quietRule s).spu.ports[j].up = s.spu.ports[j].up ∧ (quietRule s).spu.ports[j].link = s.spu.ports[j].link
      ∧ (quietRule s).spu.ports[j].service = s.spu.ports[j].service
      ∧ (quietRule s).spu.ports[j].queue = s.spu.ports[j].queue ∧ (quietRule s).spu.ports[j].tail = s.spu.ports[j].tail
      ∧ (quietRule s).spu.ports[j].mask = s.spu.ports[j].mask
      ∧ (quietRule s).spu.ports[j].watermark = s.spu.ports[j].watermark
      ∧ (quietRule s).spu.ports[j].frameErrors = s.spu.ports[j].frameErrors
      ∧ (quietRule s).spu.ports[j].rx = s.spu.ports[j].rx :=
  Port.rest_items (quietRule_ports s j hj)

/-- `enforce` leaves what a port holds beside its flags and its line. -/
@[simp] theorem enforce_ports (p : Fin 64) (s : State) (j : Nat) (hj : j < 3) :
    (enforce p s).spu.ports[j].rest = s.spu.ports[j].rest := by
  simp only [enforce]
  split <;> simp

/-- `enforce` leaves what a port holds beside its flags and its line, item by item. -/
@[simp] theorem enforce_port (p : Fin 64) (s : State) (j : Nat) (hj : j < 3) :
    (enforce p s).spu.ports[j].up = s.spu.ports[j].up ∧ (enforce p s).spu.ports[j].link = s.spu.ports[j].link
      ∧ (enforce p s).spu.ports[j].service = s.spu.ports[j].service
      ∧ (enforce p s).spu.ports[j].queue = s.spu.ports[j].queue ∧ (enforce p s).spu.ports[j].tail = s.spu.ports[j].tail
      ∧ (enforce p s).spu.ports[j].mask = s.spu.ports[j].mask
      ∧ (enforce p s).spu.ports[j].watermark = s.spu.ports[j].watermark
      ∧ (enforce p s).spu.ports[j].frameErrors = s.spu.ports[j].frameErrors
      ∧ (enforce p s).spu.ports[j].rx = s.spu.ports[j].rx :=
  Port.rest_items (enforce_ports p s j hj)

/-- `enforceAtStart` leaves what a port holds beside its flags and its line. -/
@[simp] theorem enforceAtStart_ports (s : State) (p : Fin 64) (j : Nat) (hj : j < 3) :
    (enforceAtStart s p).spu.ports[j].rest = s.spu.ports[j].rest := by
  simp only [enforceAtStart]
  split <;> simp

/-- `enforceAtStart` leaves what a port holds beside its flags and its line, item by item. -/
@[simp] theorem enforceAtStart_port (s : State) (p : Fin 64) (j : Nat) (hj : j < 3) :
    (enforceAtStart s p).spu.ports[j].up = s.spu.ports[j].up
      ∧ (enforceAtStart s p).spu.ports[j].link = s.spu.ports[j].link
      ∧ (enforceAtStart s p).spu.ports[j].service = s.spu.ports[j].service
      ∧ (enforceAtStart s p).spu.ports[j].queue = s.spu.ports[j].queue
      ∧ (enforceAtStart s p).spu.ports[j].tail = s.spu.ports[j].tail
      ∧ (enforceAtStart s p).spu.ports[j].mask = s.spu.ports[j].mask
      ∧ (enforceAtStart s p).spu.ports[j].watermark = s.spu.ports[j].watermark
      ∧ (enforceAtStart s p).spu.ports[j].frameErrors = s.spu.ports[j].frameErrors
      ∧ (enforceAtStart s p).spu.ports[j].rx = s.spu.ports[j].rx :=
  Port.rest_items (enforceAtStart_ports s p j hj)

/-- `startupDecision` leaves what a port holds beside its flags and its line. -/
@[simp] theorem startupDecision_ports (s : State) (j : Nat) (hj : j < 3) :
    (startupDecision s).spu.ports[j].rest = s.spu.ports[j].rest := by
  unfold startupDecision
  (repeat' (first | split | dsimp only)) <;> simp

/-- `startupDecision` leaves what a port holds beside its flags and its line, item by item. -/
@[simp] theorem startupDecision_port (s : State) (j : Nat) (hj : j < 3) :
    (startupDecision s).spu.ports[j].up = s.spu.ports[j].up ∧ (startupDecision s).spu.ports[j].link = s.spu.ports[j].link
      ∧ (startupDecision s).spu.ports[j].service = s.spu.ports[j].service
      ∧ (startupDecision s).spu.ports[j].queue = s.spu.ports[j].queue
      ∧ (startupDecision s).spu.ports[j].tail = s.spu.ports[j].tail
      ∧ (startupDecision s).spu.ports[j].mask = s.spu.ports[j].mask
      ∧ (startupDecision s).spu.ports[j].watermark = s.spu.ports[j].watermark
      ∧ (startupDecision s).spu.ports[j].frameErrors = s.spu.ports[j].frameErrors
      ∧ (startupDecision s).spu.ports[j].rx = s.spu.ports[j].rx :=
  Port.rest_items (startupDecision_ports s j hj)

/-- `checkRound` leaves what a port holds beside its flags and its line. -/
@[simp] theorem checkRound_ports (s : State) (j : Nat) (hj : j < 3) :
    (checkRound s).spu.ports[j].rest = s.spu.ports[j].rest := by
  simp only [checkRound]
  split <;> simp

/-- `checkRound` leaves what a port holds beside its flags and its line, item by item. -/
@[simp] theorem checkRound_port (s : State) (j : Nat) (hj : j < 3) :
    (checkRound s).spu.ports[j].up = s.spu.ports[j].up ∧ (checkRound s).spu.ports[j].link = s.spu.ports[j].link
      ∧ (checkRound s).spu.ports[j].service = s.spu.ports[j].service
      ∧ (checkRound s).spu.ports[j].queue = s.spu.ports[j].queue ∧ (checkRound s).spu.ports[j].tail = s.spu.ports[j].tail
      ∧ (checkRound s).spu.ports[j].mask = s.spu.ports[j].mask
      ∧ (checkRound s).spu.ports[j].watermark = s.spu.ports[j].watermark
      ∧ (checkRound s).spu.ports[j].frameErrors = s.spu.ports[j].frameErrors
      ∧ (checkRound s).spu.ports[j].rx = s.spu.ports[j].rx :=
  Port.rest_items (checkRound_ports s j hj)

/-- `placeAwait` leaves what a port holds beside its flags and its line. -/
@[simp] theorem placeAwait_ports (p : Fin 64) (s : State) (j : Nat) (hj : j < 3) :
    (placeAwait p s).spu.ports[j].rest = s.spu.ports[j].rest := by
  simp [placeAwait]

/-- `placeAwait` leaves what a port holds beside its flags and its line, item by item. -/
@[simp] theorem placeAwait_port (p : Fin 64) (s : State) (j : Nat) (hj : j < 3) :
    (placeAwait p s).spu.ports[j].up = s.spu.ports[j].up ∧ (placeAwait p s).spu.ports[j].link = s.spu.ports[j].link
      ∧ (placeAwait p s).spu.ports[j].service = s.spu.ports[j].service
      ∧ (placeAwait p s).spu.ports[j].queue = s.spu.ports[j].queue
      ∧ (placeAwait p s).spu.ports[j].tail = s.spu.ports[j].tail
      ∧ (placeAwait p s).spu.ports[j].mask = s.spu.ports[j].mask
      ∧ (placeAwait p s).spu.ports[j].watermark = s.spu.ports[j].watermark
      ∧ (placeAwait p s).spu.ports[j].frameErrors = s.spu.ports[j].frameErrors
      ∧ (placeAwait p s).spu.ports[j].rx = s.spu.ports[j].rx :=
  Port.rest_items (placeAwait_ports p s j hj)

/-- `restartStepPoint` leaves what a port holds beside its flags and its line. -/
@[simp] theorem restartStepPoint_ports (s : State) (p : Fin 64) (j : Nat) (hj : j < 3) :
    (restartStepPoint s p).spu.ports[j].rest = s.spu.ports[j].rest := by
  unfold restartStepPoint
  (repeat' (first | split | dsimp only)) <;> simp

/-- `restartStepPoint` leaves what a port holds beside its flags and its line, item by item. -/
@[simp] theorem restartStepPoint_port (s : State) (p : Fin 64) (j : Nat) (hj : j < 3) :
    (restartStepPoint s p).spu.ports[j].up = s.spu.ports[j].up
      ∧ (restartStepPoint s p).spu.ports[j].link = s.spu.ports[j].link
      ∧ (restartStepPoint s p).spu.ports[j].service = s.spu.ports[j].service
      ∧ (restartStepPoint s p).spu.ports[j].queue = s.spu.ports[j].queue
      ∧ (restartStepPoint s p).spu.ports[j].tail = s.spu.ports[j].tail
      ∧ (restartStepPoint s p).spu.ports[j].mask = s.spu.ports[j].mask
      ∧ (restartStepPoint s p).spu.ports[j].watermark = s.spu.ports[j].watermark
      ∧ (restartStepPoint s p).spu.ports[j].frameErrors = s.spu.ports[j].frameErrors
      ∧ (restartStepPoint s p).spu.ports[j].rx = s.spu.ports[j].rx :=
  Port.rest_items (restartStepPoint_ports s p j hj)

/-- `startRestartStep` leaves what a port holds beside its flags and its line. -/
@[simp] theorem startRestartStep_ports (k : Nat) (s : State) (j : Nat) (hj : j < 3) :
    (startRestartStep k s).spu.ports[j].rest = s.spu.ports[j].rest := by
  simp [startRestartStep]

/-- `startRestartStep` leaves what a port holds beside its flags and its line, item by item. -/
@[simp] theorem startRestartStep_port (k : Nat) (s : State) (j : Nat) (hj : j < 3) :
    (startRestartStep k s).spu.ports[j].up = s.spu.ports[j].up
      ∧ (startRestartStep k s).spu.ports[j].link = s.spu.ports[j].link
      ∧ (startRestartStep k s).spu.ports[j].service = s.spu.ports[j].service
      ∧ (startRestartStep k s).spu.ports[j].queue = s.spu.ports[j].queue
      ∧ (startRestartStep k s).spu.ports[j].tail = s.spu.ports[j].tail
      ∧ (startRestartStep k s).spu.ports[j].mask = s.spu.ports[j].mask
      ∧ (startRestartStep k s).spu.ports[j].watermark = s.spu.ports[j].watermark
      ∧ (startRestartStep k s).spu.ports[j].frameErrors = s.spu.ports[j].frameErrors
      ∧ (startRestartStep k s).spu.ports[j].rx = s.spu.ports[j].rx :=
  Port.rest_items (startRestartStep_ports k s j hj)

/-- `afterRestartDone` leaves what a port holds beside its flags and its line. -/
@[simp] theorem afterRestartDone_ports (k : Nat) (s : State) (j : Nat) (hj : j < 3) :
    (afterRestartDone k s).spu.ports[j].rest = s.spu.ports[j].rest := by
  simp only [afterRestartDone]
  split <;> simp

/-- `afterRestartDone` leaves what a port holds beside its flags and its line, item by item. -/
@[simp] theorem afterRestartDone_port (k : Nat) (s : State) (j : Nat) (hj : j < 3) :
    (afterRestartDone k s).spu.ports[j].up = s.spu.ports[j].up
      ∧ (afterRestartDone k s).spu.ports[j].link = s.spu.ports[j].link
      ∧ (afterRestartDone k s).spu.ports[j].service = s.spu.ports[j].service
      ∧ (afterRestartDone k s).spu.ports[j].queue = s.spu.ports[j].queue
      ∧ (afterRestartDone k s).spu.ports[j].tail = s.spu.ports[j].tail
      ∧ (afterRestartDone k s).spu.ports[j].mask = s.spu.ports[j].mask
      ∧ (afterRestartDone k s).spu.ports[j].watermark = s.spu.ports[j].watermark
      ∧ (afterRestartDone k s).spu.ports[j].frameErrors = s.spu.ports[j].frameErrors
      ∧ (afterRestartDone k s).spu.ports[j].rx = s.spu.ports[j].rx :=
  Port.rest_items (afterRestartDone_ports k s j hj)

/-- `restartStepDone` leaves what a port holds beside its flags and its line. -/
@[simp] theorem restartStepDone_ports (k : Nat) (s : State) (j : Nat) (hj : j < 3) :
    (restartStepDone k s).spu.ports[j].rest = s.spu.ports[j].rest := by
  simp [restartStepDone]

/-- `restartStepDone` leaves what a port holds beside its flags and its line, item by item. -/
@[simp] theorem restartStepDone_port (k : Nat) (s : State) (j : Nat) (hj : j < 3) :
    (restartStepDone k s).spu.ports[j].up = s.spu.ports[j].up
      ∧ (restartStepDone k s).spu.ports[j].link = s.spu.ports[j].link
      ∧ (restartStepDone k s).spu.ports[j].service = s.spu.ports[j].service
      ∧ (restartStepDone k s).spu.ports[j].queue = s.spu.ports[j].queue
      ∧ (restartStepDone k s).spu.ports[j].tail = s.spu.ports[j].tail
      ∧ (restartStepDone k s).spu.ports[j].mask = s.spu.ports[j].mask
      ∧ (restartStepDone k s).spu.ports[j].watermark = s.spu.ports[j].watermark
      ∧ (restartStepDone k s).spu.ports[j].frameErrors = s.spu.ports[j].frameErrors
      ∧ (restartStepDone k s).spu.ports[j].rx = s.spu.ports[j].rx :=
  Port.rest_items (restartStepDone_ports k s j hj)

/-- `completeRestart` leaves what a port holds beside its flags and its line. -/
@[simp] theorem completeRestart_ports (s : State) (j : Nat) (hj : j < 3) :
    (completeRestart s).spu.ports[j].rest = s.spu.ports[j].rest := by
  simp [completeRestart]

/-- `completeRestart` leaves what a port holds beside its flags and its line, item by item. -/
@[simp] theorem completeRestart_port (s : State) (j : Nat) (hj : j < 3) :
    (completeRestart s).spu.ports[j].up = s.spu.ports[j].up ∧ (completeRestart s).spu.ports[j].link = s.spu.ports[j].link
      ∧ (completeRestart s).spu.ports[j].service = s.spu.ports[j].service
      ∧ (completeRestart s).spu.ports[j].queue = s.spu.ports[j].queue
      ∧ (completeRestart s).spu.ports[j].tail = s.spu.ports[j].tail
      ∧ (completeRestart s).spu.ports[j].mask = s.spu.ports[j].mask
      ∧ (completeRestart s).spu.ports[j].watermark = s.spu.ports[j].watermark
      ∧ (completeRestart s).spu.ports[j].frameErrors = s.spu.ports[j].frameErrors
      ∧ (completeRestart s).spu.ports[j].rx = s.spu.ports[j].rx :=
  Port.rest_items (completeRestart_ports s j hj)

/-- `beginRestart` leaves what a port holds beside its flags and its line. -/
@[simp] theorem beginRestart_ports (s : State) (j : Nat) (hj : j < 3) :
    (beginRestart s).spu.ports[j].rest = s.spu.ports[j].rest := by
  simp only [beginRestart]
  split <;> simp

/-- `beginRestart` leaves what a port holds beside its flags and its line, item by item. -/
@[simp] theorem beginRestart_port (s : State) (j : Nat) (hj : j < 3) :
    (beginRestart s).spu.ports[j].up = s.spu.ports[j].up ∧ (beginRestart s).spu.ports[j].link = s.spu.ports[j].link
      ∧ (beginRestart s).spu.ports[j].service = s.spu.ports[j].service
      ∧ (beginRestart s).spu.ports[j].queue = s.spu.ports[j].queue
      ∧ (beginRestart s).spu.ports[j].tail = s.spu.ports[j].tail
      ∧ (beginRestart s).spu.ports[j].mask = s.spu.ports[j].mask
      ∧ (beginRestart s).spu.ports[j].watermark = s.spu.ports[j].watermark
      ∧ (beginRestart s).spu.ports[j].frameErrors = s.spu.ports[j].frameErrors
      ∧ (beginRestart s).spu.ports[j].rx = s.spu.ports[j].rx :=
  Port.rest_items (beginRestart_ports s j hj)

/-- `gatePost` leaves what a port holds beside its flags and its line. -/
@[simp] theorem gatePost_ports (p : Fin 64) (s : State) (j : Nat) (hj : j < 3) :
    (gatePost p s).spu.ports[j].rest = s.spu.ports[j].rest := by
  simp [gatePost]

/-- `gatePost` leaves what a port holds beside its flags and its line, item by item. -/
@[simp] theorem gatePost_port (p : Fin 64) (s : State) (j : Nat) (hj : j < 3) :
    (gatePost p s).spu.ports[j].up = s.spu.ports[j].up ∧ (gatePost p s).spu.ports[j].link = s.spu.ports[j].link
      ∧ (gatePost p s).spu.ports[j].service = s.spu.ports[j].service
      ∧ (gatePost p s).spu.ports[j].queue = s.spu.ports[j].queue ∧ (gatePost p s).spu.ports[j].tail = s.spu.ports[j].tail
      ∧ (gatePost p s).spu.ports[j].mask = s.spu.ports[j].mask
      ∧ (gatePost p s).spu.ports[j].watermark = s.spu.ports[j].watermark
      ∧ (gatePost p s).spu.ports[j].frameErrors = s.spu.ports[j].frameErrors
      ∧ (gatePost p s).spu.ports[j].rx = s.spu.ports[j].rx :=
  Port.rest_items (gatePost_ports p s j hj)

/-- `settleFor` leaves what a port holds beside its flags and its line. -/
@[simp] theorem settleFor_ports (n : Nat) (s : State) (j : Nat) (hj : j < 3) :
    (settleFor n s).spu.ports[j].rest = s.spu.ports[j].rest := by
  refine settleFor_keeps (fun t => t.spu.ports[j].rest = s.spu.ports[j].rest) ?_ n s rfl
  intro t t' ht h
  rcases settleOnce_cases h with h | h | h | ⟨p, h⟩ <;> rw [h] <;> simpa using ht

/-- `settleFor` leaves what a port holds beside its flags and its line, item by item. -/
@[simp] theorem settleFor_port (n : Nat) (s : State) (j : Nat) (hj : j < 3) :
    (settleFor n s).spu.ports[j].up = s.spu.ports[j].up ∧ (settleFor n s).spu.ports[j].link = s.spu.ports[j].link
      ∧ (settleFor n s).spu.ports[j].service = s.spu.ports[j].service
      ∧ (settleFor n s).spu.ports[j].queue = s.spu.ports[j].queue
      ∧ (settleFor n s).spu.ports[j].tail = s.spu.ports[j].tail ∧ (settleFor n s).spu.ports[j].mask = s.spu.ports[j].mask
      ∧ (settleFor n s).spu.ports[j].watermark = s.spu.ports[j].watermark
      ∧ (settleFor n s).spu.ports[j].frameErrors = s.spu.ports[j].frameErrors
      ∧ (settleFor n s).spu.ports[j].rx = s.spu.ports[j].rx :=
  Port.rest_items (settleFor_ports n s j hj)

/-- `settle` leaves what a port holds beside its flags and its line. -/
@[simp] theorem settle_ports (s : State) (j : Nat) (hj : j < 3) :
    (settle s).spu.ports[j].rest = s.spu.ports[j].rest := by
  simp [settle]

/-- `settle` leaves what a port holds beside its flags and its line, item by item. -/
@[simp] theorem settle_port (s : State) (j : Nat) (hj : j < 3) :
    (settle s).spu.ports[j].up = s.spu.ports[j].up ∧ (settle s).spu.ports[j].link = s.spu.ports[j].link
      ∧ (settle s).spu.ports[j].service = s.spu.ports[j].service ∧ (settle s).spu.ports[j].queue = s.spu.ports[j].queue
      ∧ (settle s).spu.ports[j].tail = s.spu.ports[j].tail ∧ (settle s).spu.ports[j].mask = s.spu.ports[j].mask
      ∧ (settle s).spu.ports[j].watermark = s.spu.ports[j].watermark
      ∧ (settle s).spu.ports[j].frameErrors = s.spu.ports[j].frameErrors ∧ (settle s).spu.ports[j].rx = s.spu.ports[j].rx :=
  Port.rest_items (settle_ports s j hj)

/-- `cancelPendingRestore` leaves what a port holds beside its flags and its line. -/
@[simp] theorem cancelPendingRestore_ports (s : State) (p : Fin 64) (j : Nat) (hj : j < 3) :
    (cancelPendingRestore s p).spu.ports[j].rest = s.spu.ports[j].rest := by
  simp only [cancelPendingRestore]
  split <;> simp

/-- `cancelPendingRestore` leaves what a port holds beside its flags and its line, item by item. -/
@[simp] theorem cancelPendingRestore_port (s : State) (p : Fin 64) (j : Nat) (hj : j < 3) :
    (cancelPendingRestore s p).spu.ports[j].up = s.spu.ports[j].up
      ∧ (cancelPendingRestore s p).spu.ports[j].link = s.spu.ports[j].link
      ∧ (cancelPendingRestore s p).spu.ports[j].service = s.spu.ports[j].service
      ∧ (cancelPendingRestore s p).spu.ports[j].queue = s.spu.ports[j].queue
      ∧ (cancelPendingRestore s p).spu.ports[j].tail = s.spu.ports[j].tail
      ∧ (cancelPendingRestore s p).spu.ports[j].mask = s.spu.ports[j].mask
      ∧ (cancelPendingRestore s p).spu.ports[j].watermark = s.spu.ports[j].watermark
      ∧ (cancelPendingRestore s p).spu.ports[j].frameErrors = s.spu.ports[j].frameErrors
      ∧ (cancelPendingRestore s p).spu.ports[j].rx = s.spu.ports[j].rx :=
  Port.rest_items (cancelPendingRestore_ports s p j hj)

/-- `shedInFlightRestore` leaves what a port holds beside its flags and its line. -/
@[simp] theorem shedInFlightRestore_ports (s : State) (p : Fin 64) (j : Nat) (hj : j < 3) :
    (shedInFlightRestore s p).spu.ports[j].rest = s.spu.ports[j].rest := by
  simp only [shedInFlightRestore]
  split <;> simp

/-- `shedInFlightRestore` leaves what a port holds beside its flags and its line, item by item. -/
@[simp] theorem shedInFlightRestore_port (s : State) (p : Fin 64) (j : Nat) (hj : j < 3) :
    (shedInFlightRestore s p).spu.ports[j].up = s.spu.ports[j].up
      ∧ (shedInFlightRestore s p).spu.ports[j].link = s.spu.ports[j].link
      ∧ (shedInFlightRestore s p).spu.ports[j].service = s.spu.ports[j].service
      ∧ (shedInFlightRestore s p).spu.ports[j].queue = s.spu.ports[j].queue
      ∧ (shedInFlightRestore s p).spu.ports[j].tail = s.spu.ports[j].tail
      ∧ (shedInFlightRestore s p).spu.ports[j].mask = s.spu.ports[j].mask
      ∧ (shedInFlightRestore s p).spu.ports[j].watermark = s.spu.ports[j].watermark
      ∧ (shedInFlightRestore s p).spu.ports[j].frameErrors = s.spu.ports[j].frameErrors
      ∧ (shedInFlightRestore s p).spu.ports[j].rx = s.spu.ports[j].rx :=
  Port.rest_items (shedInFlightRestore_ports s p j hj)

/-- `cancelAwait` leaves what a port holds beside its flags and its line. -/
@[simp] theorem cancelAwait_ports (s : State) (p : Fin 64) (j : Nat) (hj : j < 3) :
    (cancelAwait s p).spu.ports[j].rest = s.spu.ports[j].rest := by
  simp only [cancelAwait]
  split <;> simp

/-- `cancelAwait` leaves what a port holds beside its flags and its line, item by item. -/
@[simp] theorem cancelAwait_port (s : State) (p : Fin 64) (j : Nat) (hj : j < 3) :
    (cancelAwait s p).spu.ports[j].up = s.spu.ports[j].up ∧ (cancelAwait s p).spu.ports[j].link = s.spu.ports[j].link
      ∧ (cancelAwait s p).spu.ports[j].service = s.spu.ports[j].service
      ∧ (cancelAwait s p).spu.ports[j].queue = s.spu.ports[j].queue
      ∧ (cancelAwait s p).spu.ports[j].tail = s.spu.ports[j].tail
      ∧ (cancelAwait s p).spu.ports[j].mask = s.spu.ports[j].mask
      ∧ (cancelAwait s p).spu.ports[j].watermark = s.spu.ports[j].watermark
      ∧ (cancelAwait s p).spu.ports[j].frameErrors = s.spu.ports[j].frameErrors
      ∧ (cancelAwait s p).spu.ports[j].rx = s.spu.ports[j].rx :=
  Port.rest_items (cancelAwait_ports s p j hj)

/-- `abortRestart` leaves what a port holds beside its flags and its line. -/
@[simp] theorem abortRestart_ports (s : State) (j : Nat) (hj : j < 3) :
    (abortRestart s).spu.ports[j].rest = s.spu.ports[j].rest := by
  simp [abortRestart]

/-- `abortRestart` leaves what a port holds beside its flags and its line, item by item. -/
@[simp] theorem abortRestart_port (s : State) (j : Nat) (hj : j < 3) :
    (abortRestart s).spu.ports[j].up = s.spu.ports[j].up ∧ (abortRestart s).spu.ports[j].link = s.spu.ports[j].link
      ∧ (abortRestart s).spu.ports[j].service = s.spu.ports[j].service
      ∧ (abortRestart s).spu.ports[j].queue = s.spu.ports[j].queue
      ∧ (abortRestart s).spu.ports[j].tail = s.spu.ports[j].tail
      ∧ (abortRestart s).spu.ports[j].mask = s.spu.ports[j].mask
      ∧ (abortRestart s).spu.ports[j].watermark = s.spu.ports[j].watermark
      ∧ (abortRestart s).spu.ports[j].frameErrors = s.spu.ports[j].frameErrors
      ∧ (abortRestart s).spu.ports[j].rx = s.spu.ports[j].rx :=
  Port.rest_items (abortRestart_ports s j hj)

/-- `vetoStop` leaves what a port holds beside its flags and its line. -/
@[simp] theorem vetoStop_ports (s : State) (j : Nat) (hj : j < 3) :
    (vetoStop s).spu.ports[j].rest = s.spu.ports[j].rest := by
  simp [vetoStop]

/-- `vetoStop` leaves what a port holds beside its flags and its line, item by item. -/
@[simp] theorem vetoStop_port (s : State) (j : Nat) (hj : j < 3) :
    (vetoStop s).spu.ports[j].up = s.spu.ports[j].up ∧ (vetoStop s).spu.ports[j].link = s.spu.ports[j].link
      ∧ (vetoStop s).spu.ports[j].service = s.spu.ports[j].service
      ∧ (vetoStop s).spu.ports[j].queue = s.spu.ports[j].queue ∧ (vetoStop s).spu.ports[j].tail = s.spu.ports[j].tail
      ∧ (vetoStop s).spu.ports[j].mask = s.spu.ports[j].mask
      ∧ (vetoStop s).spu.ports[j].watermark = s.spu.ports[j].watermark
      ∧ (vetoStop s).spu.ports[j].frameErrors = s.spu.ports[j].frameErrors ∧ (vetoStop s).spu.ports[j].rx = s.spu.ports[j].rx :=
  Port.rest_items (vetoStop_ports s j hj)

/-- `cutGrace` leaves what a port holds beside its flags and its line. -/
@[simp] theorem cutGrace_ports (s : State) (p : Fin 64) (j : Nat) (hj : j < 3) :
    (cutGrace s p).spu.ports[j].rest = s.spu.ports[j].rest := by
  simp only [cutGrace]
  split <;> simp

/-- `cutGrace` leaves what a port holds beside its flags and its line, item by item. -/
@[simp] theorem cutGrace_port (s : State) (p : Fin 64) (j : Nat) (hj : j < 3) :
    (cutGrace s p).spu.ports[j].up = s.spu.ports[j].up ∧ (cutGrace s p).spu.ports[j].link = s.spu.ports[j].link
      ∧ (cutGrace s p).spu.ports[j].service = s.spu.ports[j].service
      ∧ (cutGrace s p).spu.ports[j].queue = s.spu.ports[j].queue ∧ (cutGrace s p).spu.ports[j].tail = s.spu.ports[j].tail
      ∧ (cutGrace s p).spu.ports[j].mask = s.spu.ports[j].mask
      ∧ (cutGrace s p).spu.ports[j].watermark = s.spu.ports[j].watermark
      ∧ (cutGrace s p).spu.ports[j].frameErrors = s.spu.ports[j].frameErrors
      ∧ (cutGrace s p).spu.ports[j].rx = s.spu.ports[j].rx :=
  Port.rest_items (cutGrace_ports s p j hj)

/-- `eventAtLevel` leaves what a port holds beside its flags and its line. -/
@[simp] theorem eventAtLevel_ports (s : State) (j : Nat) (hj : j < 3) :
    (eventAtLevel s).spu.ports[j].rest = s.spu.ports[j].rest := by
  unfold eventAtLevel
  (repeat' (first | split | dsimp only)) <;> simp

/-- `eventAtLevel` leaves what a port holds beside its flags and its line, item by item. -/
@[simp] theorem eventAtLevel_port (s : State) (j : Nat) (hj : j < 3) :
    (eventAtLevel s).spu.ports[j].up = s.spu.ports[j].up ∧ (eventAtLevel s).spu.ports[j].link = s.spu.ports[j].link
      ∧ (eventAtLevel s).spu.ports[j].service = s.spu.ports[j].service
      ∧ (eventAtLevel s).spu.ports[j].queue = s.spu.ports[j].queue
      ∧ (eventAtLevel s).spu.ports[j].tail = s.spu.ports[j].tail
      ∧ (eventAtLevel s).spu.ports[j].mask = s.spu.ports[j].mask
      ∧ (eventAtLevel s).spu.ports[j].watermark = s.spu.ports[j].watermark
      ∧ (eventAtLevel s).spu.ports[j].frameErrors = s.spu.ports[j].frameErrors
      ∧ (eventAtLevel s).spu.ports[j].rx = s.spu.ports[j].rx :=
  Port.rest_items (eventAtLevel_ports s j hj)

/-- `sequencerAtLevel` leaves what a port holds beside its flags and its line. -/
@[simp] theorem sequencerAtLevel_ports (s : State) (j : Nat) (hj : j < 3) :
    (sequencerAtLevel s).spu.ports[j].rest = s.spu.ports[j].rest := by
  unfold sequencerAtLevel
  (repeat' (first | split | dsimp only)) <;> simp

/-- `sequencerAtLevel` leaves what a port holds beside its flags and its line, item by item. -/
@[simp] theorem sequencerAtLevel_port (s : State) (j : Nat) (hj : j < 3) :
    (sequencerAtLevel s).spu.ports[j].up = s.spu.ports[j].up
      ∧ (sequencerAtLevel s).spu.ports[j].link = s.spu.ports[j].link
      ∧ (sequencerAtLevel s).spu.ports[j].service = s.spu.ports[j].service
      ∧ (sequencerAtLevel s).spu.ports[j].queue = s.spu.ports[j].queue
      ∧ (sequencerAtLevel s).spu.ports[j].tail = s.spu.ports[j].tail
      ∧ (sequencerAtLevel s).spu.ports[j].mask = s.spu.ports[j].mask
      ∧ (sequencerAtLevel s).spu.ports[j].watermark = s.spu.ports[j].watermark
      ∧ (sequencerAtLevel s).spu.ports[j].frameErrors = s.spu.ports[j].frameErrors
      ∧ (sequencerAtLevel s).spu.ports[j].rx = s.spu.ports[j].rx :=
  Port.rest_items (sequencerAtLevel_ports s j hj)

/-- `clearQuiet` leaves what a port holds beside its flags and its line. -/
@[simp] theorem clearQuiet_ports (s : State) (j : Nat) (hj : j < 3) :
    (clearQuiet s).spu.ports[j].rest = s.spu.ports[j].rest := by
  simp only [clearQuiet]
  split <;> simp

/-- `clearQuiet` leaves what a port holds beside its flags and its line, item by item. -/
@[simp] theorem clearQuiet_port (s : State) (j : Nat) (hj : j < 3) :
    (clearQuiet s).spu.ports[j].up = s.spu.ports[j].up ∧ (clearQuiet s).spu.ports[j].link = s.spu.ports[j].link
      ∧ (clearQuiet s).spu.ports[j].service = s.spu.ports[j].service
      ∧ (clearQuiet s).spu.ports[j].queue = s.spu.ports[j].queue ∧ (clearQuiet s).spu.ports[j].tail = s.spu.ports[j].tail
      ∧ (clearQuiet s).spu.ports[j].mask = s.spu.ports[j].mask
      ∧ (clearQuiet s).spu.ports[j].watermark = s.spu.ports[j].watermark
      ∧ (clearQuiet s).spu.ports[j].frameErrors = s.spu.ports[j].frameErrors
      ∧ (clearQuiet s).spu.ports[j].rx = s.spu.ports[j].rx :=
  Port.rest_items (clearQuiet_ports s j hj)

/-- `assertLine` leaves what a port holds beside its flags and its line. -/
@[simp] theorem assertLine_ports (l : Fin 4) (s : State) (j : Nat) (hj : j < 3) :
    (assertLine l s).spu.ports[j].rest = s.spu.ports[j].rest := by
  simp only [assertLine]
  split <;> simp

/-- `assertLine` leaves what a port holds beside its flags and its line, item by item. -/
@[simp] theorem assertLine_port (l : Fin 4) (s : State) (j : Nat) (hj : j < 3) :
    (assertLine l s).spu.ports[j].up = s.spu.ports[j].up ∧ (assertLine l s).spu.ports[j].link = s.spu.ports[j].link
      ∧ (assertLine l s).spu.ports[j].service = s.spu.ports[j].service
      ∧ (assertLine l s).spu.ports[j].queue = s.spu.ports[j].queue
      ∧ (assertLine l s).spu.ports[j].tail = s.spu.ports[j].tail
      ∧ (assertLine l s).spu.ports[j].mask = s.spu.ports[j].mask
      ∧ (assertLine l s).spu.ports[j].watermark = s.spu.ports[j].watermark
      ∧ (assertLine l s).spu.ports[j].frameErrors = s.spu.ports[j].frameErrors
      ∧ (assertLine l s).spu.ports[j].rx = s.spu.ports[j].rx :=
  Port.rest_items (assertLine_ports l s j hj)

/-- `assertLines` leaves what a port holds beside its flags and its line. -/
@[simp] theorem assertLines_ports (s : State) (j : Nat) (hj : j < 3) :
    (assertLines s).spu.ports[j].rest = s.spu.ports[j].rest := by
  simp [assertLines]

/-- `assertLines` leaves what a port holds beside its flags and its line, item by item. -/
@[simp] theorem assertLines_port (s : State) (j : Nat) (hj : j < 3) :
    (assertLines s).spu.ports[j].up = s.spu.ports[j].up ∧ (assertLines s).spu.ports[j].link = s.spu.ports[j].link
      ∧ (assertLines s).spu.ports[j].service = s.spu.ports[j].service
      ∧ (assertLines s).spu.ports[j].queue = s.spu.ports[j].queue
      ∧ (assertLines s).spu.ports[j].tail = s.spu.ports[j].tail ∧ (assertLines s).spu.ports[j].mask = s.spu.ports[j].mask
      ∧ (assertLines s).spu.ports[j].watermark = s.spu.ports[j].watermark
      ∧ (assertLines s).spu.ports[j].frameErrors = s.spu.ports[j].frameErrors
      ∧ (assertLines s).spu.ports[j].rx = s.spu.ports[j].rx :=
  Port.rest_items (assertLines_ports s j hj)

/-- `changeLevel` leaves what a port holds beside its flags and its line. -/
@[simp] theorem changeLevel_ports (new : Level) (s : State) (j : Nat) (hj : j < 3) :
    (changeLevel new s).spu.ports[j].rest = s.spu.ports[j].rest := by
  unfold changeLevel
  (repeat' (first | split | dsimp only)) <;> simp

/-- `changeLevel` leaves what a port holds beside its flags and its line, item by item. -/
@[simp] theorem changeLevel_port (new : Level) (s : State) (j : Nat) (hj : j < 3) :
    (changeLevel new s).spu.ports[j].up = s.spu.ports[j].up ∧ (changeLevel new s).spu.ports[j].link = s.spu.ports[j].link
      ∧ (changeLevel new s).spu.ports[j].service = s.spu.ports[j].service
      ∧ (changeLevel new s).spu.ports[j].queue = s.spu.ports[j].queue
      ∧ (changeLevel new s).spu.ports[j].tail = s.spu.ports[j].tail
      ∧ (changeLevel new s).spu.ports[j].mask = s.spu.ports[j].mask
      ∧ (changeLevel new s).spu.ports[j].watermark = s.spu.ports[j].watermark
      ∧ (changeLevel new s).spu.ports[j].frameErrors = s.spu.ports[j].frameErrors
      ∧ (changeLevel new s).spu.ports[j].rx = s.spu.ports[j].rx :=
  Port.rest_items (changeLevel_ports new s j hj)

/-- `recompute` leaves what a port holds beside its flags and its line. -/
@[simp] theorem recompute_ports (s : State) (j : Nat) (hj : j < 3) :
    (recompute s).spu.ports[j].rest = s.spu.ports[j].rest := by
  unfold recompute
  (repeat' (first | split | dsimp only)) <;> simp

/-- `recompute` leaves what a port holds beside its flags and its line, item by item. -/
@[simp] theorem recompute_port (s : State) (j : Nat) (hj : j < 3) :
    (recompute s).spu.ports[j].up = s.spu.ports[j].up ∧ (recompute s).spu.ports[j].link = s.spu.ports[j].link
      ∧ (recompute s).spu.ports[j].service = s.spu.ports[j].service
      ∧ (recompute s).spu.ports[j].queue = s.spu.ports[j].queue ∧ (recompute s).spu.ports[j].tail = s.spu.ports[j].tail
      ∧ (recompute s).spu.ports[j].mask = s.spu.ports[j].mask
      ∧ (recompute s).spu.ports[j].watermark = s.spu.ports[j].watermark
      ∧ (recompute s).spu.ports[j].frameErrors = s.spu.ports[j].frameErrors
      ∧ (recompute s).spu.ports[j].rx = s.spu.ports[j].rx :=
  Port.rest_items (recompute_ports s j hj)

/-- `healthyCountEdge` leaves what a port holds beside its flags and its line. -/
@[simp] theorem healthyCountEdge_ports (h : Nat) (s : State) (j : Nat) (hj : j < 3) :
    (healthyCountEdge h s).spu.ports[j].rest = s.spu.ports[j].rest := by
  unfold healthyCountEdge
  (repeat' (first | split | dsimp only)) <;> simp

/-- `healthyCountEdge` leaves what a port holds beside its flags and its line, item by item. -/
@[simp] theorem healthyCountEdge_port (h : Nat) (s : State) (j : Nat) (hj : j < 3) :
    (healthyCountEdge h s).spu.ports[j].up = s.spu.ports[j].up
      ∧ (healthyCountEdge h s).spu.ports[j].link = s.spu.ports[j].link
      ∧ (healthyCountEdge h s).spu.ports[j].service = s.spu.ports[j].service
      ∧ (healthyCountEdge h s).spu.ports[j].queue = s.spu.ports[j].queue
      ∧ (healthyCountEdge h s).spu.ports[j].tail = s.spu.ports[j].tail
      ∧ (healthyCountEdge h s).spu.ports[j].mask = s.spu.ports[j].mask
      ∧ (healthyCountEdge h s).spu.ports[j].watermark = s.spu.ports[j].watermark
      ∧ (healthyCountEdge h s).spu.ports[j].frameErrors = s.spu.ports[j].frameErrors
      ∧ (healthyCountEdge h s).spu.ports[j].rx = s.spu.ports[j].rx :=
  Port.rest_items (healthyCountEdge_ports h s j hj)

/-- `healthChange` leaves what a port holds beside its flags and its line. -/
@[simp] theorem healthChange_ports (i : Fin 6) (s : State) (j : Nat) (hj : j < 3) :
    (healthChange i s).spu.ports[j].rest = s.spu.ports[j].rest := by
  simp only [healthChange]
  simp

/-- `healthChange` leaves what a port holds beside its flags and its line, item by item. -/
@[simp] theorem healthChange_port (i : Fin 6) (s : State) (j : Nat) (hj : j < 3) :
    (healthChange i s).spu.ports[j].up = s.spu.ports[j].up ∧ (healthChange i s).spu.ports[j].link = s.spu.ports[j].link
      ∧ (healthChange i s).spu.ports[j].service = s.spu.ports[j].service
      ∧ (healthChange i s).spu.ports[j].queue = s.spu.ports[j].queue
      ∧ (healthChange i s).spu.ports[j].tail = s.spu.ports[j].tail
      ∧ (healthChange i s).spu.ports[j].mask = s.spu.ports[j].mask
      ∧ (healthChange i s).spu.ports[j].watermark = s.spu.ports[j].watermark
      ∧ (healthChange i s).spu.ports[j].frameErrors = s.spu.ports[j].frameErrors
      ∧ (healthChange i s).spu.ports[j].rx = s.spu.ports[j].rx :=
  Port.rest_items (healthChange_ports i s j hj)

/-- `setHealth` leaves what a port holds beside its flags and its line. -/
@[simp] theorem setHealth_ports (i : Fin 6) (new : Health) (s : State) (j : Nat) (hj : j < 3) :
    (setHealth i new s).spu.ports[j].rest = s.spu.ports[j].rest := by
  simp [setHealth]

/-- `setHealth` leaves what a port holds beside its flags and its line, item by item. -/
@[simp] theorem setHealth_port (i : Fin 6) (new : Health) (s : State) (j : Nat) (hj : j < 3) :
    (setHealth i new s).spu.ports[j].up = s.spu.ports[j].up ∧ (setHealth i new s).spu.ports[j].link = s.spu.ports[j].link
      ∧ (setHealth i new s).spu.ports[j].service = s.spu.ports[j].service
      ∧ (setHealth i new s).spu.ports[j].queue = s.spu.ports[j].queue
      ∧ (setHealth i new s).spu.ports[j].tail = s.spu.ports[j].tail
      ∧ (setHealth i new s).spu.ports[j].mask = s.spu.ports[j].mask
      ∧ (setHealth i new s).spu.ports[j].watermark = s.spu.ports[j].watermark
      ∧ (setHealth i new s).spu.ports[j].frameErrors = s.spu.ports[j].frameErrors
      ∧ (setHealth i new s).spu.ports[j].rx = s.spu.ports[j].rx :=
  Port.rest_items (setHealth_ports i new s j hj)

/-- `revote` leaves what a port holds beside its flags and its line. -/
@[simp] theorem revote_ports (i : Fin 6) (old : Level) (s : State) (j : Nat) (hj : j < 3) :
    (revote i old s).spu.ports[j].rest = s.spu.ports[j].rest := by
  simp only [revote]
  split <;> simp

/-- `revote` leaves what a port holds beside its flags and its line, item by item. -/
@[simp] theorem revote_port (i : Fin 6) (old : Level) (s : State) (j : Nat) (hj : j < 3) :
    (revote i old s).spu.ports[j].up = s.spu.ports[j].up ∧ (revote i old s).spu.ports[j].link = s.spu.ports[j].link
      ∧ (revote i old s).spu.ports[j].service = s.spu.ports[j].service
      ∧ (revote i old s).spu.ports[j].queue = s.spu.ports[j].queue
      ∧ (revote i old s).spu.ports[j].tail = s.spu.ports[j].tail
      ∧ (revote i old s).spu.ports[j].mask = s.spu.ports[j].mask
      ∧ (revote i old s).spu.ports[j].watermark = s.spu.ports[j].watermark
      ∧ (revote i old s).spu.ports[j].frameErrors = s.spu.ports[j].frameErrors
      ∧ (revote i old s).spu.ports[j].rx = s.spu.ports[j].rx :=
  Port.rest_items (revote_ports i old s j hj)

/-- `clearWindow` leaves what a port holds beside its flags and its line. -/
@[simp] theorem clearWindow_ports (i : Fin 6) (s : State) (j : Nat) (hj : j < 3) :
    (clearWindow i s).spu.ports[j].rest = s.spu.ports[j].rest := by
  simp [clearWindow]

/-- `clearWindow` leaves what a port holds beside its flags and its line, item by item. -/
@[simp] theorem clearWindow_port (i : Fin 6) (s : State) (j : Nat) (hj : j < 3) :
    (clearWindow i s).spu.ports[j].up = s.spu.ports[j].up ∧ (clearWindow i s).spu.ports[j].link = s.spu.ports[j].link
      ∧ (clearWindow i s).spu.ports[j].service = s.spu.ports[j].service
      ∧ (clearWindow i s).spu.ports[j].queue = s.spu.ports[j].queue
      ∧ (clearWindow i s).spu.ports[j].tail = s.spu.ports[j].tail
      ∧ (clearWindow i s).spu.ports[j].mask = s.spu.ports[j].mask
      ∧ (clearWindow i s).spu.ports[j].watermark = s.spu.ports[j].watermark
      ∧ (clearWindow i s).spu.ports[j].frameErrors = s.spu.ports[j].frameErrors
      ∧ (clearWindow i s).spu.ports[j].rx = s.spu.ports[j].rx :=
  Port.rest_items (clearWindow_ports i s j hj)

/-- `settleArrival` leaves what a port holds beside its flags and its line. -/
@[simp] theorem settleArrival_ports (i : Fin 6) (s : State) (j : Nat) (hj : j < 3) :
    (settleArrival i s).spu.ports[j].rest = s.spu.ports[j].rest := by
  unfold settleArrival
  (repeat' (first | split | dsimp only)) <;> simp

/-- `settleArrival` leaves what a port holds beside its flags and its line, item by item. -/
@[simp] theorem settleArrival_port (i : Fin 6) (s : State) (j : Nat) (hj : j < 3) :
    (settleArrival i s).spu.ports[j].up = s.spu.ports[j].up ∧ (settleArrival i s).spu.ports[j].link = s.spu.ports[j].link
      ∧ (settleArrival i s).spu.ports[j].service = s.spu.ports[j].service
      ∧ (settleArrival i s).spu.ports[j].queue = s.spu.ports[j].queue
      ∧ (settleArrival i s).spu.ports[j].tail = s.spu.ports[j].tail
      ∧ (settleArrival i s).spu.ports[j].mask = s.spu.ports[j].mask
      ∧ (settleArrival i s).spu.ports[j].watermark = s.spu.ports[j].watermark
      ∧ (settleArrival i s).spu.ports[j].frameErrors = s.spu.ports[j].frameErrors
      ∧ (settleArrival i s).spu.ports[j].rx = s.spu.ports[j].rx :=
  Port.rest_items (settleArrival_ports i s j hj)

/-- `enterArrival` leaves what a port holds beside its flags and its line. -/
@[simp] theorem enterArrival_ports (i : Fin 6) (v : Nat) (s : State) (j : Nat) (hj : j < 3) :
    (enterArrival i v s).spu.ports[j].rest = s.spu.ports[j].rest := by
  simp only [enterArrival]
  simp

/-- `enterArrival` leaves what a port holds beside its flags and its line, item by item. -/
@[simp] theorem enterArrival_port (i : Fin 6) (v : Nat) (s : State) (j : Nat) (hj : j < 3) :
    (enterArrival i v s).spu.ports[j].up = s.spu.ports[j].up
      ∧ (enterArrival i v s).spu.ports[j].link = s.spu.ports[j].link
      ∧ (enterArrival i v s).spu.ports[j].service = s.spu.ports[j].service
      ∧ (enterArrival i v s).spu.ports[j].queue = s.spu.ports[j].queue
      ∧ (enterArrival i v s).spu.ports[j].tail = s.spu.ports[j].tail
      ∧ (enterArrival i v s).spu.ports[j].mask = s.spu.ports[j].mask
      ∧ (enterArrival i v s).spu.ports[j].watermark = s.spu.ports[j].watermark
      ∧ (enterArrival i v s).spu.ports[j].frameErrors = s.spu.ports[j].frameErrors
      ∧ (enterArrival i v s).spu.ports[j].rx = s.spu.ports[j].rx :=
  Port.rest_items (enterArrival_ports i v s j hj)

/-- `arrival` leaves what a port holds beside its flags and its line. -/
@[simp] theorem arrival_ports (i : Fin 6) (v : Nat) (s : State) (j : Nat) (hj : j < 3) :
    (arrival i v s).spu.ports[j].rest = s.spu.ports[j].rest := by
  simp [arrival]

/-- `arrival` leaves what a port holds beside its flags and its line, item by item. -/
@[simp] theorem arrival_port (i : Fin 6) (v : Nat) (s : State) (j : Nat) (hj : j < 3) :
    (arrival i v s).spu.ports[j].up = s.spu.ports[j].up ∧ (arrival i v s).spu.ports[j].link = s.spu.ports[j].link
      ∧ (arrival i v s).spu.ports[j].service = s.spu.ports[j].service
      ∧ (arrival i v s).spu.ports[j].queue = s.spu.ports[j].queue
      ∧ (arrival i v s).spu.ports[j].tail = s.spu.ports[j].tail ∧ (arrival i v s).spu.ports[j].mask = s.spu.ports[j].mask
      ∧ (arrival i v s).spu.ports[j].watermark = s.spu.ports[j].watermark
      ∧ (arrival i v s).spu.ports[j].frameErrors = s.spu.ports[j].frameErrors
      ∧ (arrival i v s).spu.ports[j].rx = s.spu.ports[j].rx :=
  Port.rest_items (arrival_ports i v s j hj)

/-- `takeSample` leaves what a port holds beside its flags and its line. -/
@[simp] theorem takeSample_ports (i : Fin 6) (a : Sample) (s : State) (j : Nat) (hj : j < 3) :
    (takeSample i a s).spu.ports[j].rest = s.spu.ports[j].rest := by
  simp only [takeSample]
  split <;> simp

/-- `takeSample` leaves what a port holds beside its flags and its line, item by item. -/
@[simp] theorem takeSample_port (i : Fin 6) (a : Sample) (s : State) (j : Nat) (hj : j < 3) :
    (takeSample i a s).spu.ports[j].up = s.spu.ports[j].up ∧ (takeSample i a s).spu.ports[j].link = s.spu.ports[j].link
      ∧ (takeSample i a s).spu.ports[j].service = s.spu.ports[j].service
      ∧ (takeSample i a s).spu.ports[j].queue = s.spu.ports[j].queue
      ∧ (takeSample i a s).spu.ports[j].tail = s.spu.ports[j].tail
      ∧ (takeSample i a s).spu.ports[j].mask = s.spu.ports[j].mask
      ∧ (takeSample i a s).spu.ports[j].watermark = s.spu.ports[j].watermark
      ∧ (takeSample i a s).spu.ports[j].frameErrors = s.spu.ports[j].frameErrors
      ∧ (takeSample i a s).spu.ports[j].rx = s.spu.ports[j].rx :=
  Port.rest_items (takeSample_ports i a s j hj)

/-- `takeFillers` leaves what a port holds beside its flags and its line. -/
@[simp] theorem takeFillers_ports (i : Fin 6) (n : Nat) (s : State) (j : Nat) (hj : j < 3) :
    (takeFillers i n s).spu.ports[j].rest = s.spu.ports[j].rest := by
  induction n generalizing s with
  | zero => simp [takeFillers]
  | succ n ih => simp [takeFillers, ih]

/-- `takeFillers` leaves what a port holds beside its flags and its line, item by item. -/
@[simp] theorem takeFillers_port (i : Fin 6) (n : Nat) (s : State) (j : Nat) (hj : j < 3) :
    (takeFillers i n s).spu.ports[j].up = s.spu.ports[j].up ∧ (takeFillers i n s).spu.ports[j].link = s.spu.ports[j].link
      ∧ (takeFillers i n s).spu.ports[j].service = s.spu.ports[j].service
      ∧ (takeFillers i n s).spu.ports[j].queue = s.spu.ports[j].queue
      ∧ (takeFillers i n s).spu.ports[j].tail = s.spu.ports[j].tail
      ∧ (takeFillers i n s).spu.ports[j].mask = s.spu.ports[j].mask
      ∧ (takeFillers i n s).spu.ports[j].watermark = s.spu.ports[j].watermark
      ∧ (takeFillers i n s).spu.ports[j].frameErrors = s.spu.ports[j].frameErrors
      ∧ (takeFillers i n s).spu.ports[j].rx = s.spu.ports[j].rx :=
  Port.rest_items (takeFillers_ports i n s j hj)

/-- `countCheckError` leaves what a port holds beside its flags and its line. -/
@[simp] theorem countCheckError_ports (i : Fin 6) (s : State) (j : Nat) (hj : j < 3) :
    (countCheckError i s).spu.ports[j].rest = s.spu.ports[j].rest := by
  simp [countCheckError]

/-- `countCheckError` leaves what a port holds beside its flags and its line, item by item. -/
@[simp] theorem countCheckError_port (i : Fin 6) (s : State) (j : Nat) (hj : j < 3) :
    (countCheckError i s).spu.ports[j].up = s.spu.ports[j].up
      ∧ (countCheckError i s).spu.ports[j].link = s.spu.ports[j].link
      ∧ (countCheckError i s).spu.ports[j].service = s.spu.ports[j].service
      ∧ (countCheckError i s).spu.ports[j].queue = s.spu.ports[j].queue
      ∧ (countCheckError i s).spu.ports[j].tail = s.spu.ports[j].tail
      ∧ (countCheckError i s).spu.ports[j].mask = s.spu.ports[j].mask
      ∧ (countCheckError i s).spu.ports[j].watermark = s.spu.ports[j].watermark
      ∧ (countCheckError i s).spu.ports[j].frameErrors = s.spu.ports[j].frameErrors
      ∧ (countCheckError i s).spu.ports[j].rx = s.spu.ports[j].rx :=
  Port.rest_items (countCheckError_ports i s j hj)

/-- `newWindow` leaves what a port holds beside its flags and its line. -/
@[simp] theorem newWindow_ports (i : Fin 6) (seq : Byte) (a : Sample) (s : State) (j : Nat) (hj : j < 3) :
    (newWindow i seq a s).spu.ports[j].rest = s.spu.ports[j].rest := by
  simp [newWindow]

/-- `newWindow` leaves what a port holds beside its flags and its line, item by item. -/
@[simp] theorem newWindow_port (i : Fin 6) (seq : Byte) (a : Sample) (s : State) (j : Nat) (hj : j < 3) :
    (newWindow i seq a s).spu.ports[j].up = s.spu.ports[j].up
      ∧ (newWindow i seq a s).spu.ports[j].link = s.spu.ports[j].link
      ∧ (newWindow i seq a s).spu.ports[j].service = s.spu.ports[j].service
      ∧ (newWindow i seq a s).spu.ports[j].queue = s.spu.ports[j].queue
      ∧ (newWindow i seq a s).spu.ports[j].tail = s.spu.ports[j].tail
      ∧ (newWindow i seq a s).spu.ports[j].mask = s.spu.ports[j].mask
      ∧ (newWindow i seq a s).spu.ports[j].watermark = s.spu.ports[j].watermark
      ∧ (newWindow i seq a s).spu.ports[j].frameErrors = s.spu.ports[j].frameErrors
      ∧ (newWindow i seq a s).spu.ports[j].rx = s.spu.ports[j].rx :=
  Port.rest_items (newWindow_ports i seq a s j hj)

/-- `startSettling` leaves what a port holds beside its flags and its line. -/
@[simp] theorem startSettling_ports (i : Fin 6) (seq : Byte) (a : Sample) (s : State) (j : Nat) (hj : j < 3) :
    (startSettling i seq a s).spu.ports[j].rest = s.spu.ports[j].rest := by
  simp [startSettling]

/-- `startSettling` leaves what a port holds beside its flags and its line, item by item. -/
@[simp] theorem startSettling_port (i : Fin 6) (seq : Byte) (a : Sample) (s : State) (j : Nat) (hj : j < 3) :
    (startSettling i seq a s).spu.ports[j].up = s.spu.ports[j].up
      ∧ (startSettling i seq a s).spu.ports[j].link = s.spu.ports[j].link
      ∧ (startSettling i seq a s).spu.ports[j].service = s.spu.ports[j].service
      ∧ (startSettling i seq a s).spu.ports[j].queue = s.spu.ports[j].queue
      ∧ (startSettling i seq a s).spu.ports[j].tail = s.spu.ports[j].tail
      ∧ (startSettling i seq a s).spu.ports[j].mask = s.spu.ports[j].mask
      ∧ (startSettling i seq a s).spu.ports[j].watermark = s.spu.ports[j].watermark
      ∧ (startSettling i seq a s).spu.ports[j].frameErrors = s.spu.ports[j].frameErrors
      ∧ (startSettling i seq a s).spu.ports[j].rx = s.spu.ports[j].rx :=
  Port.rest_items (startSettling_ports i seq a s j hj)

/-- `resettle` leaves what a port holds beside its flags and its line. -/
@[simp] theorem resettle_ports (i : Fin 6) (seq : Byte) (a : Sample) (s : State) (j : Nat) (hj : j < 3) :
    (resettle i seq a s).spu.ports[j].rest = s.spu.ports[j].rest := by
  simp only [resettle]
  split <;> simp

/-- `resettle` leaves what a port holds beside its flags and its line, item by item. -/
@[simp] theorem resettle_port (i : Fin 6) (seq : Byte) (a : Sample) (s : State) (j : Nat) (hj : j < 3) :
    (resettle i seq a s).spu.ports[j].up = s.spu.ports[j].up
      ∧ (resettle i seq a s).spu.ports[j].link = s.spu.ports[j].link
      ∧ (resettle i seq a s).spu.ports[j].service = s.spu.ports[j].service
      ∧ (resettle i seq a s).spu.ports[j].queue = s.spu.ports[j].queue
      ∧ (resettle i seq a s).spu.ports[j].tail = s.spu.ports[j].tail
      ∧ (resettle i seq a s).spu.ports[j].mask = s.spu.ports[j].mask
      ∧ (resettle i seq a s).spu.ports[j].watermark = s.spu.ports[j].watermark
      ∧ (resettle i seq a s).spu.ports[j].frameErrors = s.spu.ports[j].frameErrors
      ∧ (resettle i seq a s).spu.ports[j].rx = s.spu.ports[j].rx :=
  Port.rest_items (resettle_ports i seq a s j hj)

/-- `continueWindow` leaves what a port holds beside its flags and its line. -/
@[simp] theorem continueWindow_ports (i : Fin 6) (seq : Byte) (a : Sample) (s : State) (j : Nat) (hj : j < 3) :
    (continueWindow i seq a s).spu.ports[j].rest = s.spu.ports[j].rest := by
  unfold continueWindow
  (repeat' (first | split | dsimp only)) <;> simp

/-- `continueWindow` leaves what a port holds beside its flags and its line, item by item. -/
@[simp] theorem continueWindow_port (i : Fin 6) (seq : Byte) (a : Sample) (s : State) (j : Nat) (hj : j < 3) :
    (continueWindow i seq a s).spu.ports[j].up = s.spu.ports[j].up
      ∧ (continueWindow i seq a s).spu.ports[j].link = s.spu.ports[j].link
      ∧ (continueWindow i seq a s).spu.ports[j].service = s.spu.ports[j].service
      ∧ (continueWindow i seq a s).spu.ports[j].queue = s.spu.ports[j].queue
      ∧ (continueWindow i seq a s).spu.ports[j].tail = s.spu.ports[j].tail
      ∧ (continueWindow i seq a s).spu.ports[j].mask = s.spu.ports[j].mask
      ∧ (continueWindow i seq a s).spu.ports[j].watermark = s.spu.ports[j].watermark
      ∧ (continueWindow i seq a s).spu.ports[j].frameErrors = s.spu.ports[j].frameErrors
      ∧ (continueWindow i seq a s).spu.ports[j].rx = s.spu.ports[j].rx :=
  Port.rest_items (continueWindow_ports i seq a s j hj)

/-- `validFrame` leaves what a port holds beside its flags and its line. -/
@[simp] theorem validFrame_ports (i : Fin 6) (seq : Byte) (a : Sample) (s : State) (j : Nat) (hj : j < 3) :
    (validFrame i seq a s).spu.ports[j].rest = s.spu.ports[j].rest := by
  unfold validFrame
  (repeat' (first | split | dsimp only)) <;> simp

/-- `validFrame` leaves what a port holds beside its flags and its line, item by item. -/
@[simp] theorem validFrame_port (i : Fin 6) (seq : Byte) (a : Sample) (s : State) (j : Nat) (hj : j < 3) :
    (validFrame i seq a s).spu.ports[j].up = s.spu.ports[j].up
      ∧ (validFrame i seq a s).spu.ports[j].link = s.spu.ports[j].link
      ∧ (validFrame i seq a s).spu.ports[j].service = s.spu.ports[j].service
      ∧ (validFrame i seq a s).spu.ports[j].queue = s.spu.ports[j].queue
      ∧ (validFrame i seq a s).spu.ports[j].tail = s.spu.ports[j].tail
      ∧ (validFrame i seq a s).spu.ports[j].mask = s.spu.ports[j].mask
      ∧ (validFrame i seq a s).spu.ports[j].watermark = s.spu.ports[j].watermark
      ∧ (validFrame i seq a s).spu.ports[j].frameErrors = s.spu.ports[j].frameErrors
      ∧ (validFrame i seq a s).spu.ports[j].rx = s.spu.ports[j].rx :=
  Port.rest_items (validFrame_ports i seq a s j hj)

/-- `checkFrame` leaves what a port holds beside its flags and its line. -/
@[simp] theorem checkFrame_ports (i : Fin 6) (bytes : List Byte) (bad : Bool) (s : State) (j : Nat) (hj : j < 3) :
    (checkFrame i bytes bad s).spu.ports[j].rest = s.spu.ports[j].rest := by
  unfold checkFrame
  (repeat' (first | split | dsimp only)) <;> simp

/-- `checkFrame` leaves what a port holds beside its flags and its line, item by item. -/
@[simp] theorem checkFrame_port (i : Fin 6) (bytes : List Byte) (bad : Bool) (s : State) (j : Nat) (hj : j < 3) :
    (checkFrame i bytes bad s).spu.ports[j].up = s.spu.ports[j].up
      ∧ (checkFrame i bytes bad s).spu.ports[j].link = s.spu.ports[j].link
      ∧ (checkFrame i bytes bad s).spu.ports[j].service = s.spu.ports[j].service
      ∧ (checkFrame i bytes bad s).spu.ports[j].queue = s.spu.ports[j].queue
      ∧ (checkFrame i bytes bad s).spu.ports[j].tail = s.spu.ports[j].tail
      ∧ (checkFrame i bytes bad s).spu.ports[j].mask = s.spu.ports[j].mask
      ∧ (checkFrame i bytes bad s).spu.ports[j].watermark = s.spu.ports[j].watermark
      ∧ (checkFrame i bytes bad s).spu.ports[j].frameErrors = s.spu.ports[j].frameErrors
      ∧ (checkFrame i bytes bad s).spu.ports[j].rx = s.spu.ports[j].rx :=
  Port.rest_items (checkFrame_ports i bytes bad s j hj)

/-- `sensorByte` leaves what a port holds beside its flags and its line. -/
@[simp] theorem sensorByte_ports (i : Fin 6) (s : State) (b : LineByte) (j : Nat) (hj : j < 3) :
    (sensorByte i s b).spu.ports[j].rest = s.spu.ports[j].rest := by
  unfold sensorByte
  (repeat' (first | split | dsimp only)) <;> simp

/-- `sensorByte` leaves what a port holds beside its flags and its line, item by item. -/
@[simp] theorem sensorByte_port (i : Fin 6) (s : State) (b : LineByte) (j : Nat) (hj : j < 3) :
    (sensorByte i s b).spu.ports[j].up = s.spu.ports[j].up ∧ (sensorByte i s b).spu.ports[j].link = s.spu.ports[j].link
      ∧ (sensorByte i s b).spu.ports[j].service = s.spu.ports[j].service
      ∧ (sensorByte i s b).spu.ports[j].queue = s.spu.ports[j].queue
      ∧ (sensorByte i s b).spu.ports[j].tail = s.spu.ports[j].tail
      ∧ (sensorByte i s b).spu.ports[j].mask = s.spu.ports[j].mask
      ∧ (sensorByte i s b).spu.ports[j].watermark = s.spu.ports[j].watermark
      ∧ (sensorByte i s b).spu.ports[j].frameErrors = s.spu.ports[j].frameErrors
      ∧ (sensorByte i s b).spu.ports[j].rx = s.spu.ports[j].rx :=
  Port.rest_items (sensorByte_ports i s b j hj)

/-- `abandonFrame` leaves what a port holds beside its flags and its line. -/
@[simp] theorem abandonFrame_ports (i : Fin 6) (s : State) (j : Nat) (hj : j < 3) :
    (abandonFrame i s).spu.ports[j].rest = s.spu.ports[j].rest := by
  unfold abandonFrame
  (repeat' (first | split | dsimp only)) <;> simp

/-- `abandonFrame` leaves what a port holds beside its flags and its line, item by item. -/
@[simp] theorem abandonFrame_port (i : Fin 6) (s : State) (j : Nat) (hj : j < 3) :
    (abandonFrame i s).spu.ports[j].up = s.spu.ports[j].up ∧ (abandonFrame i s).spu.ports[j].link = s.spu.ports[j].link
      ∧ (abandonFrame i s).spu.ports[j].service = s.spu.ports[j].service
      ∧ (abandonFrame i s).spu.ports[j].queue = s.spu.ports[j].queue
      ∧ (abandonFrame i s).spu.ports[j].tail = s.spu.ports[j].tail
      ∧ (abandonFrame i s).spu.ports[j].mask = s.spu.ports[j].mask
      ∧ (abandonFrame i s).spu.ports[j].watermark = s.spu.ports[j].watermark
      ∧ (abandonFrame i s).spu.ports[j].frameErrors = s.spu.ports[j].frameErrors
      ∧ (abandonFrame i s).spu.ports[j].rx = s.spu.ports[j].rx :=
  Port.rest_items (abandonFrame_ports i s j hj)

/-- `gapExpiry` leaves what a port holds beside its flags and its line. -/
@[simp] theorem gapExpiry_ports (i : Fin 6) (s : State) (j : Nat) (hj : j < 3) :
    (gapExpiry i s).spu.ports[j].rest = s.spu.ports[j].rest := by
  unfold gapExpiry
  (repeat' (first | split | dsimp only)) <;> simp

/-- `gapExpiry` leaves what a port holds beside its flags and its line, item by item. -/
@[simp] theorem gapExpiry_port (i : Fin 6) (s : State) (j : Nat) (hj : j < 3) :
    (gapExpiry i s).spu.ports[j].up = s.spu.ports[j].up ∧ (gapExpiry i s).spu.ports[j].link = s.spu.ports[j].link
      ∧ (gapExpiry i s).spu.ports[j].service = s.spu.ports[j].service
      ∧ (gapExpiry i s).spu.ports[j].queue = s.spu.ports[j].queue
      ∧ (gapExpiry i s).spu.ports[j].tail = s.spu.ports[j].tail ∧ (gapExpiry i s).spu.ports[j].mask = s.spu.ports[j].mask
      ∧ (gapExpiry i s).spu.ports[j].watermark = s.spu.ports[j].watermark
      ∧ (gapExpiry i s).spu.ports[j].frameErrors = s.spu.ports[j].frameErrors
      ∧ (gapExpiry i s).spu.ports[j].rx = s.spu.ports[j].rx :=
  Port.rest_items (gapExpiry_ports i s j hj)

/-- `warnDone` leaves what a port holds beside its flags and its line. -/
@[simp] theorem warnDone_ports (p : Fin 64) (s : State) (j : Nat) (hj : j < 3) :
    (warnDone p s).spu.ports[j].rest = s.spu.ports[j].rest := by
  simp only [warnDone]
  split <;> simp

/-- `warnDone` leaves what a port holds beside its flags and its line, item by item. -/
@[simp] theorem warnDone_port (p : Fin 64) (s : State) (j : Nat) (hj : j < 3) :
    (warnDone p s).spu.ports[j].up = s.spu.ports[j].up ∧ (warnDone p s).spu.ports[j].link = s.spu.ports[j].link
      ∧ (warnDone p s).spu.ports[j].service = s.spu.ports[j].service
      ∧ (warnDone p s).spu.ports[j].queue = s.spu.ports[j].queue ∧ (warnDone p s).spu.ports[j].tail = s.spu.ports[j].tail
      ∧ (warnDone p s).spu.ports[j].mask = s.spu.ports[j].mask
      ∧ (warnDone p s).spu.ports[j].watermark = s.spu.ports[j].watermark
      ∧ (warnDone p s).spu.ports[j].frameErrors = s.spu.ports[j].frameErrors
      ∧ (warnDone p s).spu.ports[j].rx = s.spu.ports[j].rx :=
  Port.rest_items (warnDone_ports p s j hj)

/-- `restoreDone` leaves what a port holds beside its flags and its line. -/
@[simp] theorem restoreDone_ports (p : Fin 64) (s : State) (j : Nat) (hj : j < 3) :
    (restoreDone p s).spu.ports[j].rest = s.spu.ports[j].rest := by
  simp only [restoreDone]
  split <;> simp

/-- `restoreDone` leaves what a port holds beside its flags and its line, item by item. -/
@[simp] theorem restoreDone_port (p : Fin 64) (s : State) (j : Nat) (hj : j < 3) :
    (restoreDone p s).spu.ports[j].up = s.spu.ports[j].up ∧ (restoreDone p s).spu.ports[j].link = s.spu.ports[j].link
      ∧ (restoreDone p s).spu.ports[j].service = s.spu.ports[j].service
      ∧ (restoreDone p s).spu.ports[j].queue = s.spu.ports[j].queue
      ∧ (restoreDone p s).spu.ports[j].tail = s.spu.ports[j].tail
      ∧ (restoreDone p s).spu.ports[j].mask = s.spu.ports[j].mask
      ∧ (restoreDone p s).spu.ports[j].watermark = s.spu.ports[j].watermark
      ∧ (restoreDone p s).spu.ports[j].frameErrors = s.spu.ports[j].frameErrors
      ∧ (restoreDone p s).spu.ports[j].rx = s.spu.ports[j].rx :=
  Port.rest_items (restoreDone_ports p s j hj)

/-- `resultDone` leaves what a port holds beside its flags and its line. -/
@[simp] theorem resultDone_ports (k : MotionKind) (p : Fin 64) (s : State) (j : Nat) (hj : j < 3) :
    (resultDone k p s).spu.ports[j].rest = s.spu.ports[j].rest := by
  simp only [resultDone]
  split <;> simp

/-- `resultDone` leaves what a port holds beside its flags and its line, item by item. -/
@[simp] theorem resultDone_port (k : MotionKind) (p : Fin 64) (s : State) (j : Nat) (hj : j < 3) :
    (resultDone k p s).spu.ports[j].up = s.spu.ports[j].up ∧ (resultDone k p s).spu.ports[j].link = s.spu.ports[j].link
      ∧ (resultDone k p s).spu.ports[j].service = s.spu.ports[j].service
      ∧ (resultDone k p s).spu.ports[j].queue = s.spu.ports[j].queue
      ∧ (resultDone k p s).spu.ports[j].tail = s.spu.ports[j].tail
      ∧ (resultDone k p s).spu.ports[j].mask = s.spu.ports[j].mask
      ∧ (resultDone k p s).spu.ports[j].watermark = s.spu.ports[j].watermark
      ∧ (resultDone k p s).spu.ports[j].frameErrors = s.spu.ports[j].frameErrors
      ∧ (resultDone k p s).spu.ports[j].rx = s.spu.ports[j].rx :=
  Port.rest_items (resultDone_ports k p s j hj)

/-- `resultNoReply` leaves what a port holds beside its flags and its line. -/
@[simp] theorem resultNoReply_ports (k : MotionKind) (p : Fin 64) (s : State) (j : Nat) (hj : j < 3) :
    (resultNoReply k p s).spu.ports[j].rest = s.spu.ports[j].rest := by
  simp only [resultNoReply]
  split <;> simp

/-- `resultNoReply` leaves what a port holds beside its flags and its line, item by item. -/
@[simp] theorem resultNoReply_port (k : MotionKind) (p : Fin 64) (s : State) (j : Nat) (hj : j < 3) :
    (resultNoReply k p s).spu.ports[j].up = s.spu.ports[j].up
      ∧ (resultNoReply k p s).spu.ports[j].link = s.spu.ports[j].link
      ∧ (resultNoReply k p s).spu.ports[j].service = s.spu.ports[j].service
      ∧ (resultNoReply k p s).spu.ports[j].queue = s.spu.ports[j].queue
      ∧ (resultNoReply k p s).spu.ports[j].tail = s.spu.ports[j].tail
      ∧ (resultNoReply k p s).spu.ports[j].mask = s.spu.ports[j].mask
      ∧ (resultNoReply k p s).spu.ports[j].watermark = s.spu.ports[j].watermark
      ∧ (resultNoReply k p s).spu.ports[j].frameErrors = s.spu.ports[j].frameErrors
      ∧ (resultNoReply k p s).spu.ports[j].rx = s.spu.ports[j].rx :=
  Port.rest_items (resultNoReply_ports k p s j hj)

/-- `resultAt` leaves what a port holds beside its flags and its line. -/
@[simp] theorem resultAt_ports (k : MotionKind) (p : Fin 64) (r : Result) (s : State) (j : Nat) (hj : j < 3) :
    (resultAt k p r s).spu.ports[j].rest = s.spu.ports[j].rest := by
  simp only [resultAt]
  split <;> simp

/-- `resultAt` leaves what a port holds beside its flags and its line, item by item. -/
@[simp] theorem resultAt_port (k : MotionKind) (p : Fin 64) (r : Result) (s : State) (j : Nat) (hj : j < 3) :
    (resultAt k p r s).spu.ports[j].up = s.spu.ports[j].up ∧ (resultAt k p r s).spu.ports[j].link = s.spu.ports[j].link
      ∧ (resultAt k p r s).spu.ports[j].service = s.spu.ports[j].service
      ∧ (resultAt k p r s).spu.ports[j].queue = s.spu.ports[j].queue
      ∧ (resultAt k p r s).spu.ports[j].tail = s.spu.ports[j].tail
      ∧ (resultAt k p r s).spu.ports[j].mask = s.spu.ports[j].mask
      ∧ (resultAt k p r s).spu.ports[j].watermark = s.spu.ports[j].watermark
      ∧ (resultAt k p r s).spu.ports[j].frameErrors = s.spu.ports[j].frameErrors
      ∧ (resultAt k p r s).spu.ports[j].rx = s.spu.ports[j].rx :=
  Port.rest_items (resultAt_ports k p r s j hj)

/-- `applyResult` leaves what a port holds beside its flags and its line. -/
@[simp] theorem applyResult_ports (f : InFlight) (r : Result) (s : State) (j : Nat) (hj : j < 3) :
    (applyResult f r s).spu.ports[j].rest = s.spu.ports[j].rest := by
  unfold applyResult
  (repeat' (first | split | dsimp only)) <;> simp

/-- `applyResult` leaves what a port holds beside its flags and its line, item by item. -/
@[simp] theorem applyResult_port (f : InFlight) (r : Result) (s : State) (j : Nat) (hj : j < 3) :
    (applyResult f r s).spu.ports[j].up = s.spu.ports[j].up ∧ (applyResult f r s).spu.ports[j].link = s.spu.ports[j].link
      ∧ (applyResult f r s).spu.ports[j].service = s.spu.ports[j].service
      ∧ (applyResult f r s).spu.ports[j].queue = s.spu.ports[j].queue
      ∧ (applyResult f r s).spu.ports[j].tail = s.spu.ports[j].tail
      ∧ (applyResult f r s).spu.ports[j].mask = s.spu.ports[j].mask
      ∧ (applyResult f r s).spu.ports[j].watermark = s.spu.ports[j].watermark
      ∧ (applyResult f r s).spu.ports[j].frameErrors = s.spu.ports[j].frameErrors
      ∧ (applyResult f r s).spu.ports[j].rx = s.spu.ports[j].rx :=
  Port.rest_items (applyResult_ports f r s j hj)

/-- `externalChange` leaves what a port holds beside its flags and its line. -/
@[simp] theorem externalChange_ports (p : Fin 64) (new : PointState) (s : State) (j : Nat) (hj : j < 3) :
    (externalChange p new s).spu.ports[j].rest = s.spu.ports[j].rest := by
  simp [externalChange]

/-- `externalChange` leaves what a port holds beside its flags and its line, item by item. -/
@[simp] theorem externalChange_port (p : Fin 64) (new : PointState) (s : State) (j : Nat) (hj : j < 3) :
    (externalChange p new s).spu.ports[j].up = s.spu.ports[j].up
      ∧ (externalChange p new s).spu.ports[j].link = s.spu.ports[j].link
      ∧ (externalChange p new s).spu.ports[j].service = s.spu.ports[j].service
      ∧ (externalChange p new s).spu.ports[j].queue = s.spu.ports[j].queue
      ∧ (externalChange p new s).spu.ports[j].tail = s.spu.ports[j].tail
      ∧ (externalChange p new s).spu.ports[j].mask = s.spu.ports[j].mask
      ∧ (externalChange p new s).spu.ports[j].watermark = s.spu.ports[j].watermark
      ∧ (externalChange p new s).spu.ports[j].frameErrors = s.spu.ports[j].frameErrors
      ∧ (externalChange p new s).spu.ports[j].rx = s.spu.ports[j].rx :=
  Port.rest_items (externalChange_ports p new s j hj)

/-- `compareContact` leaves what a port holds beside its flags and its line. -/
@[simp] theorem compareContact_ports (p : Fin 64) (closed : Bool) (s : State) (j : Nat) (hj : j < 3) :
    (compareContact p closed s).spu.ports[j].rest = s.spu.ports[j].rest := by
  unfold compareContact
  (repeat' (first | split | dsimp only)) <;> simp

/-- `compareContact` leaves what a port holds beside its flags and its line, item by item. -/
@[simp] theorem compareContact_port (p : Fin 64) (closed : Bool) (s : State) (j : Nat) (hj : j < 3) :
    (compareContact p closed s).spu.ports[j].up = s.spu.ports[j].up
      ∧ (compareContact p closed s).spu.ports[j].link = s.spu.ports[j].link
      ∧ (compareContact p closed s).spu.ports[j].service = s.spu.ports[j].service
      ∧ (compareContact p closed s).spu.ports[j].queue = s.spu.ports[j].queue
      ∧ (compareContact p closed s).spu.ports[j].tail = s.spu.ports[j].tail
      ∧ (compareContact p closed s).spu.ports[j].mask = s.spu.ports[j].mask
      ∧ (compareContact p closed s).spu.ports[j].watermark = s.spu.ports[j].watermark
      ∧ (compareContact p closed s).spu.ports[j].frameErrors = s.spu.ports[j].frameErrors
      ∧ (compareContact p closed s).spu.ports[j].rx = s.spu.ports[j].rx :=
  Port.rest_items (compareContact_ports p closed s j hj)

/-- `applyLockout` leaves what a port holds beside its flags and its line. -/
@[simp] theorem applyLockout_ports (p : Fin 64) (o : OutputStatus) (s : State) (j : Nat) (hj : j < 3) :
    (applyLockout p o s).spu.ports[j].rest = s.spu.ports[j].rest := by
  unfold applyLockout
  (repeat' (first | split | dsimp only)) <;> simp

/-- `applyLockout` leaves what a port holds beside its flags and its line, item by item. -/
@[simp] theorem applyLockout_port (p : Fin 64) (o : OutputStatus) (s : State) (j : Nat) (hj : j < 3) :
    (applyLockout p o s).spu.ports[j].up = s.spu.ports[j].up
      ∧ (applyLockout p o s).spu.ports[j].link = s.spu.ports[j].link
      ∧ (applyLockout p o s).spu.ports[j].service = s.spu.ports[j].service
      ∧ (applyLockout p o s).spu.ports[j].queue = s.spu.ports[j].queue
      ∧ (applyLockout p o s).spu.ports[j].tail = s.spu.ports[j].tail
      ∧ (applyLockout p o s).spu.ports[j].mask = s.spu.ports[j].mask
      ∧ (applyLockout p o s).spu.ports[j].watermark = s.spu.ports[j].watermark
      ∧ (applyLockout p o s).spu.ports[j].frameErrors = s.spu.ports[j].frameErrors
      ∧ (applyLockout p o s).spu.ports[j].rx = s.spu.ports[j].rx :=
  Port.rest_items (applyLockout_ports p o s j hj)

/-- `feedbackAt` leaves what a port holds beside its flags and its line. -/
@[simp] theorem feedbackAt_ports (o : OutputStatus) (p : Fin 64) (s : State) (j : Nat) (hj : j < 3) :
    (feedbackAt o p s).spu.ports[j].rest = s.spu.ports[j].rest := by
  simp only [feedbackAt]
  split <;> simp

/-- `feedbackAt` leaves what a port holds beside its flags and its line, item by item. -/
@[simp] theorem feedbackAt_port (o : OutputStatus) (p : Fin 64) (s : State) (j : Nat) (hj : j < 3) :
    (feedbackAt o p s).spu.ports[j].up = s.spu.ports[j].up ∧ (feedbackAt o p s).spu.ports[j].link = s.spu.ports[j].link
      ∧ (feedbackAt o p s).spu.ports[j].service = s.spu.ports[j].service
      ∧ (feedbackAt o p s).spu.ports[j].queue = s.spu.ports[j].queue
      ∧ (feedbackAt o p s).spu.ports[j].tail = s.spu.ports[j].tail
      ∧ (feedbackAt o p s).spu.ports[j].mask = s.spu.ports[j].mask
      ∧ (feedbackAt o p s).spu.ports[j].watermark = s.spu.ports[j].watermark
      ∧ (feedbackAt o p s).spu.ports[j].frameErrors = s.spu.ports[j].frameErrors
      ∧ (feedbackAt o p s).spu.ports[j].rx = s.spu.ports[j].rx :=
  Port.rest_items (feedbackAt_ports o p s j hj)

/-- `feedback` leaves what a port holds beside its flags and its line. -/
@[simp] theorem feedback_ports (st : Fin 16) (outs : Option (Vector OutputStatus 4)) (s : State) (j : Nat) (hj : j < 3) :
    (feedback st outs s).spu.ports[j].rest = s.spu.ports[j].rest := by
  simp only [feedback]
  split <;> simp

/-- `feedback` leaves what a port holds beside its flags and its line, item by item. -/
@[simp] theorem feedback_port (st : Fin 16) (outs : Option (Vector OutputStatus 4)) (s : State) (j : Nat) (hj : j < 3) :
    (feedback st outs s).spu.ports[j].up = s.spu.ports[j].up
      ∧ (feedback st outs s).spu.ports[j].link = s.spu.ports[j].link
      ∧ (feedback st outs s).spu.ports[j].service = s.spu.ports[j].service
      ∧ (feedback st outs s).spu.ports[j].queue = s.spu.ports[j].queue
      ∧ (feedback st outs s).spu.ports[j].tail = s.spu.ports[j].tail
      ∧ (feedback st outs s).spu.ports[j].mask = s.spu.ports[j].mask
      ∧ (feedback st outs s).spu.ports[j].watermark = s.spu.ports[j].watermark
      ∧ (feedback st outs s).spu.ports[j].frameErrors = s.spu.ports[j].frameErrors
      ∧ (feedback st outs s).spu.ports[j].rx = s.spu.ports[j].rx :=
  Port.rest_items (feedback_ports st outs s j hj)

/-- `takeDeferred` leaves what a port holds beside its flags and its line. -/
@[simp] theorem takeDeferred_ports (f : InFlight) (r : Result) (s : State) (j : Nat) (hj : j < 3) :
    (takeDeferred f r s).spu.ports[j].rest = s.spu.ports[j].rest := by
  unfold takeDeferred
  (repeat' (first | split | dsimp only)) <;> simp

/-- `takeDeferred` leaves what a port holds beside its flags and its line, item by item. -/
@[simp] theorem takeDeferred_port (f : InFlight) (r : Result) (s : State) (j : Nat) (hj : j < 3) :
    (takeDeferred f r s).spu.ports[j].up = s.spu.ports[j].up
      ∧ (takeDeferred f r s).spu.ports[j].link = s.spu.ports[j].link
      ∧ (takeDeferred f r s).spu.ports[j].service = s.spu.ports[j].service
      ∧ (takeDeferred f r s).spu.ports[j].queue = s.spu.ports[j].queue
      ∧ (takeDeferred f r s).spu.ports[j].tail = s.spu.ports[j].tail
      ∧ (takeDeferred f r s).spu.ports[j].mask = s.spu.ports[j].mask
      ∧ (takeDeferred f r s).spu.ports[j].watermark = s.spu.ports[j].watermark
      ∧ (takeDeferred f r s).spu.ports[j].frameErrors = s.spu.ports[j].frameErrors
      ∧ (takeDeferred f r s).spu.ports[j].rx = s.spu.ports[j].rx :=
  Port.rest_items (takeDeferred_ports f r s j hj)

/-- `rejoinGate` leaves what a port holds beside its flags and its line. -/
@[simp] theorem rejoinGate_ports (p : Fin 64) (s : State) (j : Nat) (hj : j < 3) :
    (rejoinGate p s).spu.ports[j].rest = s.spu.ports[j].rest := by
  simp only [rejoinGate]
  split <;> simp

/-- `rejoinGate` leaves what a port holds beside its flags and its line, item by item. -/
@[simp] theorem rejoinGate_port (p : Fin 64) (s : State) (j : Nat) (hj : j < 3) :
    (rejoinGate p s).spu.ports[j].up = s.spu.ports[j].up ∧ (rejoinGate p s).spu.ports[j].link = s.spu.ports[j].link
      ∧ (rejoinGate p s).spu.ports[j].service = s.spu.ports[j].service
      ∧ (rejoinGate p s).spu.ports[j].queue = s.spu.ports[j].queue
      ∧ (rejoinGate p s).spu.ports[j].tail = s.spu.ports[j].tail
      ∧ (rejoinGate p s).spu.ports[j].mask = s.spu.ports[j].mask
      ∧ (rejoinGate p s).spu.ports[j].watermark = s.spu.ports[j].watermark
      ∧ (rejoinGate p s).spu.ports[j].frameErrors = s.spu.ports[j].frameErrors
      ∧ (rejoinGate p s).spu.ports[j].rx = s.spu.ports[j].rx :=
  Port.rest_items (rejoinGate_ports p s j hj)

/-- `handOver` leaves what a port holds beside its flags and its line. -/
@[simp] theorem handOver_ports (before : Vector PointEntry 64) (s : State) (p : Fin 64) (j : Nat) (hj : j < 3) :
    (handOver before s p).spu.ports[j].rest = s.spu.ports[j].rest := by
  simp only [handOver]
  split <;> simp

/-- `handOver` leaves what a port holds beside its flags and its line, item by item. -/
@[simp] theorem handOver_port (before : Vector PointEntry 64) (s : State) (p : Fin 64) (j : Nat) (hj : j < 3) :
    (handOver before s p).spu.ports[j].up = s.spu.ports[j].up
      ∧ (handOver before s p).spu.ports[j].link = s.spu.ports[j].link
      ∧ (handOver before s p).spu.ports[j].service = s.spu.ports[j].service
      ∧ (handOver before s p).spu.ports[j].queue = s.spu.ports[j].queue
      ∧ (handOver before s p).spu.ports[j].tail = s.spu.ports[j].tail
      ∧ (handOver before s p).spu.ports[j].mask = s.spu.ports[j].mask
      ∧ (handOver before s p).spu.ports[j].watermark = s.spu.ports[j].watermark
      ∧ (handOver before s p).spu.ports[j].frameErrors = s.spu.ports[j].frameErrors
      ∧ (handOver before s p).spu.ports[j].rx = s.spu.ports[j].rx :=
  Port.rest_items (handOver_ports before s p j hj)

/-- `lampAfter` leaves what a port holds beside its flags and its line. -/
@[simp] theorem lampAfter_ports (before : Vector PointEntry 64) (s : State) (p : Fin 64) (j : Nat) (hj : j < 3) :
    (lampAfter before s p).spu.ports[j].rest = s.spu.ports[j].rest := by
  simp [lampAfter]

/-- `lampAfter` leaves what a port holds beside its flags and its line, item by item. -/
@[simp] theorem lampAfter_port (before : Vector PointEntry 64) (s : State) (p : Fin 64) (j : Nat) (hj : j < 3) :
    (lampAfter before s p).spu.ports[j].up = s.spu.ports[j].up
      ∧ (lampAfter before s p).spu.ports[j].link = s.spu.ports[j].link
      ∧ (lampAfter before s p).spu.ports[j].service = s.spu.ports[j].service
      ∧ (lampAfter before s p).spu.ports[j].queue = s.spu.ports[j].queue
      ∧ (lampAfter before s p).spu.ports[j].tail = s.spu.ports[j].tail
      ∧ (lampAfter before s p).spu.ports[j].mask = s.spu.ports[j].mask
      ∧ (lampAfter before s p).spu.ports[j].watermark = s.spu.ports[j].watermark
      ∧ (lampAfter before s p).spu.ports[j].frameErrors = s.spu.ports[j].frameErrors
      ∧ (lampAfter before s p).spu.ports[j].rx = s.spu.ports[j].rx :=
  Port.rest_items (lampAfter_ports before s p j hj)

/-- `takeResolution` leaves what a port holds beside its flags and its line. -/
@[simp] theorem takeResolution_ports (f : InFlight) (st : Fin 16) (r : Result) (outs : Option (Vector OutputStatus 4)) (s : State) (j : Nat) (hj : j < 3) :
    (takeResolution f st r outs s).spu.ports[j].rest = s.spu.ports[j].rest := by
  simp [takeResolution]

/-- `takeResolution` leaves what a port holds beside its flags and its line, item by item. -/
@[simp] theorem takeResolution_port (f : InFlight) (st : Fin 16) (r : Result) (outs : Option (Vector OutputStatus 4)) (s : State) (j : Nat) (hj : j < 3) :
    (takeResolution f st r outs s).spu.ports[j].up = s.spu.ports[j].up
      ∧ (takeResolution f st r outs s).spu.ports[j].link = s.spu.ports[j].link
      ∧ (takeResolution f st r outs s).spu.ports[j].service = s.spu.ports[j].service
      ∧ (takeResolution f st r outs s).spu.ports[j].queue = s.spu.ports[j].queue
      ∧ (takeResolution f st r outs s).spu.ports[j].tail = s.spu.ports[j].tail
      ∧ (takeResolution f st r outs s).spu.ports[j].mask = s.spu.ports[j].mask
      ∧ (takeResolution f st r outs s).spu.ports[j].watermark = s.spu.ports[j].watermark
      ∧ (takeResolution f st r outs s).spu.ports[j].frameErrors = s.spu.ports[j].frameErrors
      ∧ (takeResolution f st r outs s).spu.ports[j].rx = s.spu.ports[j].rx :=
  Port.rest_items (takeResolution_ports f st r outs s j hj)

/-- `unreachablePoint` leaves what a port holds beside its flags and its line. -/
@[simp] theorem unreachablePoint_ports (s : State) (p : Fin 64) (j : Nat) (hj : j < 3) :
    (unreachablePoint s p).spu.ports[j].rest = s.spu.ports[j].rest := by
  unfold unreachablePoint
  (repeat' (first | split | dsimp only)) <;> simp

/-- `unreachablePoint` leaves what a port holds beside its flags and its line, item by item. -/
@[simp] theorem unreachablePoint_port (s : State) (p : Fin 64) (j : Nat) (hj : j < 3) :
    (unreachablePoint s p).spu.ports[j].up = s.spu.ports[j].up
      ∧ (unreachablePoint s p).spu.ports[j].link = s.spu.ports[j].link
      ∧ (unreachablePoint s p).spu.ports[j].service = s.spu.ports[j].service
      ∧ (unreachablePoint s p).spu.ports[j].queue = s.spu.ports[j].queue
      ∧ (unreachablePoint s p).spu.ports[j].tail = s.spu.ports[j].tail
      ∧ (unreachablePoint s p).spu.ports[j].mask = s.spu.ports[j].mask
      ∧ (unreachablePoint s p).spu.ports[j].watermark = s.spu.ports[j].watermark
      ∧ (unreachablePoint s p).spu.ports[j].frameErrors = s.spu.ports[j].frameErrors
      ∧ (unreachablePoint s p).spu.ports[j].rx = s.spu.ports[j].rx :=
  Port.rest_items (unreachablePoint_ports s p j hj)

/-- `stationUnreachable` leaves what a port holds beside its flags and its line. -/
@[simp] theorem stationUnreachable_ports (st : Fin 16) (s : State) (j : Nat) (hj : j < 3) :
    (stationUnreachable st s).spu.ports[j].rest = s.spu.ports[j].rest := by
  simp only [stationUnreachable]
  split <;> simp

/-- `stationUnreachable` leaves what a port holds beside its flags and its line, item by item. -/
@[simp] theorem stationUnreachable_port (st : Fin 16) (s : State) (j : Nat) (hj : j < 3) :
    (stationUnreachable st s).spu.ports[j].up = s.spu.ports[j].up
      ∧ (stationUnreachable st s).spu.ports[j].link = s.spu.ports[j].link
      ∧ (stationUnreachable st s).spu.ports[j].service = s.spu.ports[j].service
      ∧ (stationUnreachable st s).spu.ports[j].queue = s.spu.ports[j].queue
      ∧ (stationUnreachable st s).spu.ports[j].tail = s.spu.ports[j].tail
      ∧ (stationUnreachable st s).spu.ports[j].mask = s.spu.ports[j].mask
      ∧ (stationUnreachable st s).spu.ports[j].watermark = s.spu.ports[j].watermark
      ∧ (stationUnreachable st s).spu.ports[j].frameErrors = s.spu.ports[j].frameErrors
      ∧ (stationUnreachable st s).spu.ports[j].rx = s.spu.ports[j].rx :=
  Port.rest_items (stationUnreachable_ports st s j hj)

/-- `checkUnreachable` leaves what a port holds beside its flags and its line. -/
@[simp] theorem checkUnreachable_ports (cause : Option (Fin 16)) (s : State) (j : Nat) (hj : j < 3) :
    (checkUnreachable cause s).spu.ports[j].rest = s.spu.ports[j].rest := by
  unfold checkUnreachable
  (repeat' (first | split | dsimp only)) <;> simp

/-- `checkUnreachable` leaves what a port holds beside its flags and its line, item by item. -/
@[simp] theorem checkUnreachable_port (cause : Option (Fin 16)) (s : State) (j : Nat) (hj : j < 3) :
    (checkUnreachable cause s).spu.ports[j].up = s.spu.ports[j].up
      ∧ (checkUnreachable cause s).spu.ports[j].link = s.spu.ports[j].link
      ∧ (checkUnreachable cause s).spu.ports[j].service = s.spu.ports[j].service
      ∧ (checkUnreachable cause s).spu.ports[j].queue = s.spu.ports[j].queue
      ∧ (checkUnreachable cause s).spu.ports[j].tail = s.spu.ports[j].tail
      ∧ (checkUnreachable cause s).spu.ports[j].mask = s.spu.ports[j].mask
      ∧ (checkUnreachable cause s).spu.ports[j].watermark = s.spu.ports[j].watermark
      ∧ (checkUnreachable cause s).spu.ports[j].frameErrors = s.spu.ports[j].frameErrors
      ∧ (checkUnreachable cause s).spu.ports[j].rx = s.spu.ports[j].rx :=
  Port.rest_items (checkUnreachable_ports cause s j hj)

/-- `pollResolved` leaves what a port holds beside its flags and its line. -/
@[simp] theorem pollResolved_ports (o : Order) (s : State) (j : Nat) (hj : j < 3) :
    (pollResolved o s).spu.ports[j].rest = s.spu.ports[j].rest := by
  simp only [pollResolved]
  split <;> simp

/-- `pollResolved` leaves what a port holds beside its flags and its line, item by item. -/
@[simp] theorem pollResolved_port (o : Order) (s : State) (j : Nat) (hj : j < 3) :
    (pollResolved o s).spu.ports[j].up = s.spu.ports[j].up ∧ (pollResolved o s).spu.ports[j].link = s.spu.ports[j].link
      ∧ (pollResolved o s).spu.ports[j].service = s.spu.ports[j].service
      ∧ (pollResolved o s).spu.ports[j].queue = s.spu.ports[j].queue
      ∧ (pollResolved o s).spu.ports[j].tail = s.spu.ports[j].tail
      ∧ (pollResolved o s).spu.ports[j].mask = s.spu.ports[j].mask
      ∧ (pollResolved o s).spu.ports[j].watermark = s.spu.ports[j].watermark
      ∧ (pollResolved o s).spu.ports[j].frameErrors = s.spu.ports[j].frameErrors
      ∧ (pollResolved o s).spu.ports[j].rx = s.spu.ports[j].rx :=
  Port.rest_items (pollResolved_ports o s j hj)

/-- `resolve` leaves what a port holds beside its flags and its line. -/
@[simp] theorem resolve_ports (f : InFlight) (st : Fin 16) (r : Result) (outs : Option (Vector OutputStatus 4))
    (s : State) (j : Nat) (hj : j < 3) :
    (resolve f st r outs s).spu.ports[j].rest = s.spu.ports[j].rest := by
  simp [resolve]

/-- `resolve` leaves what a port holds beside its flags and its line, item by item. -/
@[simp] theorem resolve_port (f : InFlight) (st : Fin 16) (r : Result) (outs : Option (Vector OutputStatus 4))
    (s : State) (j : Nat) (hj : j < 3) :
    (resolve f st r outs s).spu.ports[j].up = s.spu.ports[j].up
      ∧ (resolve f st r outs s).spu.ports[j].link = s.spu.ports[j].link
      ∧ (resolve f st r outs s).spu.ports[j].service = s.spu.ports[j].service
      ∧ (resolve f st r outs s).spu.ports[j].queue = s.spu.ports[j].queue
      ∧ (resolve f st r outs s).spu.ports[j].tail = s.spu.ports[j].tail
      ∧ (resolve f st r outs s).spu.ports[j].mask = s.spu.ports[j].mask
      ∧ (resolve f st r outs s).spu.ports[j].watermark = s.spu.ports[j].watermark
      ∧ (resolve f st r outs s).spu.ports[j].frameErrors = s.spu.ports[j].frameErrors
      ∧ (resolve f st r outs s).spu.ports[j].rx = s.spu.ports[j].rx :=
  Port.rest_items (resolve_ports f st r outs s j hj)

/-- `matchingReply` leaves what a port holds beside its flags and its line. -/
@[simp] theorem matchingReply_ports (f : InFlight) (st : Fin 16) (r : Result) (outs : Vector OutputStatus 4)
    (s : State) (j : Nat) (hj : j < 3) :
    (matchingReply f st r outs s).spu.ports[j].rest = s.spu.ports[j].rest := by
  simp [matchingReply]

/-- `matchingReply` leaves what a port holds beside its flags and its line, item by item. -/
@[simp] theorem matchingReply_port (f : InFlight) (st : Fin 16) (r : Result) (outs : Vector OutputStatus 4)
    (s : State) (j : Nat) (hj : j < 3) :
    (matchingReply f st r outs s).spu.ports[j].up = s.spu.ports[j].up
      ∧ (matchingReply f st r outs s).spu.ports[j].link = s.spu.ports[j].link
      ∧ (matchingReply f st r outs s).spu.ports[j].service = s.spu.ports[j].service
      ∧ (matchingReply f st r outs s).spu.ports[j].queue = s.spu.ports[j].queue
      ∧ (matchingReply f st r outs s).spu.ports[j].tail = s.spu.ports[j].tail
      ∧ (matchingReply f st r outs s).spu.ports[j].mask = s.spu.ports[j].mask
      ∧ (matchingReply f st r outs s).spu.ports[j].watermark = s.spu.ports[j].watermark
      ∧ (matchingReply f st r outs s).spu.ports[j].frameErrors = s.spu.ports[j].frameErrors
      ∧ (matchingReply f st r outs s).spu.ports[j].rx = s.spu.ports[j].rx :=
  Port.rest_items (matchingReply_ports f st r outs s j hj)

/-- `replyFrameTaken` leaves what a port holds beside its flags and its line. -/
@[simp] theorem replyFrameTaken_ports (src tag : Byte) (r : Result) (outs : Vector OutputStatus 4)
    (s : State) (j : Nat) (hj : j < 3) :
    (replyFrameTaken src tag r outs s).spu.ports[j].rest = s.spu.ports[j].rest := by
  unfold replyFrameTaken
  (repeat' (first | split | dsimp only)) <;> simp

/-- `replyFrameTaken` leaves what a port holds beside its flags and its line, item by item. -/
@[simp] theorem replyFrameTaken_port (src tag : Byte) (r : Result) (outs : Vector OutputStatus 4)
    (s : State) (j : Nat) (hj : j < 3) :
    (replyFrameTaken src tag r outs s).spu.ports[j].up = s.spu.ports[j].up
      ∧ (replyFrameTaken src tag r outs s).spu.ports[j].link = s.spu.ports[j].link
      ∧ (replyFrameTaken src tag r outs s).spu.ports[j].service = s.spu.ports[j].service
      ∧ (replyFrameTaken src tag r outs s).spu.ports[j].queue = s.spu.ports[j].queue
      ∧ (replyFrameTaken src tag r outs s).spu.ports[j].tail = s.spu.ports[j].tail
      ∧ (replyFrameTaken src tag r outs s).spu.ports[j].mask = s.spu.ports[j].mask
      ∧ (replyFrameTaken src tag r outs s).spu.ports[j].watermark = s.spu.ports[j].watermark
      ∧ (replyFrameTaken src tag r outs s).spu.ports[j].frameErrors = s.spu.ports[j].frameErrors
      ∧ (replyFrameTaken src tag r outs s).spu.ports[j].rx = s.spu.ports[j].rx :=
  Port.rest_items (replyFrameTaken_ports src tag r outs s j hj)

/-- `loopFrame` leaves what a port holds beside its flags and its line. -/
@[simp] theorem loopFrame_ports (bytes : List Byte) (bad : Bool) (s : State) (j : Nat) (hj : j < 3) :
    (loopFrame bytes bad s).spu.ports[j].rest = s.spu.ports[j].rest := by
  unfold loopFrame
  (repeat' (first | split | dsimp only)) <;> simp

/-- `loopFrame` leaves what a port holds beside its flags and its line, item by item. -/
@[simp] theorem loopFrame_port (bytes : List Byte) (bad : Bool) (s : State) (j : Nat) (hj : j < 3) :
    (loopFrame bytes bad s).spu.ports[j].up = s.spu.ports[j].up
      ∧ (loopFrame bytes bad s).spu.ports[j].link = s.spu.ports[j].link
      ∧ (loopFrame bytes bad s).spu.ports[j].service = s.spu.ports[j].service
      ∧ (loopFrame bytes bad s).spu.ports[j].queue = s.spu.ports[j].queue
      ∧ (loopFrame bytes bad s).spu.ports[j].tail = s.spu.ports[j].tail
      ∧ (loopFrame bytes bad s).spu.ports[j].mask = s.spu.ports[j].mask
      ∧ (loopFrame bytes bad s).spu.ports[j].watermark = s.spu.ports[j].watermark
      ∧ (loopFrame bytes bad s).spu.ports[j].frameErrors = s.spu.ports[j].frameErrors
      ∧ (loopFrame bytes bad s).spu.ports[j].rx = s.spu.ports[j].rx :=
  Port.rest_items (loopFrame_ports bytes bad s j hj)

/-- `loopByte` leaves what a port holds beside its flags and its line. -/
@[simp] theorem loopByte_ports (s : State) (b : LineByte) (j : Nat) (hj : j < 3) :
    (loopByte s b).spu.ports[j].rest = s.spu.ports[j].rest := by
  unfold loopByte
  (repeat' (first | split | dsimp only)) <;> simp

/-- `loopByte` leaves what a port holds beside its flags and its line, item by item. -/
@[simp] theorem loopByte_port (s : State) (b : LineByte) (j : Nat) (hj : j < 3) :
    (loopByte s b).spu.ports[j].up = s.spu.ports[j].up ∧ (loopByte s b).spu.ports[j].link = s.spu.ports[j].link
      ∧ (loopByte s b).spu.ports[j].service = s.spu.ports[j].service
      ∧ (loopByte s b).spu.ports[j].queue = s.spu.ports[j].queue ∧ (loopByte s b).spu.ports[j].tail = s.spu.ports[j].tail
      ∧ (loopByte s b).spu.ports[j].mask = s.spu.ports[j].mask
      ∧ (loopByte s b).spu.ports[j].watermark = s.spu.ports[j].watermark
      ∧ (loopByte s b).spu.ports[j].frameErrors = s.spu.ports[j].frameErrors
      ∧ (loopByte s b).spu.ports[j].rx = s.spu.ports[j].rx :=
  Port.rest_items (loopByte_ports s b j hj)

/-- `countNoReply` leaves what a port holds beside its flags and its line. -/
@[simp] theorem countNoReply_ports (st : Fin 16) (s : State) (j : Nat) (hj : j < 3) :
    (countNoReply st s).spu.ports[j].rest = s.spu.ports[j].rest := by
  simp only [countNoReply]
  split <;> simp

/-- `countNoReply` leaves what a port holds beside its flags and its line, item by item. -/
@[simp] theorem countNoReply_port (st : Fin 16) (s : State) (j : Nat) (hj : j < 3) :
    (countNoReply st s).spu.ports[j].up = s.spu.ports[j].up ∧ (countNoReply st s).spu.ports[j].link = s.spu.ports[j].link
      ∧ (countNoReply st s).spu.ports[j].service = s.spu.ports[j].service
      ∧ (countNoReply st s).spu.ports[j].queue = s.spu.ports[j].queue
      ∧ (countNoReply st s).spu.ports[j].tail = s.spu.ports[j].tail
      ∧ (countNoReply st s).spu.ports[j].mask = s.spu.ports[j].mask
      ∧ (countNoReply st s).spu.ports[j].watermark = s.spu.ports[j].watermark
      ∧ (countNoReply st s).spu.ports[j].frameErrors = s.spu.ports[j].frameErrors
      ∧ (countNoReply st s).spu.ports[j].rx = s.spu.ports[j].rx :=
  Port.rest_items (countNoReply_ports st s j hj)

/-- `afterTimeout` leaves what a port holds beside its flags and its line. -/
@[simp] theorem afterTimeout_ports (f : InFlight) (st : Fin 16) (s : State) (j : Nat) (hj : j < 3) :
    (afterTimeout f st s).spu.ports[j].rest = s.spu.ports[j].rest := by
  simp only [afterTimeout]
  split <;> simp

/-- `afterTimeout` leaves what a port holds beside its flags and its line, item by item. -/
@[simp] theorem afterTimeout_port (f : InFlight) (st : Fin 16) (s : State) (j : Nat) (hj : j < 3) :
    (afterTimeout f st s).spu.ports[j].up = s.spu.ports[j].up
      ∧ (afterTimeout f st s).spu.ports[j].link = s.spu.ports[j].link
      ∧ (afterTimeout f st s).spu.ports[j].service = s.spu.ports[j].service
      ∧ (afterTimeout f st s).spu.ports[j].queue = s.spu.ports[j].queue
      ∧ (afterTimeout f st s).spu.ports[j].tail = s.spu.ports[j].tail
      ∧ (afterTimeout f st s).spu.ports[j].mask = s.spu.ports[j].mask
      ∧ (afterTimeout f st s).spu.ports[j].watermark = s.spu.ports[j].watermark
      ∧ (afterTimeout f st s).spu.ports[j].frameErrors = s.spu.ports[j].frameErrors
      ∧ (afterTimeout f st s).spu.ports[j].rx = s.spu.ports[j].rx :=
  Port.rest_items (afterTimeout_ports f st s j hj)

/-- `replyTimeout` leaves what a port holds beside its flags and its line. -/
@[simp] theorem replyTimeout_ports (s : State) (j : Nat) (hj : j < 3) :
    (replyTimeout s).spu.ports[j].rest = s.spu.ports[j].rest := by
  unfold replyTimeout
  (repeat' (first | split | dsimp only)) <;> simp

/-- `replyTimeout` leaves what a port holds beside its flags and its line, item by item. -/
@[simp] theorem replyTimeout_port (s : State) (j : Nat) (hj : j < 3) :
    (replyTimeout s).spu.ports[j].up = s.spu.ports[j].up ∧ (replyTimeout s).spu.ports[j].link = s.spu.ports[j].link
      ∧ (replyTimeout s).spu.ports[j].service = s.spu.ports[j].service
      ∧ (replyTimeout s).spu.ports[j].queue = s.spu.ports[j].queue
      ∧ (replyTimeout s).spu.ports[j].tail = s.spu.ports[j].tail
      ∧ (replyTimeout s).spu.ports[j].mask = s.spu.ports[j].mask
      ∧ (replyTimeout s).spu.ports[j].watermark = s.spu.ports[j].watermark
      ∧ (replyTimeout s).spu.ports[j].frameErrors = s.spu.ports[j].frameErrors
      ∧ (replyTimeout s).spu.ports[j].rx = s.spu.ports[j].rx :=
  Port.rest_items (replyTimeout_ports s j hj)

/-- `graceExpiry` leaves what a port holds beside its flags and its line. -/
@[simp] theorem graceExpiry_ports (p : Fin 64) (s : State) (j : Nat) (hj : j < 3) :
    (graceExpiry p s).spu.ports[j].rest = s.spu.ports[j].rest := by
  simp only [graceExpiry]
  split <;> simp

/-- `graceExpiry` leaves what a port holds beside its flags and its line, item by item. -/
@[simp] theorem graceExpiry_port (p : Fin 64) (s : State) (j : Nat) (hj : j < 3) :
    (graceExpiry p s).spu.ports[j].up = s.spu.ports[j].up ∧ (graceExpiry p s).spu.ports[j].link = s.spu.ports[j].link
      ∧ (graceExpiry p s).spu.ports[j].service = s.spu.ports[j].service
      ∧ (graceExpiry p s).spu.ports[j].queue = s.spu.ports[j].queue
      ∧ (graceExpiry p s).spu.ports[j].tail = s.spu.ports[j].tail
      ∧ (graceExpiry p s).spu.ports[j].mask = s.spu.ports[j].mask
      ∧ (graceExpiry p s).spu.ports[j].watermark = s.spu.ports[j].watermark
      ∧ (graceExpiry p s).spu.ports[j].frameErrors = s.spu.ports[j].frameErrors
      ∧ (graceExpiry p s).spu.ports[j].rx = s.spu.ports[j].rx :=
  Port.rest_items (graceExpiry_ports p s j hj)

/-- `settleExpiry` leaves what a port holds beside its flags and its line. -/
@[simp] theorem settleExpiry_ports (p : Fin 64) (s : State) (j : Nat) (hj : j < 3) :
    (settleExpiry p s).spu.ports[j].rest = s.spu.ports[j].rest := by
  simp only [settleExpiry]
  split <;> simp

/-- `settleExpiry` leaves what a port holds beside its flags and its line, item by item. -/
@[simp] theorem settleExpiry_port (p : Fin 64) (s : State) (j : Nat) (hj : j < 3) :
    (settleExpiry p s).spu.ports[j].up = s.spu.ports[j].up ∧ (settleExpiry p s).spu.ports[j].link = s.spu.ports[j].link
      ∧ (settleExpiry p s).spu.ports[j].service = s.spu.ports[j].service
      ∧ (settleExpiry p s).spu.ports[j].queue = s.spu.ports[j].queue
      ∧ (settleExpiry p s).spu.ports[j].tail = s.spu.ports[j].tail
      ∧ (settleExpiry p s).spu.ports[j].mask = s.spu.ports[j].mask
      ∧ (settleExpiry p s).spu.ports[j].watermark = s.spu.ports[j].watermark
      ∧ (settleExpiry p s).spu.ports[j].frameErrors = s.spu.ports[j].frameErrors
      ∧ (settleExpiry p s).spu.ports[j].rx = s.spu.ports[j].rx :=
  Port.rest_items (settleExpiry_ports p s j hj)

/-- `shedWarned` leaves what a port holds beside its flags and its line. -/
@[simp] theorem shedWarned_ports (s : State) (p : Fin 64) (j : Nat) (hj : j < 3) :
    (shedWarned s p).spu.ports[j].rest = s.spu.ports[j].rest := by
  simp only [shedWarned]
  split <;> simp

/-- `shedWarned` leaves what a port holds beside its flags and its line, item by item. -/
@[simp] theorem shedWarned_port (s : State) (p : Fin 64) (j : Nat) (hj : j < 3) :
    (shedWarned s p).spu.ports[j].up = s.spu.ports[j].up ∧ (shedWarned s p).spu.ports[j].link = s.spu.ports[j].link
      ∧ (shedWarned s p).spu.ports[j].service = s.spu.ports[j].service
      ∧ (shedWarned s p).spu.ports[j].queue = s.spu.ports[j].queue
      ∧ (shedWarned s p).spu.ports[j].tail = s.spu.ports[j].tail
      ∧ (shedWarned s p).spu.ports[j].mask = s.spu.ports[j].mask
      ∧ (shedWarned s p).spu.ports[j].watermark = s.spu.ports[j].watermark
      ∧ (shedWarned s p).spu.ports[j].frameErrors = s.spu.ports[j].frameErrors
      ∧ (shedWarned s p).spu.ports[j].rx = s.spu.ports[j].rx :=
  Port.rest_items (shedWarned_ports s p j hj)

/-- `shedTimeout` leaves what a port holds beside its flags and its line. -/
@[simp] theorem shedTimeout_ports (k : Nat) (s : State) (j : Nat) (hj : j < 3) :
    (shedTimeout k s).spu.ports[j].rest = s.spu.ports[j].rest := by
  simp [shedTimeout]

/-- `shedTimeout` leaves what a port holds beside its flags and its line, item by item. -/
@[simp] theorem shedTimeout_port (k : Nat) (s : State) (j : Nat) (hj : j < 3) :
    (shedTimeout k s).spu.ports[j].up = s.spu.ports[j].up ∧ (shedTimeout k s).spu.ports[j].link = s.spu.ports[j].link
      ∧ (shedTimeout k s).spu.ports[j].service = s.spu.ports[j].service
      ∧ (shedTimeout k s).spu.ports[j].queue = s.spu.ports[j].queue
      ∧ (shedTimeout k s).spu.ports[j].tail = s.spu.ports[j].tail
      ∧ (shedTimeout k s).spu.ports[j].mask = s.spu.ports[j].mask
      ∧ (shedTimeout k s).spu.ports[j].watermark = s.spu.ports[j].watermark
      ∧ (shedTimeout k s).spu.ports[j].frameErrors = s.spu.ports[j].frameErrors
      ∧ (shedTimeout k s).spu.ports[j].rx = s.spu.ports[j].rx :=
  Port.rest_items (shedTimeout_ports k s j hj)

/-- `failAwait` leaves what a port holds beside its flags and its line. -/
@[simp] theorem failAwait_ports (s : State) (p : Fin 64) (j : Nat) (hj : j < 3) :
    (failAwait s p).spu.ports[j].rest = s.spu.ports[j].rest := by
  simp only [failAwait]
  split <;> simp

/-- `failAwait` leaves what a port holds beside its flags and its line, item by item. -/
@[simp] theorem failAwait_port (s : State) (p : Fin 64) (j : Nat) (hj : j < 3) :
    (failAwait s p).spu.ports[j].up = s.spu.ports[j].up ∧ (failAwait s p).spu.ports[j].link = s.spu.ports[j].link
      ∧ (failAwait s p).spu.ports[j].service = s.spu.ports[j].service
      ∧ (failAwait s p).spu.ports[j].queue = s.spu.ports[j].queue
      ∧ (failAwait s p).spu.ports[j].tail = s.spu.ports[j].tail ∧ (failAwait s p).spu.ports[j].mask = s.spu.ports[j].mask
      ∧ (failAwait s p).spu.ports[j].watermark = s.spu.ports[j].watermark
      ∧ (failAwait s p).spu.ports[j].frameErrors = s.spu.ports[j].frameErrors
      ∧ (failAwait s p).spu.ports[j].rx = s.spu.ports[j].rx :=
  Port.rest_items (failAwait_ports s p j hj)

/-- `restartTimeout` leaves what a port holds beside its flags and its line. -/
@[simp] theorem restartTimeout_ports (k : Nat) (s : State) (j : Nat) (hj : j < 3) :
    (restartTimeout k s).spu.ports[j].rest = s.spu.ports[j].rest := by
  simp [restartTimeout]

/-- `restartTimeout` leaves what a port holds beside its flags and its line, item by item. -/
@[simp] theorem restartTimeout_port (k : Nat) (s : State) (j : Nat) (hj : j < 3) :
    (restartTimeout k s).spu.ports[j].up = s.spu.ports[j].up
      ∧ (restartTimeout k s).spu.ports[j].link = s.spu.ports[j].link
      ∧ (restartTimeout k s).spu.ports[j].service = s.spu.ports[j].service
      ∧ (restartTimeout k s).spu.ports[j].queue = s.spu.ports[j].queue
      ∧ (restartTimeout k s).spu.ports[j].tail = s.spu.ports[j].tail
      ∧ (restartTimeout k s).spu.ports[j].mask = s.spu.ports[j].mask
      ∧ (restartTimeout k s).spu.ports[j].watermark = s.spu.ports[j].watermark
      ∧ (restartTimeout k s).spu.ports[j].frameErrors = s.spu.ports[j].frameErrors
      ∧ (restartTimeout k s).spu.ports[j].rx = s.spu.ports[j].rx :=
  Port.rest_items (restartTimeout_ports k s j hj)

/-- `enableStation` leaves what a port holds beside its flags and its line. -/
@[simp] theorem enableStation_ports (s : State) (i : Fin 6) (j : Nat) (hj : j < 3) :
    (enableStation s i).spu.ports[j].rest = s.spu.ports[j].rest := by
  simp only [enableStation]
  split <;> simp

/-- `enableStation` leaves what a port holds beside its flags and its line, item by item. -/
@[simp] theorem enableStation_port (s : State) (i : Fin 6) (j : Nat) (hj : j < 3) :
    (enableStation s i).spu.ports[j].up = s.spu.ports[j].up ∧ (enableStation s i).spu.ports[j].link = s.spu.ports[j].link
      ∧ (enableStation s i).spu.ports[j].service = s.spu.ports[j].service
      ∧ (enableStation s i).spu.ports[j].queue = s.spu.ports[j].queue
      ∧ (enableStation s i).spu.ports[j].tail = s.spu.ports[j].tail
      ∧ (enableStation s i).spu.ports[j].mask = s.spu.ports[j].mask
      ∧ (enableStation s i).spu.ports[j].watermark = s.spu.ports[j].watermark
      ∧ (enableStation s i).spu.ports[j].frameErrors = s.spu.ports[j].frameErrors
      ∧ (enableStation s i).spu.ports[j].rx = s.spu.ports[j].rx :=
  Port.rest_items (enableStation_ports s i j hj)

/-- `beginRound` leaves what a port holds beside its flags and its line. -/
@[simp] theorem beginRound_ports (s : State) (j : Nat) (hj : j < 3) :
    (beginRound s).spu.ports[j].rest = s.spu.ports[j].rest := by
  simp [beginRound]

/-- `beginRound` leaves what a port holds beside its flags and its line, item by item. -/
@[simp] theorem beginRound_port (s : State) (j : Nat) (hj : j < 3) :
    (beginRound s).spu.ports[j].up = s.spu.ports[j].up ∧ (beginRound s).spu.ports[j].link = s.spu.ports[j].link
      ∧ (beginRound s).spu.ports[j].service = s.spu.ports[j].service
      ∧ (beginRound s).spu.ports[j].queue = s.spu.ports[j].queue ∧ (beginRound s).spu.ports[j].tail = s.spu.ports[j].tail
      ∧ (beginRound s).spu.ports[j].mask = s.spu.ports[j].mask
      ∧ (beginRound s).spu.ports[j].watermark = s.spu.ports[j].watermark
      ∧ (beginRound s).spu.ports[j].frameErrors = s.spu.ports[j].frameErrors
      ∧ (beginRound s).spu.ports[j].rx = s.spu.ports[j].rx :=
  Port.rest_items (beginRound_ports s j hj)

/-- `loadRecords` leaves what a port holds beside its flags and its line. -/
@[simp] theorem loadRecords_ports (mark : PlanMark) (reason : LoadReason) (s : State) (j : Nat) (hj : j < 3) :
    (loadRecords mark reason s).spu.ports[j].rest = s.spu.ports[j].rest := by
  simp [loadRecords]

/-- `loadRecords` leaves what a port holds beside its flags and its line, item by item. -/
@[simp] theorem loadRecords_port (mark : PlanMark) (reason : LoadReason) (s : State) (j : Nat) (hj : j < 3) :
    (loadRecords mark reason s).spu.ports[j].up = s.spu.ports[j].up
      ∧ (loadRecords mark reason s).spu.ports[j].link = s.spu.ports[j].link
      ∧ (loadRecords mark reason s).spu.ports[j].service = s.spu.ports[j].service
      ∧ (loadRecords mark reason s).spu.ports[j].queue = s.spu.ports[j].queue
      ∧ (loadRecords mark reason s).spu.ports[j].tail = s.spu.ports[j].tail
      ∧ (loadRecords mark reason s).spu.ports[j].mask = s.spu.ports[j].mask
      ∧ (loadRecords mark reason s).spu.ports[j].watermark = s.spu.ports[j].watermark
      ∧ (loadRecords mark reason s).spu.ports[j].frameErrors = s.spu.ports[j].frameErrors
      ∧ (loadRecords mark reason s).spu.ports[j].rx = s.spu.ports[j].rx :=
  Port.rest_items (loadRecords_ports mark reason s j hj)

/-- `leaveUse` leaves what a port holds beside its flags and its line. -/
@[simp] theorem leaveUse_ports (p : Fin 64) (s : State) (j : Nat) (hj : j < 3) :
    (leaveUse p s).spu.ports[j].rest = s.spu.ports[j].rest := by
  simp [leaveUse]

/-- `leaveUse` leaves what a port holds beside its flags and its line, item by item. -/
@[simp] theorem leaveUse_port (p : Fin 64) (s : State) (j : Nat) (hj : j < 3) :
    (leaveUse p s).spu.ports[j].up = s.spu.ports[j].up ∧ (leaveUse p s).spu.ports[j].link = s.spu.ports[j].link
      ∧ (leaveUse p s).spu.ports[j].service = s.spu.ports[j].service
      ∧ (leaveUse p s).spu.ports[j].queue = s.spu.ports[j].queue ∧ (leaveUse p s).spu.ports[j].tail = s.spu.ports[j].tail
      ∧ (leaveUse p s).spu.ports[j].mask = s.spu.ports[j].mask
      ∧ (leaveUse p s).spu.ports[j].watermark = s.spu.ports[j].watermark
      ∧ (leaveUse p s).spu.ports[j].frameErrors = s.spu.ports[j].frameErrors
      ∧ (leaveUse p s).spu.ports[j].rx = s.spu.ports[j].rx :=
  Port.rest_items (leaveUse_ports p s j hj)

/-- `recheckManual` leaves what a port holds beside its flags and its line. -/
@[simp] theorem recheckManual_ports (p : Fin 64) (s : State) (j : Nat) (hj : j < 3) :
    (recheckManual p s).spu.ports[j].rest = s.spu.ports[j].rest := by
  simp only [recheckManual]
  split <;> simp

/-- `recheckManual` leaves what a port holds beside its flags and its line, item by item. -/
@[simp] theorem recheckManual_port (p : Fin 64) (s : State) (j : Nat) (hj : j < 3) :
    (recheckManual p s).spu.ports[j].up = s.spu.ports[j].up ∧ (recheckManual p s).spu.ports[j].link = s.spu.ports[j].link
      ∧ (recheckManual p s).spu.ports[j].service = s.spu.ports[j].service
      ∧ (recheckManual p s).spu.ports[j].queue = s.spu.ports[j].queue
      ∧ (recheckManual p s).spu.ports[j].tail = s.spu.ports[j].tail
      ∧ (recheckManual p s).spu.ports[j].mask = s.spu.ports[j].mask
      ∧ (recheckManual p s).spu.ports[j].watermark = s.spu.ports[j].watermark
      ∧ (recheckManual p s).spu.ports[j].frameErrors = s.spu.ports[j].frameErrors
      ∧ (recheckManual p s).spu.ports[j].rx = s.spu.ports[j].rx :=
  Port.rest_items (recheckManual_ports p s j hj)

/-- `commitPoint` leaves what a port holds beside its flags and its line. -/
@[simp] theorem commitPoint_ports (old : Plan) (s : State) (p : Fin 64) (j : Nat) (hj : j < 3) :
    (commitPoint old s p).spu.ports[j].rest = s.spu.ports[j].rest := by
  unfold commitPoint
  (repeat' (first | split | dsimp only)) <;> simp

/-- `commitPoint` leaves what a port holds beside its flags and its line, item by item. -/
@[simp] theorem commitPoint_port (old : Plan) (s : State) (p : Fin 64) (j : Nat) (hj : j < 3) :
    (commitPoint old s p).spu.ports[j].up = s.spu.ports[j].up
      ∧ (commitPoint old s p).spu.ports[j].link = s.spu.ports[j].link
      ∧ (commitPoint old s p).spu.ports[j].service = s.spu.ports[j].service
      ∧ (commitPoint old s p).spu.ports[j].queue = s.spu.ports[j].queue
      ∧ (commitPoint old s p).spu.ports[j].tail = s.spu.ports[j].tail
      ∧ (commitPoint old s p).spu.ports[j].mask = s.spu.ports[j].mask
      ∧ (commitPoint old s p).spu.ports[j].watermark = s.spu.ports[j].watermark
      ∧ (commitPoint old s p).spu.ports[j].frameErrors = s.spu.ports[j].frameErrors
      ∧ (commitPoint old s p).spu.ports[j].rx = s.spu.ports[j].rx :=
  Port.rest_items (commitPoint_ports old s p j hj)

/-- `commitStation` leaves what a port holds beside its flags and its line. -/
@[simp] theorem commitStation_ports (old : Plan) (s : State) (i : Fin 6) (j : Nat) (hj : j < 3) :
    (commitStation old s i).spu.ports[j].rest = s.spu.ports[j].rest := by
  unfold commitStation
  (repeat' (first | split | dsimp only)) <;> simp

/-- `commitStation` leaves what a port holds beside its flags and its line, item by item. -/
@[simp] theorem commitStation_port (old : Plan) (s : State) (i : Fin 6) (j : Nat) (hj : j < 3) :
    (commitStation old s i).spu.ports[j].up = s.spu.ports[j].up
      ∧ (commitStation old s i).spu.ports[j].link = s.spu.ports[j].link
      ∧ (commitStation old s i).spu.ports[j].service = s.spu.ports[j].service
      ∧ (commitStation old s i).spu.ports[j].queue = s.spu.ports[j].queue
      ∧ (commitStation old s i).spu.ports[j].tail = s.spu.ports[j].tail
      ∧ (commitStation old s i).spu.ports[j].mask = s.spu.ports[j].mask
      ∧ (commitStation old s i).spu.ports[j].watermark = s.spu.ports[j].watermark
      ∧ (commitStation old s i).spu.ports[j].frameErrors = s.spu.ports[j].frameErrors
      ∧ (commitStation old s i).spu.ports[j].rx = s.spu.ports[j].rx :=
  Port.rest_items (commitStation_ports old s i j hj)

/-- `commitLoop` leaves what a port holds beside its flags and its line. -/
@[simp] theorem commitLoop_ports (s : State) (j : Nat) (hj : j < 3) :
    (commitLoop s).spu.ports[j].rest = s.spu.ports[j].rest := by
  simp [commitLoop]

/-- `commitLoop` leaves what a port holds beside its flags and its line, item by item. -/
@[simp] theorem commitLoop_port (s : State) (j : Nat) (hj : j < 3) :
    (commitLoop s).spu.ports[j].up = s.spu.ports[j].up ∧ (commitLoop s).spu.ports[j].link = s.spu.ports[j].link
      ∧ (commitLoop s).spu.ports[j].service = s.spu.ports[j].service
      ∧ (commitLoop s).spu.ports[j].queue = s.spu.ports[j].queue ∧ (commitLoop s).spu.ports[j].tail = s.spu.ports[j].tail
      ∧ (commitLoop s).spu.ports[j].mask = s.spu.ports[j].mask
      ∧ (commitLoop s).spu.ports[j].watermark = s.spu.ports[j].watermark
      ∧ (commitLoop s).spu.ports[j].frameErrors = s.spu.ports[j].frameErrors
      ∧ (commitLoop s).spu.ports[j].rx = s.spu.ports[j].rx :=
  Port.rest_items (commitLoop_ports s j hj)

/-- `commitQuiet` leaves what a port holds beside its flags and its line. -/
@[simp] theorem commitQuiet_ports (s : State) (j : Nat) (hj : j < 3) :
    (commitQuiet s).spu.ports[j].rest = s.spu.ports[j].rest := by
  unfold commitQuiet
  (repeat' (first | split | dsimp only)) <;> simp

/-- `commitQuiet` leaves what a port holds beside its flags and its line, item by item. -/
@[simp] theorem commitQuiet_port (s : State) (j : Nat) (hj : j < 3) :
    (commitQuiet s).spu.ports[j].up = s.spu.ports[j].up ∧ (commitQuiet s).spu.ports[j].link = s.spu.ports[j].link
      ∧ (commitQuiet s).spu.ports[j].service = s.spu.ports[j].service
      ∧ (commitQuiet s).spu.ports[j].queue = s.spu.ports[j].queue
      ∧ (commitQuiet s).spu.ports[j].tail = s.spu.ports[j].tail ∧ (commitQuiet s).spu.ports[j].mask = s.spu.ports[j].mask
      ∧ (commitQuiet s).spu.ports[j].watermark = s.spu.ports[j].watermark
      ∧ (commitQuiet s).spu.ports[j].frameErrors = s.spu.ports[j].frameErrors
      ∧ (commitQuiet s).spu.ports[j].rx = s.spu.ports[j].rx :=
  Port.rest_items (commitQuiet_ports s j hj)

/-- `commitHandOver` leaves what a port holds beside its flags and its line. -/
@[simp] theorem commitHandOver_ports (old : Plan) (s : State) (j : Nat) (hj : j < 3) :
    (commitHandOver old s).spu.ports[j].rest = s.spu.ports[j].rest := by
  simp [commitHandOver]

/-- `commitHandOver` leaves what a port holds beside its flags and its line, item by item. -/
@[simp] theorem commitHandOver_port (old : Plan) (s : State) (j : Nat) (hj : j < 3) :
    (commitHandOver old s).spu.ports[j].up = s.spu.ports[j].up
      ∧ (commitHandOver old s).spu.ports[j].link = s.spu.ports[j].link
      ∧ (commitHandOver old s).spu.ports[j].service = s.spu.ports[j].service
      ∧ (commitHandOver old s).spu.ports[j].queue = s.spu.ports[j].queue
      ∧ (commitHandOver old s).spu.ports[j].tail = s.spu.ports[j].tail
      ∧ (commitHandOver old s).spu.ports[j].mask = s.spu.ports[j].mask
      ∧ (commitHandOver old s).spu.ports[j].watermark = s.spu.ports[j].watermark
      ∧ (commitHandOver old s).spu.ports[j].frameErrors = s.spu.ports[j].frameErrors
      ∧ (commitHandOver old s).spu.ports[j].rx = s.spu.ports[j].rx :=
  Port.rest_items (commitHandOver_ports old s j hj)

/-- `leaveNoPlan` leaves what a port holds beside its flags and its line. -/
@[simp] theorem leaveNoPlan_ports (s : State) (j : Nat) (hj : j < 3) :
    (leaveNoPlan s).spu.ports[j].rest = s.spu.ports[j].rest := by
  simp only [leaveNoPlan]
  split <;> simp

/-- `leaveNoPlan` leaves what a port holds beside its flags and its line, item by item. -/
@[simp] theorem leaveNoPlan_port (s : State) (j : Nat) (hj : j < 3) :
    (leaveNoPlan s).spu.ports[j].up = s.spu.ports[j].up ∧ (leaveNoPlan s).spu.ports[j].link = s.spu.ports[j].link
      ∧ (leaveNoPlan s).spu.ports[j].service = s.spu.ports[j].service
      ∧ (leaveNoPlan s).spu.ports[j].queue = s.spu.ports[j].queue
      ∧ (leaveNoPlan s).spu.ports[j].tail = s.spu.ports[j].tail ∧ (leaveNoPlan s).spu.ports[j].mask = s.spu.ports[j].mask
      ∧ (leaveNoPlan s).spu.ports[j].watermark = s.spu.ports[j].watermark
      ∧ (leaveNoPlan s).spu.ports[j].frameErrors = s.spu.ports[j].frameErrors
      ∧ (leaveNoPlan s).spu.ports[j].rx = s.spu.ports[j].rx :=
  Port.rest_items (leaveNoPlan_ports s j hj)

/-- `commitPlan` leaves what a port holds beside its flags and its line. -/
@[simp] theorem commitPlan_ports (p : Fin 3) (shadow : Plan) (s : State) (j : Nat) (hj : j < 3) :
    (commitPlan p shadow s).spu.ports[j].rest = s.spu.ports[j].rest := by
  simp [commitPlan]

/-- `commitPlan` leaves what a port holds beside its flags and its line, item by item. -/
@[simp] theorem commitPlan_port (p : Fin 3) (shadow : Plan) (s : State) (j : Nat) (hj : j < 3) :
    (commitPlan p shadow s).spu.ports[j].up = s.spu.ports[j].up
      ∧ (commitPlan p shadow s).spu.ports[j].link = s.spu.ports[j].link
      ∧ (commitPlan p shadow s).spu.ports[j].service = s.spu.ports[j].service
      ∧ (commitPlan p shadow s).spu.ports[j].queue = s.spu.ports[j].queue
      ∧ (commitPlan p shadow s).spu.ports[j].tail = s.spu.ports[j].tail
      ∧ (commitPlan p shadow s).spu.ports[j].mask = s.spu.ports[j].mask
      ∧ (commitPlan p shadow s).spu.ports[j].watermark = s.spu.ports[j].watermark
      ∧ (commitPlan p shadow s).spu.ports[j].frameErrors = s.spu.ports[j].frameErrors
      ∧ (commitPlan p shadow s).spu.ports[j].rx = s.spu.ports[j].rx :=
  Port.rest_items (commitPlan_ports p shadow s j hj)

/-- `dropClaim` leaves what a port holds beside its flags and its line. -/
@[simp] theorem dropClaim_ports (s : State) (j : Nat) (hj : j < 3) :
    (dropClaim s).spu.ports[j].rest = s.spu.ports[j].rest := by
  simp [dropClaim]

/-- `dropClaim` leaves what a port holds beside its flags and its line, item by item. -/
@[simp] theorem dropClaim_port (s : State) (j : Nat) (hj : j < 3) :
    (dropClaim s).spu.ports[j].up = s.spu.ports[j].up ∧ (dropClaim s).spu.ports[j].link = s.spu.ports[j].link
      ∧ (dropClaim s).spu.ports[j].service = s.spu.ports[j].service
      ∧ (dropClaim s).spu.ports[j].queue = s.spu.ports[j].queue ∧ (dropClaim s).spu.ports[j].tail = s.spu.ports[j].tail
      ∧ (dropClaim s).spu.ports[j].mask = s.spu.ports[j].mask
      ∧ (dropClaim s).spu.ports[j].watermark = s.spu.ports[j].watermark
      ∧ (dropClaim s).spu.ports[j].frameErrors = s.spu.ports[j].frameErrors
      ∧ (dropClaim s).spu.ports[j].rx = s.spu.ports[j].rx :=
  Port.rest_items (dropClaim_ports s j hj)

/-- `setVeto` leaves what a port holds beside its flags and its line. -/
@[simp] theorem setVeto_ports (p : Fin 3) (v : Bool) (s : State) (j : Nat) (hj : j < 3) :
    (setVeto p v s).spu.ports[j].rest = s.spu.ports[j].rest := by
  simp [setVeto]

/-- `setVeto` leaves what a port holds beside its flags and its line, item by item. -/
@[simp] theorem setVeto_port (p : Fin 3) (v : Bool) (s : State) (j : Nat) (hj : j < 3) :
    (setVeto p v s).spu.ports[j].up = s.spu.ports[j].up ∧ (setVeto p v s).spu.ports[j].link = s.spu.ports[j].link
      ∧ (setVeto p v s).spu.ports[j].service = s.spu.ports[j].service
      ∧ (setVeto p v s).spu.ports[j].queue = s.spu.ports[j].queue
      ∧ (setVeto p v s).spu.ports[j].tail = s.spu.ports[j].tail ∧ (setVeto p v s).spu.ports[j].mask = s.spu.ports[j].mask
      ∧ (setVeto p v s).spu.ports[j].watermark = s.spu.ports[j].watermark
      ∧ (setVeto p v s).spu.ports[j].frameErrors = s.spu.ports[j].frameErrors
      ∧ (setVeto p v s).spu.ports[j].rx = s.spu.ports[j].rx :=
  Port.rest_items (setVeto_ports p v s j hj)

/-- `vetoEffect` leaves what a port holds beside its flags and its line. -/
@[simp] theorem vetoEffect_ports (s : State) (j : Nat) (hj : j < 3) :
    (vetoEffect s).spu.ports[j].rest = s.spu.ports[j].rest := by
  unfold vetoEffect
  (repeat' (first | split | dsimp only)) <;> simp

/-- `vetoEffect` leaves what a port holds beside its flags and its line, item by item. -/
@[simp] theorem vetoEffect_port (s : State) (j : Nat) (hj : j < 3) :
    (vetoEffect s).spu.ports[j].up = s.spu.ports[j].up ∧ (vetoEffect s).spu.ports[j].link = s.spu.ports[j].link
      ∧ (vetoEffect s).spu.ports[j].service = s.spu.ports[j].service
      ∧ (vetoEffect s).spu.ports[j].queue = s.spu.ports[j].queue ∧ (vetoEffect s).spu.ports[j].tail = s.spu.ports[j].tail
      ∧ (vetoEffect s).spu.ports[j].mask = s.spu.ports[j].mask
      ∧ (vetoEffect s).spu.ports[j].watermark = s.spu.ports[j].watermark
      ∧ (vetoEffect s).spu.ports[j].frameErrors = s.spu.ports[j].frameErrors
      ∧ (vetoEffect s).spu.ports[j].rx = s.spu.ports[j].rx :=
  Port.rest_items (vetoEffect_ports s j hj)

/-- `clearKind` leaves what a port holds beside its flags and its line. -/
@[simp] theorem clearKind_ports (s : State) (k : FaultKind) (j : Nat) (hj : j < 3) :
    (clearKind s k).spu.ports[j].rest = s.spu.ports[j].rest := by
  unfold clearKind
  (repeat' (first | split | dsimp only)) <;> simp

/-- `clearKind` leaves what a port holds beside its flags and its line, item by item. -/
@[simp] theorem clearKind_port (s : State) (k : FaultKind) (j : Nat) (hj : j < 3) :
    (clearKind s k).spu.ports[j].up = s.spu.ports[j].up ∧ (clearKind s k).spu.ports[j].link = s.spu.ports[j].link
      ∧ (clearKind s k).spu.ports[j].service = s.spu.ports[j].service
      ∧ (clearKind s k).spu.ports[j].queue = s.spu.ports[j].queue
      ∧ (clearKind s k).spu.ports[j].tail = s.spu.ports[j].tail ∧ (clearKind s k).spu.ports[j].mask = s.spu.ports[j].mask
      ∧ (clearKind s k).spu.ports[j].watermark = s.spu.ports[j].watermark
      ∧ (clearKind s k).spu.ports[j].frameErrors = s.spu.ports[j].frameErrors
      ∧ (clearKind s k).spu.ports[j].rx = s.spu.ports[j].rx :=
  Port.rest_items (clearKind_ports s k j hj)

/-- `withdrawConsent` leaves what a port holds beside its flags and its line. -/
@[simp] theorem withdrawConsent_ports (p : Fin 3) (s : State) (j : Nat) (hj : j < 3) :
    (withdrawConsent p s).spu.ports[j].rest = s.spu.ports[j].rest := by
  simp only [withdrawConsent]
  split <;> simp

/-- `withdrawConsent` leaves what a port holds beside its flags and its line, item by item. -/
@[simp] theorem withdrawConsent_port (p : Fin 3) (s : State) (j : Nat) (hj : j < 3) :
    (withdrawConsent p s).spu.ports[j].up = s.spu.ports[j].up
      ∧ (withdrawConsent p s).spu.ports[j].link = s.spu.ports[j].link
      ∧ (withdrawConsent p s).spu.ports[j].service = s.spu.ports[j].service
      ∧ (withdrawConsent p s).spu.ports[j].queue = s.spu.ports[j].queue
      ∧ (withdrawConsent p s).spu.ports[j].tail = s.spu.ports[j].tail
      ∧ (withdrawConsent p s).spu.ports[j].mask = s.spu.ports[j].mask
      ∧ (withdrawConsent p s).spu.ports[j].watermark = s.spu.ports[j].watermark
      ∧ (withdrawConsent p s).spu.ports[j].frameErrors = s.spu.ports[j].frameErrors
      ∧ (withdrawConsent p s).spu.ports[j].rx = s.spu.ports[j].rx :=
  Port.rest_items (withdrawConsent_ports p s j hj)

end Sys2Proof.Machine
end

