-- ==== Sys2Proof/Laws/Requests.lean ====
section
/-! SUPPORT. What a step, a frame at a supervisory port, and a byte at one can do; the words of the statements about requests. -/

namespace Sys2Proof.Machine

/-! ### Vectors read by a Fin -/

/-- The item set, read again. -/
@[simp] theorem vector_set_self {α : Type} {n : Nat} (v : Vector α n) (i : Fin n) (a : α) : (v.set i a)[i] = a := by
  simp [Fin.getElem_fin]

/-- An item that is not the one set. -/
theorem vector_set_other {α : Type} {n : Nat} (v : Vector α n) (i j : Fin n) (a : α) (h : i ≠ j) : (v.set i a)[j] = v[j] := by
  simp [Fin.getElem_fin, Fin.val_inj, h]

/-! ### A step -/

/-- The three things a step does: it runs the front command, lets 1 ms pass, or queues an expiry (log 1). -/
theorem step_cases {s t : State} (h : step s = .next t) :
    (∃ c rest, s.pending = c :: rest ∧ exec c { s with pending := rest } = .next t) ∨ t = elapse s
      ∨ ∃ l, t = { s with pending := l } := by
  unfold step at h
  split at h
  · next i rest hp => exact .inl ⟨i, rest, hp, h⟩
  · cases h
    unfold idle
    split
    · exact .inr (.inl rfl)
    · exact .inr (.inr ⟨_, rfl⟩)

/-! ### A frame at a port -/

/-- A valid frame is counted as too long, answered BUSY or discarded, or taken into service (R157 to R159). -/
theorem takeFrame_cases (p : Fin 3) (code : Byte) (payload : List Byte) (serve : State → State) (s : State) :
    (120 < payload.length ∧ takeFrame p code payload serve s = countFrameError p s)
      ∨ (payload.length ≤ 120 ∧ s.spu.ports[p].service.isSome = true
        ∧ takeFrame p code payload serve s = answerBusy p code (linkUp p s))
      ∨ (payload.length ≤ 120 ∧ Ready s p ∧ takeFrame p code payload serve s = serve (s.taken p code)) := by
  by_cases h : 120 < payload.length
  · exact .inl ⟨h, by simp [takeFrame, h]⟩
  · have h' : payload.length ≤ 120 := by omega
    by_cases hs : s.spu.ports[p].service.isSome = true
    · refine .inr (.inl ⟨h', hs, ?_⟩)
      simp only [Fin.getElem_fin] at hs
      simp [takeFrame, h, linkUp, State.modPort, hs]
    · have hr : Ready s p := by simpa [Ready] using hs
      refine .inr (.inr ⟨h', hr, ?_⟩)
      simp only [Ready, Fin.getElem_fin] at hr
      simp [takeFrame, h, linkUp, enterService, State.taken, State.modPort, hr]

/-- A valid frame at a free port is taken into service (R159). -/
theorem takeFrame_ready {s : State} {p : Fin 3} (h : Ready s p) (code : Byte) (payload : List Byte)
    (hl : payload.length ≤ 120) (serve : State → State) :
    takeFrame p code payload serve s = serve (s.taken p code) := by
  rcases takeFrame_cases p code payload serve s with ⟨h1, _⟩ | ⟨_, h1, _⟩ | ⟨_, _, h1⟩
  · omega
  · rw [show s.spu.ports[p].service = none from h] at h1
    cases h1
  · exact h1

/-- What a byte at a port can do: move the receiver, count a frame error, or bring a valid frame (R157). -/
theorem requestByte_cases (p : Fin 3) (s : State) (b : LineByte) :
    ∃ rx, (requestByte p s b = s.modPort p (fun q => { q with rx := rx })
      ∨ requestByte p s b = countFrameError p (s.modPort p (fun q => { q with rx := rx }))
      ∨ ∃ code payload, requestByte p s b
        = takeFrame p code payload (serveCode p code payload) (s.modPort p (fun q => { q with rx := rx }))) := by
  refine ⟨(s.spu.ports[p].rx.feedRequest b).1, ?_⟩
  unfold requestByte
  dsimp only
  split
  · exact .inl rfl
  · exact .inr (.inl rfl)
  · unfold requestFrame
    split
    · exact .inr (.inl rfl)
    · exact .inr (.inr ⟨_, _, rfl⟩)

/-- Taking a request into service leaves every block but the ports. -/
@[simp] theorem State.taken_frame (s : State) (p : Fin 3) (code : Byte) :
    (s.taken p code).siu = s.siu ∧ (s.taken p code).mev = s.mev ∧ (s.taken p code).dtu = s.dtu
      ∧ (s.taken p code).pls = s.pls ∧ (s.taken p code).ptm = s.ptm ∧ (s.taken p code).seq = s.seq
      ∧ (s.taken p code).ctk = s.ctk ∧ (s.taken p code).flc = s.flc ∧ (s.taken p code).jrn = s.jrn
      ∧ (s.taken p code).fmn = s.fmn ∧ (s.taken p code).iml = s.iml ∧ (s.taken p code).free = s.free
      ∧ (s.taken p code).pending = s.pending :=
  ⟨rfl, rfl, rfl, rfl, rfl, rfl, rfl, rfl, rfl, rfl, rfl, rfl, rfl⟩

/-- The request in service after one is taken (R159). -/
@[simp] theorem State.taken_service (s : State) (p : Fin 3) (code : Byte) :
    (s.taken p code).spu.ports[p.val].service = some code := by
  simp [State.taken]

/-- A reply joins the queue of a port with the code of its request in service (R159). -/
theorem reply_replied (p : Fin 3) (code : Byte) (status : ReplyStatus) (payload : List Byte) (u : State)
    (h : u.spu.ports[p].service = some code) : reply p status payload u = u.replied p code status payload := by
  simp only [Fin.getElem_fin] at h
  simp [reply, State.replied, State.modPort, h]

/-- A request answered at once, and nothing else (R159). -/
@[simp] theorem reply_answered (s : State) (p : Fin 3) (code : Byte) (status : ReplyStatus) (payload : List Byte) :
    reply p status payload (s.taken p code) = s.answered p code status payload :=
  reply_replied p code status payload _ (by simp)

/-- A request refused at once, and nothing else (R160). -/
@[simp] theorem refuse_answered (s : State) (p : Fin 3) (code : Byte) (status : ReplyStatus) :
    refuse p status (s.taken p code) = s.answered p code status [] := reply_answered s p code status []

/-! ### Checks that hold -/

/-- A ones'-complement sum of words stays a word (R191). -/
theorem onesAdd_le {a b : Nat} (ha : a ≤ 65535) (hb : b ≤ 65535) : onesAdd a b ≤ 65535 := by
  unfold onesAdd
  split <;> omega

/-- The check of an eight-byte frame, an order, holds (R191). -/
theorem checkHolds_order (a b c d e f : Byte) : ∃ c0 c1 : Byte,
    withCheck [a, b, c, d, e, f] = [a, b, c, d, e, f, c0, c1] ∧ checkHolds [a, b, c, d, e, f, c0, c1] = true := by
  have w : ∀ x y : Byte, halfValue x y ≤ 65535 := fun x y => by
    have := x.isLt; have := y.isLt; unfold halfValue; omega
  have k := onesAdd_le (onesAdd_le (onesAdd_le (Nat.zero_le 65535) (w a b)) (w c d)) (w e f)
  generalize hS : onesAdd (onesAdd (onesAdd 0 (halfValue a b)) (halfValue c d)) (halfValue e f) = S at k
  have e0 : onesSum ([a, b, c, d, e, f] ++ [0, 0]) = S := by
    simp only [onesSum, onesSumFrom, List.cons_append, List.nil_append, hS]
    rw [show halfValue 0 0 = 0 by decide]
    unfold onesAdd
    split <;> omega
  have e1 : ∀ x : Nat, x ≤ 65535 → halfValue (byteOf x) (byteOf (x / 256)) = x := fun x hx => by
    simp only [halfValue, byteOf, BitVec.toNat_ofNat]; omega
  refine ⟨byteOf (65535 - S), byteOf ((65535 - S) / 256), ?_, ?_⟩
  · simp only [List.cons_append, List.nil_append] at e0
    simp only [withCheck, List.cons_append, List.nil_append, e0]
    simp
  · simp only [checkHolds, onesSum, onesSumFrom, hS, beq_iff_eq]
    rw [e1 _ (by omega)]
    unfold onesAdd
    split <;> omega

end Sys2Proof.Machine
end

