-- ==== Sys2Proof/Laws/StatusKeeps.lean ====
section
/-! SUPPORT. Which operations clear no fault status. -/

namespace Sys2Proof.Machine

/-- What each step of a fold keeps, the fold keeps. -/
@[simp] theorem foldl_status {α : Type} (j : Nat) (hj : j < 12) (g : State → α → State) (hg : ∀ s a, s.fmn.status[j] = true → (g s a).fmn.status[j] = true)
    (l : List α) (s : State) (H : s.fmn.status[j] = true) : (l.foldl g s).fmn.status[j] = true := by
  induction l generalizing s with
  | nil => exact H
  | cons a l ih => exact ih _ (hg s a H)

/-- `driveFault` clears no fault status. -/
@[simp] theorem driveFault_status (s : State) (j : Nat) (hj : j < 12) (H : s.fmn.status[j] = true) :
    (driveFault s).fmn.status[j] = true := by
  simp (maxDischargeDepth := 20) (contextual := true) [driveFault, hj, H]

/-- `offerFault` clears no fault status. -/
@[simp] theorem offerFault_status (k : FaultKind) (d : Detail) (s : State) (j : Nat) (hj : j < 12)
    (H : s.fmn.status[j] = true) :
    (offerFault k d s).fmn.status[j] = true := by
  unfold offerFault
  (repeat' (first | split | dsimp only)) <;> simp (maxDischargeDepth := 20) (contextual := true) [hj, H]

/-- `setStatus` clears no fault status. -/
@[simp] theorem setStatus_status (k : FaultKind) (d : Detail) (s : State) (j : Nat) (hj : j < 12) (H : s.fmn.status[j] = true) :
    (setStatus k d s).fmn.status[j] = true := driveFault_status _ j hj (offerFault_status k d _ j hj (by simp [Vector.getElem_set, H]))

/-- `raiseOverrun` clears no fault status. -/
@[simp] theorem raiseOverrun_status (port : Option (Fin 3)) (s : State) (j : Nat) (hj : j < 12) (H : s.fmn.status[j] = true) :
    (raiseOverrun port s).fmn.status[j] = true := by
  unfold raiseOverrun
  (repeat' (first | split | dsimp only)) <;> simp (maxDischargeDepth := 20) (contextual := true) [hj, H]

/-- `post` clears no fault status. -/
@[simp] theorem post_status (b : Body) (s : State) (j : Nat) (hj : j < 12) (H : s.fmn.status[j] = true) :
    (post b s).fmn.status[j] = true := by
  simp (maxDischargeDepth := 20) (contextual := true) [post, hj, H]

/-- `raiseFault` clears no fault status. -/
@[simp] theorem raiseFault_status (k : FaultKind) (d : Detail) (s : State) (j : Nat) (hj : j < 12)
    (H : s.fmn.status[j] = true) :
    (raiseFault k d s).fmn.status[j] = true := by
  simp only [raiseFault]
  split <;> simp (maxDischargeDepth := 20) (contextual := true) [hj, H]

/-- `setCondition` clears no fault status. -/
@[simp] theorem setCondition_status (k : FaultKind) (v : Bool) (s : State) (j : Nat) (hj : j < 12)
    (H : s.fmn.status[j] = true) :
    (setCondition k v s).fmn.status[j] = true := by
  simp only [setCondition]
  split <;> simp (maxDischargeDepth := 20) (contextual := true) [hj, H]

/-- `reportTrue` clears no fault status. -/
@[simp] theorem reportTrue_status (k : FaultKind) (d : Detail) (s : State) (j : Nat) (hj : j < 12)
    (H : s.fmn.status[j] = true) :
    (reportTrue k d s).fmn.status[j] = true := by
  simp (maxDischargeDepth := 20) (contextual := true) [reportTrue, hj, H]

/-- `reportFalse` clears no fault status. -/
@[simp] theorem reportFalse_status (k : FaultKind) (s : State) (j : Nat) (hj : j < 12) (H : s.fmn.status[j] = true) :
    (reportFalse k s).fmn.status[j] = true := by
  simp (maxDischargeDepth := 20) (contextual := true) [reportFalse, hj, H]

/-- `changePoint` clears no fault status. -/
@[simp] theorem changePoint_status (p : Fin 64) (new : PointState) (c : Cause) (s : State) (j : Nat) (hj : j < 12)
    (H : s.fmn.status[j] = true) :
    (changePoint p new c s).fmn.status[j] = true := by
  simp (maxDischargeDepth := 20) (contextual := true) [changePoint, hj, H]

/-- `movePoint` clears no fault status. -/
@[simp] theorem movePoint_status (p : Fin 64) (new : PointState) (c : Cause) (s : State) (j : Nat) (hj : j < 12)
    (H : s.fmn.status[j] = true) :
    (movePoint p new c s).fmn.status[j] = true := by
  simp (maxDischargeDepth := 20) (contextual := true) [movePoint, hj, H]

/-- `wantShedBare` clears no fault status. -/
@[simp] theorem wantShedBare_status (p : Fin 64) (c : Cause) (s : State) (j : Nat) (hj : j < 12) (H : s.fmn.status[j] = true) :
    (wantShedBare p c s).fmn.status[j] = true := by
  unfold wantShedBare
  (repeat' (first | split | dsimp only)) <;> simp (maxDischargeDepth := 20) (contextual := true) [hj, H]

/-- `wantShed` clears no fault status. -/
@[simp] theorem wantShed_status (p : Fin 64) (c : Cause) (s : State) (j : Nat) (hj : j < 12) (H : s.fmn.status[j] = true) :
    (wantShed p c s).fmn.status[j] = true := by
  simp (maxDischargeDepth := 20) (contextual := true) [wantShed, hj, H]

/-- `cancelPoint` clears no fault status. -/
@[simp] theorem cancelPoint_status (p : Fin 64) (s : State) (j : Nat) (hj : j < 12) (H : s.fmn.status[j] = true) :
    (cancelPoint p s).fmn.status[j] = true := by
  simp (maxDischargeDepth := 20) (contextual := true) [cancelPoint, hj, H]

/-- `dropConsent` clears no fault status. -/
@[simp] theorem dropConsent_status (mark : ConsentMark) (s : State) (j : Nat) (hj : j < 12) (H : s.fmn.status[j] = true) :
    (dropConsent mark s).fmn.status[j] = true := by
  unfold dropConsent
  (repeat' (first | split | dsimp only)) <;> simp (maxDischargeDepth := 20) (contextual := true) [hj, H]

/-- `trackerLeaveHalted` clears no fault status. -/
@[simp] theorem trackerLeaveHalted_status (s : State) (j : Nat) (hj : j < 12) (H : s.fmn.status[j] = true) :
    (trackerLeaveHalted s).fmn.status[j] = true := by
  unfold trackerLeaveHalted
  (repeat' (first | split | dsimp only)) <;> simp (maxDischargeDepth := 20) (contextual := true) [hj, H]

/-- `trackerQuietCleared` clears no fault status. -/
@[simp] theorem trackerQuietCleared_status (s : State) (j : Nat) (hj : j < 12) (H : s.fmn.status[j] = true) :
    (trackerQuietCleared s).fmn.status[j] = true := by
  unfold trackerQuietCleared
  (repeat' (first | split | dsimp only)) <;> simp (maxDischargeDepth := 20) (contextual := true) [hj, H]

/-- `consentBackToOpen` clears no fault status. -/
@[simp] theorem consentBackToOpen_status (mark : ConsentMark) (s : State) (j : Nat) (hj : j < 12) (H : s.fmn.status[j] = true) :
    (consentBackToOpen mark s).fmn.status[j] = true := by
  simp (maxDischargeDepth := 20) (contextual := true) [consentBackToOpen, hj, H]

/-- `setSequence` clears no fault status. -/
@[simp] theorem setSequence_status (new : SeqState) (s : State) (j : Nat) (hj : j < 12) (H : s.fmn.status[j] = true) :
    (setSequence new s).fmn.status[j] = true := by
  simp (maxDischargeDepth := 20) (contextual := true) [setSequence, hj, H]

/-- `enterHalted` clears no fault status. -/
@[simp] theorem enterHalted_status (s : State) (j : Nat) (hj : j < 12) (H : s.fmn.status[j] = true) :
    (enterHalted s).fmn.status[j] = true := by
  simp (maxDischargeDepth := 20) (contextual := true) [enterHalted, hj, H]

/-- `setShedding` clears no fault status. -/
@[simp] theorem setShedding_status (s : State) (j : Nat) (hj : j < 12) (H : s.fmn.status[j] = true) :
    (setShedding s).fmn.status[j] = true := by
  simp (maxDischargeDepth := 20) (contextual := true) [setShedding, hj, H]

/-- `openEvent` clears no fault status. -/
@[simp] theorem openEvent_status (s : State) (j : Nat) (hj : j < 12) (H : s.fmn.status[j] = true) :
    (openEvent s).fmn.status[j] = true := by
  simp (maxDischargeDepth := 20) (contextual := true) [openEvent, hj, H]

/-- `releaseLine` clears no fault status. -/
@[simp] theorem releaseLine_status (l : Fin 4) (s : State) (j : Nat) (hj : j < 12) (H : s.fmn.status[j] = true) :
    (releaseLine l s).fmn.status[j] = true := by
  simp only [releaseLine]
  split <;> simp (maxDischargeDepth := 20) (contextual := true) [hj, H]

/-- `releaseLines` clears no fault status. -/
@[simp] theorem releaseLines_status (s : State) (j : Nat) (hj : j < 12) (H : s.fmn.status[j] = true) :
    (releaseLines s).fmn.status[j] = true := by
  simp (maxDischargeDepth := 20) (contextual := true) [releaseLines, hj, H]

/-- `shedStepPoint` clears no fault status. -/
@[simp] theorem shedStepPoint_status (s : State) (p : Fin 64) (j : Nat) (hj : j < 12) (H : s.fmn.status[j] = true) :
    (shedStepPoint s p).fmn.status[j] = true := by
  unfold shedStepPoint
  (repeat' (first | split | dsimp only)) <;> simp (maxDischargeDepth := 20) (contextual := true) [hj, H]

/-- `startShedStep` clears no fault status. -/
@[simp] theorem startShedStep_status (k : Nat) (s : State) (j : Nat) (hj : j < 12) (H : s.fmn.status[j] = true) :
    (startShedStep k s).fmn.status[j] = true := by
  simp (maxDischargeDepth := 20) (contextual := true) [startShedStep, hj, H]

/-- `afterShedDone` clears no fault status. -/
@[simp] theorem afterShedDone_status (k : Nat) (s : State) (j : Nat) (hj : j < 12) (H : s.fmn.status[j] = true) :
    (afterShedDone k s).fmn.status[j] = true := by
  simp only [afterShedDone]
  split <;> simp (maxDischargeDepth := 20) (contextual := true) [hj, H]

/-- `shedStepDone` clears no fault status. -/
@[simp] theorem shedStepDone_status (k : Nat) (s : State) (j : Nat) (hj : j < 12) (H : s.fmn.status[j] = true) :
    (shedStepDone k s).fmn.status[j] = true := by
  simp (maxDischargeDepth := 20) (contextual := true) [shedStepDone, hj, H]

/-- `withdrawManual` clears no fault status. -/
@[simp] theorem withdrawManual_status (s : State) (p : Fin 64) (j : Nat) (hj : j < 12) (H : s.fmn.status[j] = true) :
    (withdrawManual s p).fmn.status[j] = true := by
  unfold withdrawManual
  (repeat' (first | split | dsimp only)) <;> simp (maxDischargeDepth := 20) (contextual := true) [hj, H]

/-- `shedFromWatch` clears no fault status. -/
@[simp] theorem shedFromWatch_status (s : State) (j : Nat) (hj : j < 12) (H : s.fmn.status[j] = true) :
    (shedFromWatch s).fmn.status[j] = true := by
  simp (maxDischargeDepth := 20) (contextual := true) [shedFromWatch, hj, H]

/-- `shedFromHalted` clears no fault status. -/
@[simp] theorem shedFromHalted_status (s : State) (j : Nat) (hj : j < 12) (H : s.fmn.status[j] = true) :
    (shedFromHalted s).fmn.status[j] = true := by
  simp (maxDischargeDepth := 20) (contextual := true) [shedFromHalted, hj, H]

/-- `checkShedding` clears no fault status. -/
@[simp] theorem checkShedding_status (s : State) (j : Nat) (hj : j < 12) (H : s.fmn.status[j] = true) :
    (checkShedding s).fmn.status[j] = true := by
  unfold checkShedding
  (repeat' (first | split | dsimp only)) <;> simp (maxDischargeDepth := 20) (contextual := true) [hj, H]

/-- `closeEvent` clears no fault status. -/
@[simp] theorem closeEvent_status (s : State) (j : Nat) (hj : j < 12) (H : s.fmn.status[j] = true) :
    (closeEvent s).fmn.status[j] = true := by
  simp only [closeEvent]
  split <;> simp (maxDischargeDepth := 20) (contextual := true) [hj, H]

/-- `quietRule` clears no fault status. -/
@[simp] theorem quietRule_status (s : State) (j : Nat) (hj : j < 12) (H : s.fmn.status[j] = true) :
    (quietRule s).fmn.status[j] = true := by
  simp only [quietRule]
  split <;> simp (maxDischargeDepth := 20) (contextual := true) [hj, H]

/-- `enforce` clears no fault status. -/
@[simp] theorem enforce_status (p : Fin 64) (s : State) (j : Nat) (hj : j < 12) (H : s.fmn.status[j] = true) :
    (enforce p s).fmn.status[j] = true := by
  simp only [enforce]
  split <;> simp (maxDischargeDepth := 20) (contextual := true) [hj, H]

/-- `enforceAtStart` clears no fault status. -/
@[simp] theorem enforceAtStart_status (s : State) (p : Fin 64) (j : Nat) (hj : j < 12) (H : s.fmn.status[j] = true) :
    (enforceAtStart s p).fmn.status[j] = true := by
  simp only [enforceAtStart]
  split <;> simp (maxDischargeDepth := 20) (contextual := true) [hj, H]

/-- `startupDecision` clears no fault status. -/
@[simp] theorem startupDecision_status (s : State) (j : Nat) (hj : j < 12) (H : s.fmn.status[j] = true) :
    (startupDecision s).fmn.status[j] = true := by
  unfold startupDecision
  (repeat' (first | split | dsimp only)) <;> simp (maxDischargeDepth := 20) (contextual := true) [hj, H]

/-- `checkRound` clears no fault status. -/
@[simp] theorem checkRound_status (s : State) (j : Nat) (hj : j < 12) (H : s.fmn.status[j] = true) :
    (checkRound s).fmn.status[j] = true := by
  simp only [checkRound]
  split <;> simp (maxDischargeDepth := 20) (contextual := true) [hj, H]

/-- `placeAwait` clears no fault status. -/
@[simp] theorem placeAwait_status (p : Fin 64) (s : State) (j : Nat) (hj : j < 12) (H : s.fmn.status[j] = true) :
    (placeAwait p s).fmn.status[j] = true := by
  simp (maxDischargeDepth := 20) (contextual := true) [placeAwait, hj, H]

/-- `restartStepPoint` clears no fault status. -/
@[simp] theorem restartStepPoint_status (s : State) (p : Fin 64) (j : Nat) (hj : j < 12) (H : s.fmn.status[j] = true) :
    (restartStepPoint s p).fmn.status[j] = true := by
  unfold restartStepPoint
  (repeat' (first | split | dsimp only)) <;> simp (maxDischargeDepth := 20) (contextual := true) [hj, H]

/-- `startRestartStep` clears no fault status. -/
@[simp] theorem startRestartStep_status (k : Nat) (s : State) (j : Nat) (hj : j < 12) (H : s.fmn.status[j] = true) :
    (startRestartStep k s).fmn.status[j] = true := by
  simp (maxDischargeDepth := 20) (contextual := true) [startRestartStep, hj, H]

/-- `afterRestartDone` clears no fault status. -/
@[simp] theorem afterRestartDone_status (k : Nat) (s : State) (j : Nat) (hj : j < 12) (H : s.fmn.status[j] = true) :
    (afterRestartDone k s).fmn.status[j] = true := by
  simp only [afterRestartDone]
  split <;> simp (maxDischargeDepth := 20) (contextual := true) [hj, H]

/-- `restartStepDone` clears no fault status. -/
@[simp] theorem restartStepDone_status (k : Nat) (s : State) (j : Nat) (hj : j < 12) (H : s.fmn.status[j] = true) :
    (restartStepDone k s).fmn.status[j] = true := by
  simp (maxDischargeDepth := 20) (contextual := true) [restartStepDone, hj, H]

/-- `completeRestart` clears no fault status. -/
@[simp] theorem completeRestart_status (s : State) (j : Nat) (hj : j < 12) (H : s.fmn.status[j] = true) :
    (completeRestart s).fmn.status[j] = true := by
  simp (maxDischargeDepth := 20) (contextual := true) [completeRestart, hj, H]

/-- `beginRestart` clears no fault status. -/
@[simp] theorem beginRestart_status (s : State) (j : Nat) (hj : j < 12) (H : s.fmn.status[j] = true) :
    (beginRestart s).fmn.status[j] = true := by
  simp only [beginRestart]
  split <;> simp (maxDischargeDepth := 20) (contextual := true) [hj, H]

/-- `gatePost` clears no fault status. -/
@[simp] theorem gatePost_status (p : Fin 64) (s : State) (j : Nat) (hj : j < 12) (H : s.fmn.status[j] = true) :
    (gatePost p s).fmn.status[j] = true := by
  simp (maxDischargeDepth := 20) (contextual := true) [gatePost, hj, H]

/-- `settleFor` clears no fault status. -/
@[simp] theorem settleFor_status (n : Nat) (s : State) (j : Nat) (hj : j < 12) (H : s.fmn.status[j] = true) :
    (settleFor n s).fmn.status[j] = true := by
  refine settleFor_keeps (fun t => t.fmn.status[j] = true) ?_ n s H
  intro t t' ht h
  rcases settleOnce_cases h with h | h | h | ⟨p, h⟩ <;> rw [h] <;> simp [ht]

/-- `settle` clears no fault status. -/
@[simp] theorem settle_status (s : State) (j : Nat) (hj : j < 12) (H : s.fmn.status[j] = true) :
    (settle s).fmn.status[j] = true := by
  simp (maxDischargeDepth := 20) (contextual := true) [settle, hj, H]

/-- `cancelPendingRestore` clears no fault status. -/
@[simp] theorem cancelPendingRestore_status (s : State) (p : Fin 64) (j : Nat) (hj : j < 12) (H : s.fmn.status[j] = true) :
    (cancelPendingRestore s p).fmn.status[j] = true := by
  simp only [cancelPendingRestore]
  split <;> simp (maxDischargeDepth := 20) (contextual := true) [hj, H]

/-- `shedInFlightRestore` clears no fault status. -/
@[simp] theorem shedInFlightRestore_status (s : State) (p : Fin 64) (j : Nat) (hj : j < 12) (H : s.fmn.status[j] = true) :
    (shedInFlightRestore s p).fmn.status[j] = true := by
  simp only [shedInFlightRestore]
  split <;> simp (maxDischargeDepth := 20) (contextual := true) [hj, H]

/-- `cancelAwait` clears no fault status. -/
@[simp] theorem cancelAwait_status (s : State) (p : Fin 64) (j : Nat) (hj : j < 12) (H : s.fmn.status[j] = true) :
    (cancelAwait s p).fmn.status[j] = true := by
  simp only [cancelAwait]
  split <;> simp (maxDischargeDepth := 20) (contextual := true) [hj, H]

/-- `abortRestart` clears no fault status. -/
@[simp] theorem abortRestart_status (s : State) (j : Nat) (hj : j < 12) (H : s.fmn.status[j] = true) :
    (abortRestart s).fmn.status[j] = true := by
  simp (maxDischargeDepth := 20) (contextual := true) [abortRestart, hj, H]

/-- `vetoStop` clears no fault status. -/
@[simp] theorem vetoStop_status (s : State) (j : Nat) (hj : j < 12) (H : s.fmn.status[j] = true) :
    (vetoStop s).fmn.status[j] = true := by
  simp (maxDischargeDepth := 20) (contextual := true) [vetoStop, hj, H]

/-- `cutGrace` clears no fault status. -/
@[simp] theorem cutGrace_status (s : State) (p : Fin 64) (j : Nat) (hj : j < 12) (H : s.fmn.status[j] = true) :
    (cutGrace s p).fmn.status[j] = true := by
  simp only [cutGrace]
  split <;> simp (maxDischargeDepth := 20) (contextual := true) [hj, H]

/-- `eventAtLevel` clears no fault status. -/
@[simp] theorem eventAtLevel_status (s : State) (j : Nat) (hj : j < 12) (H : s.fmn.status[j] = true) :
    (eventAtLevel s).fmn.status[j] = true := by
  unfold eventAtLevel
  (repeat' (first | split | dsimp only)) <;> simp (maxDischargeDepth := 20) (contextual := true) [hj, H]

/-- `sequencerAtLevel` clears no fault status. -/
@[simp] theorem sequencerAtLevel_status (s : State) (j : Nat) (hj : j < 12) (H : s.fmn.status[j] = true) :
    (sequencerAtLevel s).fmn.status[j] = true := by
  unfold sequencerAtLevel
  (repeat' (first | split | dsimp only)) <;> simp (maxDischargeDepth := 20) (contextual := true) [hj, H]

/-- `clearQuiet` clears no fault status. -/
@[simp] theorem clearQuiet_status (s : State) (j : Nat) (hj : j < 12) (H : s.fmn.status[j] = true) :
    (clearQuiet s).fmn.status[j] = true := by
  simp only [clearQuiet]
  split <;> simp (maxDischargeDepth := 20) (contextual := true) [hj, H]

/-- `assertLine` clears no fault status. -/
@[simp] theorem assertLine_status (l : Fin 4) (s : State) (j : Nat) (hj : j < 12) (H : s.fmn.status[j] = true) :
    (assertLine l s).fmn.status[j] = true := by
  simp only [assertLine]
  split <;> simp (maxDischargeDepth := 20) (contextual := true) [hj, H]

/-- `assertLines` clears no fault status. -/
@[simp] theorem assertLines_status (s : State) (j : Nat) (hj : j < 12) (H : s.fmn.status[j] = true) :
    (assertLines s).fmn.status[j] = true := by
  simp (maxDischargeDepth := 20) (contextual := true) [assertLines, hj, H]

/-- `changeLevel` clears no fault status. -/
@[simp] theorem changeLevel_status (new : Level) (s : State) (j : Nat) (hj : j < 12) (H : s.fmn.status[j] = true) :
    (changeLevel new s).fmn.status[j] = true := by
  unfold changeLevel
  (repeat' (first | split | dsimp only)) <;> simp (maxDischargeDepth := 20) (contextual := true) [hj, H]

/-- `recompute` clears no fault status. -/
@[simp] theorem recompute_status (s : State) (j : Nat) (hj : j < 12) (H : s.fmn.status[j] = true) :
    (recompute s).fmn.status[j] = true := by
  unfold recompute
  (repeat' (first | split | dsimp only)) <;> simp (maxDischargeDepth := 20) (contextual := true) [hj, H]

/-- `healthyCountEdge` clears no fault status. -/
@[simp] theorem healthyCountEdge_status (h : Nat) (s : State) (j : Nat) (hj : j < 12) (H : s.fmn.status[j] = true) :
    (healthyCountEdge h s).fmn.status[j] = true := by
  unfold healthyCountEdge
  (repeat' (first | split | dsimp only)) <;> simp (maxDischargeDepth := 20) (contextual := true) [hj, H]

/-- `healthChange` clears no fault status. -/
@[simp] theorem healthChange_status (i : Fin 6) (s : State) (j : Nat) (hj : j < 12) (H : s.fmn.status[j] = true) :
    (healthChange i s).fmn.status[j] = true := by
  simp only [healthChange]
  simp (maxDischargeDepth := 20) (contextual := true) [hj, H]

/-- `setHealth` clears no fault status. -/
@[simp] theorem setHealth_status (i : Fin 6) (new : Health) (s : State) (j : Nat) (hj : j < 12) (H : s.fmn.status[j] = true) :
    (setHealth i new s).fmn.status[j] = true := by
  simp (maxDischargeDepth := 20) (contextual := true) [setHealth, hj, H]

/-- `revote` clears no fault status. -/
@[simp] theorem revote_status (i : Fin 6) (old : Level) (s : State) (j : Nat) (hj : j < 12) (H : s.fmn.status[j] = true) :
    (revote i old s).fmn.status[j] = true := by
  simp only [revote]
  split <;> simp (maxDischargeDepth := 20) (contextual := true) [hj, H]

/-- `clearWindow` clears no fault status. -/
@[simp] theorem clearWindow_status (i : Fin 6) (s : State) (j : Nat) (hj : j < 12) (H : s.fmn.status[j] = true) :
    (clearWindow i s).fmn.status[j] = true := by
  simp (maxDischargeDepth := 20) (contextual := true) [clearWindow, hj, H]

/-- `settleArrival` clears no fault status. -/
@[simp] theorem settleArrival_status (i : Fin 6) (s : State) (j : Nat) (hj : j < 12) (H : s.fmn.status[j] = true) :
    (settleArrival i s).fmn.status[j] = true := by
  unfold settleArrival
  (repeat' (first | split | dsimp only)) <;> simp (maxDischargeDepth := 20) (contextual := true) [hj, H]

/-- `enterArrival` clears no fault status. -/
@[simp] theorem enterArrival_status (i : Fin 6) (v : Nat) (s : State) (j : Nat) (hj : j < 12) (H : s.fmn.status[j] = true) :
    (enterArrival i v s).fmn.status[j] = true := by
  simp only [enterArrival]
  simp (maxDischargeDepth := 20) (contextual := true) [hj, H]

/-- `arrival` clears no fault status. -/
@[simp] theorem arrival_status (i : Fin 6) (v : Nat) (s : State) (j : Nat) (hj : j < 12) (H : s.fmn.status[j] = true) :
    (arrival i v s).fmn.status[j] = true := by
  simp (maxDischargeDepth := 20) (contextual := true) [arrival, hj, H]

/-- `takeSample` clears no fault status. -/
@[simp] theorem takeSample_status (i : Fin 6) (a : Sample) (s : State) (j : Nat) (hj : j < 12) (H : s.fmn.status[j] = true) :
    (takeSample i a s).fmn.status[j] = true := by
  simp only [takeSample]
  split <;> simp (maxDischargeDepth := 20) (contextual := true) [hj, H]

/-- `takeFillers` clears no fault status. -/
@[simp] theorem takeFillers_status (i : Fin 6) (n : Nat) (s : State) (j : Nat) (hj : j < 12) (H : s.fmn.status[j] = true) :
    (takeFillers i n s).fmn.status[j] = true := by
  induction n generalizing s with
  | zero => exact H
  | succ n ih => exact ih _ (by simp [H])

/-- `countCheckError` clears no fault status. -/
@[simp] theorem countCheckError_status (i : Fin 6) (s : State) (j : Nat) (hj : j < 12) (H : s.fmn.status[j] = true) :
    (countCheckError i s).fmn.status[j] = true := by
  simp (maxDischargeDepth := 20) (contextual := true) [countCheckError, hj, H]

/-- `newWindow` clears no fault status. -/
@[simp] theorem newWindow_status (i : Fin 6) (seq : Byte) (a : Sample) (s : State) (j : Nat) (hj : j < 12)
    (H : s.fmn.status[j] = true) :
    (newWindow i seq a s).fmn.status[j] = true := by
  simp (maxDischargeDepth := 20) (contextual := true) [newWindow, hj, H]

/-- `startSettling` clears no fault status. -/
@[simp] theorem startSettling_status (i : Fin 6) (seq : Byte) (a : Sample) (s : State) (j : Nat) (hj : j < 12)
    (H : s.fmn.status[j] = true) :
    (startSettling i seq a s).fmn.status[j] = true := by
  simp (maxDischargeDepth := 20) (contextual := true) [startSettling, hj, H]

/-- `resettle` clears no fault status. -/
@[simp] theorem resettle_status (i : Fin 6) (seq : Byte) (a : Sample) (s : State) (j : Nat) (hj : j < 12)
    (H : s.fmn.status[j] = true) :
    (resettle i seq a s).fmn.status[j] = true := by
  simp only [resettle]
  split <;> simp (maxDischargeDepth := 20) (contextual := true) [hj, H]

/-- `continueWindow` clears no fault status. -/
@[simp] theorem continueWindow_status (i : Fin 6) (seq : Byte) (a : Sample) (s : State) (j : Nat) (hj : j < 12)
    (H : s.fmn.status[j] = true) :
    (continueWindow i seq a s).fmn.status[j] = true := by
  unfold continueWindow
  (repeat' (first | split | dsimp only)) <;> simp (maxDischargeDepth := 20) (contextual := true) [hj, H]

/-- `validFrame` clears no fault status. -/
@[simp] theorem validFrame_status (i : Fin 6) (seq : Byte) (a : Sample) (s : State) (j : Nat) (hj : j < 12)
    (H : s.fmn.status[j] = true) :
    (validFrame i seq a s).fmn.status[j] = true := by
  unfold validFrame
  (repeat' (first | split | dsimp only)) <;> simp (maxDischargeDepth := 20) (contextual := true) [hj, H]

/-- `checkFrame` clears no fault status. -/
@[simp] theorem checkFrame_status (i : Fin 6) (bytes : List Byte) (bad : Bool) (s : State) (j : Nat) (hj : j < 12)
    (H : s.fmn.status[j] = true) :
    (checkFrame i bytes bad s).fmn.status[j] = true := by
  unfold checkFrame
  (repeat' (first | split | dsimp only)) <;> simp (maxDischargeDepth := 20) (contextual := true) [hj, H]

/-- `sensorByte` clears no fault status. -/
@[simp] theorem sensorByte_status (i : Fin 6) (s : State) (b : LineByte) (j : Nat) (hj : j < 12) (H : s.fmn.status[j] = true) :
    (sensorByte i s b).fmn.status[j] = true := by
  unfold sensorByte
  (repeat' (first | split | dsimp only)) <;> simp (maxDischargeDepth := 20) (contextual := true) [hj, H]

/-- `abandonFrame` clears no fault status. -/
@[simp] theorem abandonFrame_status (i : Fin 6) (s : State) (j : Nat) (hj : j < 12) (H : s.fmn.status[j] = true) :
    (abandonFrame i s).fmn.status[j] = true := by
  unfold abandonFrame
  (repeat' (first | split | dsimp only)) <;> simp (maxDischargeDepth := 20) (contextual := true) [hj, H]

/-- `gapExpiry` clears no fault status. -/
@[simp] theorem gapExpiry_status (i : Fin 6) (s : State) (j : Nat) (hj : j < 12) (H : s.fmn.status[j] = true) :
    (gapExpiry i s).fmn.status[j] = true := by
  unfold gapExpiry
  (repeat' (first | split | dsimp only)) <;> simp (maxDischargeDepth := 20) (contextual := true) [hj, H]

/-- `warnDone` clears no fault status. -/
@[simp] theorem warnDone_status (p : Fin 64) (s : State) (j : Nat) (hj : j < 12) (H : s.fmn.status[j] = true) :
    (warnDone p s).fmn.status[j] = true := by
  simp only [warnDone]
  split <;> simp (maxDischargeDepth := 20) (contextual := true) [hj, H]

/-- `restoreDone` clears no fault status. -/
@[simp] theorem restoreDone_status (p : Fin 64) (s : State) (j : Nat) (hj : j < 12) (H : s.fmn.status[j] = true) :
    (restoreDone p s).fmn.status[j] = true := by
  simp only [restoreDone]
  split <;> simp (maxDischargeDepth := 20) (contextual := true) [hj, H]

/-- `resultDone` clears no fault status. -/
@[simp] theorem resultDone_status (k : MotionKind) (p : Fin 64) (s : State) (j : Nat) (hj : j < 12)
    (H : s.fmn.status[j] = true) :
    (resultDone k p s).fmn.status[j] = true := by
  simp only [resultDone]
  split <;> simp (maxDischargeDepth := 20) (contextual := true) [hj, H]

/-- `resultNoReply` clears no fault status. -/
@[simp] theorem resultNoReply_status (k : MotionKind) (p : Fin 64) (s : State) (j : Nat) (hj : j < 12)
    (H : s.fmn.status[j] = true) :
    (resultNoReply k p s).fmn.status[j] = true := by
  simp only [resultNoReply]
  split <;> simp (maxDischargeDepth := 20) (contextual := true) [hj, H]

/-- `resultAt` clears no fault status. -/
@[simp] theorem resultAt_status (k : MotionKind) (p : Fin 64) (r : Result) (s : State) (j : Nat) (hj : j < 12)
    (H : s.fmn.status[j] = true) :
    (resultAt k p r s).fmn.status[j] = true := by
  simp only [resultAt]
  split <;> simp (maxDischargeDepth := 20) (contextual := true) [hj, H]

/-- `applyResult` clears no fault status. -/
@[simp] theorem applyResult_status (f : InFlight) (r : Result) (s : State) (j : Nat) (hj : j < 12)
    (H : s.fmn.status[j] = true) :
    (applyResult f r s).fmn.status[j] = true := by
  unfold applyResult
  (repeat' (first | split | dsimp only)) <;> simp (maxDischargeDepth := 20) (contextual := true) [hj, H]

/-- `externalChange` clears no fault status. -/
@[simp] theorem externalChange_status (p : Fin 64) (new : PointState) (s : State) (j : Nat) (hj : j < 12)
    (H : s.fmn.status[j] = true) :
    (externalChange p new s).fmn.status[j] = true := by
  simp (maxDischargeDepth := 20) (contextual := true) [externalChange, hj, H]

/-- `compareContact` clears no fault status. -/
@[simp] theorem compareContact_status (p : Fin 64) (closed : Bool) (s : State) (j : Nat) (hj : j < 12)
    (H : s.fmn.status[j] = true) :
    (compareContact p closed s).fmn.status[j] = true := by
  unfold compareContact
  (repeat' (first | split | dsimp only)) <;> simp (maxDischargeDepth := 20) (contextual := true) [hj, H]

/-- `applyLockout` clears no fault status. -/
@[simp] theorem applyLockout_status (p : Fin 64) (o : OutputStatus) (s : State) (j : Nat) (hj : j < 12)
    (H : s.fmn.status[j] = true) :
    (applyLockout p o s).fmn.status[j] = true := by
  unfold applyLockout
  (repeat' (first | split | dsimp only)) <;> simp (maxDischargeDepth := 20) (contextual := true) [hj, H]

/-- `feedbackAt` clears no fault status. -/
@[simp] theorem feedbackAt_status (o : OutputStatus) (p : Fin 64) (s : State) (j : Nat) (hj : j < 12)
    (H : s.fmn.status[j] = true) :
    (feedbackAt o p s).fmn.status[j] = true := by
  simp only [feedbackAt]
  split <;> simp (maxDischargeDepth := 20) (contextual := true) [hj, H]

/-- `feedback` clears no fault status. -/
@[simp] theorem feedback_status (st : Fin 16) (outs : Option (Vector OutputStatus 4)) (s : State) (j : Nat) (hj : j < 12)
    (H : s.fmn.status[j] = true) :
    (feedback st outs s).fmn.status[j] = true := by
  simp only [feedback]
  split <;> simp (maxDischargeDepth := 20) (contextual := true) [hj, H]

/-- `takeDeferred` clears no fault status. -/
@[simp] theorem takeDeferred_status (f : InFlight) (r : Result) (s : State) (j : Nat) (hj : j < 12)
    (H : s.fmn.status[j] = true) :
    (takeDeferred f r s).fmn.status[j] = true := by
  unfold takeDeferred
  (repeat' (first | split | dsimp only)) <;> simp (maxDischargeDepth := 20) (contextual := true) [hj, H]

/-- `rejoinGate` clears no fault status. -/
@[simp] theorem rejoinGate_status (p : Fin 64) (s : State) (j : Nat) (hj : j < 12) (H : s.fmn.status[j] = true) :
    (rejoinGate p s).fmn.status[j] = true := by
  simp only [rejoinGate]
  split <;> simp (maxDischargeDepth := 20) (contextual := true) [hj, H]

/-- `handOver` clears no fault status. -/
@[simp] theorem handOver_status (before : Vector PointEntry 64) (s : State) (p : Fin 64) (j : Nat) (hj : j < 12)
    (H : s.fmn.status[j] = true) :
    (handOver before s p).fmn.status[j] = true := by
  simp only [handOver]
  split <;> simp (maxDischargeDepth := 20) (contextual := true) [hj, H]

/-- `lampAfter` clears no fault status. -/
@[simp] theorem lampAfter_status (before : Vector PointEntry 64) (s : State) (p : Fin 64) (j : Nat) (hj : j < 12)
    (H : s.fmn.status[j] = true) :
    (lampAfter before s p).fmn.status[j] = true := by
  simp (maxDischargeDepth := 20) (contextual := true) [lampAfter, hj, H]

/-- `takeResolution` clears no fault status. -/
@[simp] theorem takeResolution_status (f : InFlight) (st : Fin 16) (r : Result) (outs : Option (Vector OutputStatus 4)) (s : State) (j : Nat) (hj : j < 12) (H : s.fmn.status[j] = true) :
    (takeResolution f st r outs s).fmn.status[j] = true := by
  simp (maxDischargeDepth := 20) (contextual := true) [takeResolution, hj, H]

/-- `unreachablePoint` clears no fault status. -/
@[simp] theorem unreachablePoint_status (s : State) (p : Fin 64) (j : Nat) (hj : j < 12) (H : s.fmn.status[j] = true) :
    (unreachablePoint s p).fmn.status[j] = true := by
  unfold unreachablePoint
  (repeat' (first | split | dsimp only)) <;> simp (maxDischargeDepth := 20) (contextual := true) [hj, H]

/-- `stationUnreachable` clears no fault status. -/
@[simp] theorem stationUnreachable_status (st : Fin 16) (s : State) (j : Nat) (hj : j < 12) (H : s.fmn.status[j] = true) :
    (stationUnreachable st s).fmn.status[j] = true := by
  simp only [stationUnreachable]
  split <;> simp (maxDischargeDepth := 20) (contextual := true) [hj, H]

/-- `checkUnreachable` clears no fault status. -/
@[simp] theorem checkUnreachable_status (cause : Option (Fin 16)) (s : State) (j : Nat) (hj : j < 12)
    (H : s.fmn.status[j] = true) :
    (checkUnreachable cause s).fmn.status[j] = true := by
  unfold checkUnreachable
  (repeat' (first | split | dsimp only)) <;> simp (maxDischargeDepth := 20) (contextual := true) [hj, H]

/-- `pollResolved` clears no fault status. -/
@[simp] theorem pollResolved_status (o : Order) (s : State) (j : Nat) (hj : j < 12) (H : s.fmn.status[j] = true) :
    (pollResolved o s).fmn.status[j] = true := by
  simp only [pollResolved]
  split <;> simp (maxDischargeDepth := 20) (contextual := true) [hj, H]

/-- `resolve` clears no fault status. -/
@[simp] theorem resolve_status (f : InFlight) (st : Fin 16) (r : Result) (outs : Option (Vector OutputStatus 4))
    (s : State) (j : Nat) (hj : j < 12) (H : s.fmn.status[j] = true) :
    (resolve f st r outs s).fmn.status[j] = true := by
  simp (maxDischargeDepth := 20) (contextual := true) [resolve, hj, H]

/-- `matchingReply` clears no fault status. -/
@[simp] theorem matchingReply_status (f : InFlight) (st : Fin 16) (r : Result) (outs : Vector OutputStatus 4)
    (s : State) (j : Nat) (hj : j < 12) (H : s.fmn.status[j] = true) :
    (matchingReply f st r outs s).fmn.status[j] = true := by
  simp (maxDischargeDepth := 20) (contextual := true) [matchingReply, hj, H]

/-- `replyFrameTaken` clears no fault status. -/
@[simp] theorem replyFrameTaken_status (src tag : Byte) (r : Result) (outs : Vector OutputStatus 4)
    (s : State) (j : Nat) (hj : j < 12) (H : s.fmn.status[j] = true) :
    (replyFrameTaken src tag r outs s).fmn.status[j] = true := by
  unfold replyFrameTaken
  (repeat' (first | split | dsimp only)) <;> simp (maxDischargeDepth := 20) (contextual := true) [hj, H]

/-- `loopFrame` clears no fault status. -/
@[simp] theorem loopFrame_status (bytes : List Byte) (bad : Bool) (s : State) (j : Nat) (hj : j < 12)
    (H : s.fmn.status[j] = true) :
    (loopFrame bytes bad s).fmn.status[j] = true := by
  unfold loopFrame
  (repeat' (first | split | dsimp only)) <;> simp (maxDischargeDepth := 20) (contextual := true) [hj, H]

/-- `loopByte` clears no fault status. -/
@[simp] theorem loopByte_status (s : State) (b : LineByte) (j : Nat) (hj : j < 12) (H : s.fmn.status[j] = true) :
    (loopByte s b).fmn.status[j] = true := by
  unfold loopByte
  (repeat' (first | split | dsimp only)) <;> simp (maxDischargeDepth := 20) (contextual := true) [hj, H]

/-- `countNoReply` clears no fault status. -/
@[simp] theorem countNoReply_status (st : Fin 16) (s : State) (j : Nat) (hj : j < 12) (H : s.fmn.status[j] = true) :
    (countNoReply st s).fmn.status[j] = true := by
  simp only [countNoReply]
  split <;> simp (maxDischargeDepth := 20) (contextual := true) [hj, H]

/-- `afterTimeout` clears no fault status. -/
@[simp] theorem afterTimeout_status (f : InFlight) (st : Fin 16) (s : State) (j : Nat) (hj : j < 12)
    (H : s.fmn.status[j] = true) :
    (afterTimeout f st s).fmn.status[j] = true := by
  simp only [afterTimeout]
  split <;> simp (maxDischargeDepth := 20) (contextual := true) [hj, H]

/-- `replyTimeout` clears no fault status. -/
@[simp] theorem replyTimeout_status (s : State) (j : Nat) (hj : j < 12) (H : s.fmn.status[j] = true) :
    (replyTimeout s).fmn.status[j] = true := by
  unfold replyTimeout
  (repeat' (first | split | dsimp only)) <;> simp (maxDischargeDepth := 20) (contextual := true) [hj, H]

/-- `graceExpiry` clears no fault status. -/
@[simp] theorem graceExpiry_status (p : Fin 64) (s : State) (j : Nat) (hj : j < 12) (H : s.fmn.status[j] = true) :
    (graceExpiry p s).fmn.status[j] = true := by
  simp only [graceExpiry]
  split <;> simp (maxDischargeDepth := 20) (contextual := true) [hj, H]

/-- `settleExpiry` clears no fault status. -/
@[simp] theorem settleExpiry_status (p : Fin 64) (s : State) (j : Nat) (hj : j < 12) (H : s.fmn.status[j] = true) :
    (settleExpiry p s).fmn.status[j] = true := by
  simp only [settleExpiry]
  split <;> simp (maxDischargeDepth := 20) (contextual := true) [hj, H]

/-- `shedWarned` clears no fault status. -/
@[simp] theorem shedWarned_status (s : State) (p : Fin 64) (j : Nat) (hj : j < 12) (H : s.fmn.status[j] = true) :
    (shedWarned s p).fmn.status[j] = true := by
  simp only [shedWarned]
  split <;> simp (maxDischargeDepth := 20) (contextual := true) [hj, H]

/-- `shedTimeout` clears no fault status. -/
@[simp] theorem shedTimeout_status (k : Nat) (s : State) (j : Nat) (hj : j < 12) (H : s.fmn.status[j] = true) :
    (shedTimeout k s).fmn.status[j] = true := by
  simp (maxDischargeDepth := 20) (contextual := true) [shedTimeout, hj, H]

/-- `failAwait` clears no fault status. -/
@[simp] theorem failAwait_status (s : State) (p : Fin 64) (j : Nat) (hj : j < 12) (H : s.fmn.status[j] = true) :
    (failAwait s p).fmn.status[j] = true := by
  simp only [failAwait]
  split <;> simp (maxDischargeDepth := 20) (contextual := true) [hj, H]

/-- `restartTimeout` clears no fault status. -/
@[simp] theorem restartTimeout_status (k : Nat) (s : State) (j : Nat) (hj : j < 12) (H : s.fmn.status[j] = true) :
    (restartTimeout k s).fmn.status[j] = true := by
  simp (maxDischargeDepth := 20) (contextual := true) [restartTimeout, hj, H]

/-- `enableStation` clears no fault status. -/
@[simp] theorem enableStation_status (s : State) (i : Fin 6) (j : Nat) (hj : j < 12) (H : s.fmn.status[j] = true) :
    (enableStation s i).fmn.status[j] = true := by
  simp only [enableStation]
  split <;> simp (maxDischargeDepth := 20) (contextual := true) [hj, H]

/-- `loadHandOver` clears no fault status. -/
@[simp] theorem loadHandOver_status (s : State) (j : Nat) (hj : j < 12) (H : s.fmn.status[j] = true) :
    (loadHandOver s).fmn.status[j] = true := by
  simp (maxDischargeDepth := 20) (contextual := true) [loadHandOver, hj, H]

/-- `beginRound` clears no fault status. -/
@[simp] theorem beginRound_status (s : State) (j : Nat) (hj : j < 12) (H : s.fmn.status[j] = true) :
    (beginRound s).fmn.status[j] = true := by
  simp (maxDischargeDepth := 20) (contextual := true) [beginRound, hj, H]

/-- `loadRecords` clears no fault status. -/
@[simp] theorem loadRecords_status (mark : PlanMark) (reason : LoadReason) (s : State) (j : Nat) (hj : j < 12)
    (H : s.fmn.status[j] = true) :
    (loadRecords mark reason s).fmn.status[j] = true := by
  simp (maxDischargeDepth := 20) (contextual := true) [loadRecords, hj, H]

/-- `loadSucceeds` clears no fault status. -/
@[simp] theorem loadSucceeds_status (p : Plan) (s : State) (j : Nat) (hj : j < 12) (H : s.fmn.status[j] = true) :
    (loadSucceeds p s).fmn.status[j] = true := by
  simp (maxDischargeDepth := 20) (contextual := true) [loadSucceeds, hj, H]

/-- `loadFails` clears no fault status. -/
@[simp] theorem loadFails_status (reason : LoadReason) (s : State) (j : Nat) (hj : j < 12) (H : s.fmn.status[j] = true) :
    (loadFails reason s).fmn.status[j] = true := by
  simp (maxDischargeDepth := 20) (contextual := true) [loadFails, hj, H]

/-- `imageLoadEnd` clears no fault status. -/
@[simp] theorem imageLoadEnd_status (image : List Byte) (s : State) (j : Nat) (hj : j < 12) (H : s.fmn.status[j] = true) :
    (imageLoadEnd image s).fmn.status[j] = true := by
  unfold imageLoadEnd
  (repeat' (first | split | dsimp only)) <;> simp (maxDischargeDepth := 20) (contextual := true) [hj, H]

/-- `saveSucceeds` clears no fault status. -/
@[simp] theorem saveSucceeds_status (f : SaveFlight) (s : State) (j : Nat) (hj : j < 12) (H : s.fmn.status[j] = true) :
    (saveSucceeds f s).fmn.status[j] = true := by
  simp (maxDischargeDepth := 20) (contextual := true) [saveSucceeds, hj, H]

/-- `saveFails` clears no fault status. -/
@[simp] theorem saveFails_status (f : SaveFlight) (s : State) (j : Nat) (hj : j < 12) (H : s.fmn.status[j] = true) :
    (saveFails f s).fmn.status[j] = true := by
  simp (maxDischargeDepth := 20) (contextual := true) [saveFails, hj, H]

/-- `leaveUse` clears no fault status. -/
@[simp] theorem leaveUse_status (p : Fin 64) (s : State) (j : Nat) (hj : j < 12) (H : s.fmn.status[j] = true) :
    (leaveUse p s).fmn.status[j] = true := by
  simp (maxDischargeDepth := 20) (contextual := true) [leaveUse, hj, H]

/-- `recheckManual` clears no fault status. -/
@[simp] theorem recheckManual_status (p : Fin 64) (s : State) (j : Nat) (hj : j < 12) (H : s.fmn.status[j] = true) :
    (recheckManual p s).fmn.status[j] = true := by
  simp only [recheckManual]
  split <;> simp (maxDischargeDepth := 20) (contextual := true) [hj, H]

/-- `commitPoint` clears no fault status. -/
@[simp] theorem commitPoint_status (old : Plan) (s : State) (p : Fin 64) (j : Nat) (hj : j < 12) (H : s.fmn.status[j] = true) :
    (commitPoint old s p).fmn.status[j] = true := by
  unfold commitPoint
  (repeat' (first | split | dsimp only)) <;> simp (maxDischargeDepth := 20) (contextual := true) [hj, H]

/-- `commitStation` clears no fault status. -/
@[simp] theorem commitStation_status (old : Plan) (s : State) (i : Fin 6) (j : Nat) (hj : j < 12) (H : s.fmn.status[j] = true) :
    (commitStation old s i).fmn.status[j] = true := by
  unfold commitStation
  (repeat' (first | split | dsimp only)) <;> simp (maxDischargeDepth := 20) (contextual := true) [hj, H]

/-- `commitLoop` clears no fault status. -/
@[simp] theorem commitLoop_status (s : State) (j : Nat) (hj : j < 12) (H : s.fmn.status[j] = true) :
    (commitLoop s).fmn.status[j] = true := by
  simp (maxDischargeDepth := 20) (contextual := true) [commitLoop, hj, H]

/-- `commitQuiet` clears no fault status. -/
@[simp] theorem commitQuiet_status (s : State) (j : Nat) (hj : j < 12) (H : s.fmn.status[j] = true) :
    (commitQuiet s).fmn.status[j] = true := by
  unfold commitQuiet
  (repeat' (first | split | dsimp only)) <;> simp (maxDischargeDepth := 20) (contextual := true) [hj, H]

/-- `commitHandOver` clears no fault status. -/
@[simp] theorem commitHandOver_status (old : Plan) (s : State) (j : Nat) (hj : j < 12) (H : s.fmn.status[j] = true) :
    (commitHandOver old s).fmn.status[j] = true := by
  simp (maxDischargeDepth := 20) (contextual := true) [commitHandOver, hj, H]

/-- `leaveNoPlan` clears no fault status. -/
@[simp] theorem leaveNoPlan_status (s : State) (j : Nat) (hj : j < 12) (H : s.fmn.status[j] = true) :
    (leaveNoPlan s).fmn.status[j] = true := by
  simp only [leaveNoPlan]
  split <;> simp (maxDischargeDepth := 20) (contextual := true) [hj, H]

/-- `commitPlan` clears no fault status. -/
@[simp] theorem commitPlan_status (p : Fin 3) (shadow : Plan) (s : State) (j : Nat) (hj : j < 12) (H : s.fmn.status[j] = true) :
    (commitPlan p shadow s).fmn.status[j] = true := by
  simp (maxDischargeDepth := 20) (contextual := true) [commitPlan, hj, H]

/-- `ownerCommit` clears no fault status. -/
@[simp] theorem ownerCommit_status (p : Fin 3) (save : Bool) (s : State) (j : Nat) (hj : j < 12) (H : s.fmn.status[j] = true) :
    (ownerCommit p save s).fmn.status[j] = true := by
  unfold ownerCommit
  (repeat' (first | split | dsimp only)) <;> simp (maxDischargeDepth := 20) (contextual := true) [hj, H]

/-- `firstConsent` clears no fault status. -/
@[simp] theorem firstConsent_status (p : Fin 3) (s : State) (j : Nat) (hj : j < 12) (H : s.fmn.status[j] = true) :
    (firstConsent p s).fmn.status[j] = true := by
  simp (maxDischargeDepth := 20) (contextual := true) [firstConsent, hj, H]

/-- `grantRestart` clears no fault status. -/
@[simp] theorem grantRestart_status (p : Fin 3) (s : State) (j : Nat) (hj : j < 12) (H : s.fmn.status[j] = true) :
    (grantRestart p s).fmn.status[j] = true := by
  simp (maxDischargeDepth := 20) (contextual := true) [grantRestart, hj, H]

/-- `ownerConsent` clears no fault status. -/
@[simp] theorem ownerConsent_status (p : Fin 3) (s : State) (j : Nat) (hj : j < 12) (H : s.fmn.status[j] = true) :
    (ownerConsent p s).fmn.status[j] = true := by
  unfold ownerConsent
  (repeat' (first | split | dsimp only)) <;> simp (maxDischargeDepth := 20) (contextual := true) [hj, H]

/-- `setVeto` clears no fault status. -/
@[simp] theorem setVeto_status (p : Fin 3) (v : Bool) (s : State) (j : Nat) (hj : j < 12) (H : s.fmn.status[j] = true) :
    (setVeto p v s).fmn.status[j] = true := by
  simp (maxDischargeDepth := 20) (contextual := true) [setVeto, hj, H]

/-- `vetoEffect` clears no fault status. -/
@[simp] theorem vetoEffect_status (s : State) (j : Nat) (hj : j < 12) (H : s.fmn.status[j] = true) :
    (vetoEffect s).fmn.status[j] = true := by
  unfold vetoEffect
  (repeat' (first | split | dsimp only)) <;> simp (maxDischargeDepth := 20) (contextual := true) [hj, H]

/-- `ownerVeto` clears no fault status. -/
@[simp] theorem ownerVeto_status (p : Fin 3) (s : State) (j : Nat) (hj : j < 12) (H : s.fmn.status[j] = true) :
    (ownerVeto p s).fmn.status[j] = true := by
  unfold ownerVeto
  (repeat' (first | split | dsimp only)) <;> simp (maxDischargeDepth := 20) (contextual := true) [hj, H]

/-- `ownerManualShed` clears no fault status. -/
@[simp] theorem ownerManualShed_status (p : Fin 3) (i : Fin 64) (s : State) (j : Nat) (hj : j < 12)
    (H : s.fmn.status[j] = true) :
    (ownerManualShed p i s).fmn.status[j] = true := by
  unfold ownerManualShed
  (repeat' (first | split | dsimp only)) <;> simp (maxDischargeDepth := 20) (contextual := true) [hj, H]

/-- `placeManual` clears no fault status. -/
@[simp] theorem placeManual_status (p : Fin 3) (i : Fin 64) (s : State) (j : Nat) (hj : j < 12) (H : s.fmn.status[j] = true) :
    (placeManual p i s).fmn.status[j] = true := by
  simp only [placeManual]
  split <;> simp (maxDischargeDepth := 20) (contextual := true) [hj, H]

/-- `ownerManualRestore` clears no fault status. -/
@[simp] theorem ownerManualRestore_status (p : Fin 3) (i : Fin 64) (s : State) (j : Nat) (hj : j < 12)
    (H : s.fmn.status[j] = true) :
    (ownerManualRestore p i s).fmn.status[j] = true := by
  unfold ownerManualRestore
  (repeat' (first | split | dsimp only)) <;> simp (maxDischargeDepth := 20) (contextual := true) [hj, H]

/-- `withdrawConsent` clears no fault status. -/
@[simp] theorem withdrawConsent_status (p : Fin 3) (s : State) (j : Nat) (hj : j < 12) (H : s.fmn.status[j] = true) :
    (withdrawConsent p s).fmn.status[j] = true := by
  simp only [withdrawConsent]
  split <;> simp (maxDischargeDepth := 20) (contextual := true) [hj, H]

/-- `portReset` clears no fault status. -/
@[simp] theorem portReset_status (p : Fin 3) (s : State) (j : Nat) (hj : j < 12) (H : s.fmn.status[j] = true) :
    (portReset p s).fmn.status[j] = true := by
  simp only [portReset]
  split <;> simp (maxDischargeDepth := 20) (contextual := true) [hj, H]

end Sys2Proof.Machine
end

