-- ==== Sys2Proof/Laws/VetoKeeps.lean ====
section
/-! SUPPORT. Which operations leave the veto flags. -/

namespace Sys2Proof.Machine

/-- A fold of steps that leave `ctk.veto` leaves it. -/
@[simp] theorem foldl_veto {α : Type} (g : State → α → State)
    (H : ∀ s a, (g s a).ctk.veto = s.ctk.veto) (l : List α) (s : State) :
    (l.foldl g s).ctk.veto = s.ctk.veto := by
  induction l generalizing s with
  | nil => rfl
  | cons a l ih => simp [ih, H]

/-- `setTracker` leaves the veto flags. -/
@[simp] theorem setTracker_veto (t : Tracker) (s : State) :
    (setTracker t s).ctk.veto = s.ctk.veto := by
  simp only [setTracker]
  split <;> simp

/-- `dropConsent` leaves the veto flags. -/
@[simp] theorem dropConsent_veto (mark : ConsentMark) (s : State) :
    (dropConsent mark s).ctk.veto = s.ctk.veto := by
  simp only [dropConsent]
  split <;> simp

/-- `trackerEnterHalted` leaves the veto flags. -/
@[simp] theorem trackerEnterHalted_veto (s : State) :
    (trackerEnterHalted s).ctk.veto = s.ctk.veto := by
  simp only [trackerEnterHalted]
  split <;> simp

/-- `trackerLeaveHalted` leaves the veto flags. -/
@[simp] theorem trackerLeaveHalted_veto (s : State) :
    (trackerLeaveHalted s).ctk.veto = s.ctk.veto := by
  simp only [trackerLeaveHalted]
  split <;> simp

/-- `trackerQuietReached` leaves the veto flags. -/
@[simp] theorem trackerQuietReached_veto (s : State) :
    (trackerQuietReached s).ctk.veto = s.ctk.veto := by
  simp only [trackerQuietReached]
  split <;> simp

/-- `trackerQuietCleared` leaves the veto flags. -/
@[simp] theorem trackerQuietCleared_veto (s : State) :
    (trackerQuietCleared s).ctk.veto = s.ctk.veto := by
  simp only [trackerQuietCleared]
  split <;> simp

/-- `consentBackToOpen` leaves the veto flags. -/
@[simp] theorem consentBackToOpen_veto (mark : ConsentMark) (s : State) :
    (consentBackToOpen mark s).ctk.veto = s.ctk.veto := by
  simp [consentBackToOpen]

/-- `enterHalted` leaves the veto flags. -/
@[simp] theorem enterHalted_veto (s : State) :
    (enterHalted s).ctk.veto = s.ctk.veto := by
  simp [enterHalted]

/-- `setShedding` leaves the veto flags. -/
@[simp] theorem setShedding_veto (s : State) :
    (setShedding s).ctk.veto = s.ctk.veto := by
  simp [setShedding]

/-- `afterShedDone` leaves the veto flags. -/
@[simp] theorem afterShedDone_veto (k : Nat) (s : State) :
    (afterShedDone k s).ctk.veto = s.ctk.veto := by
  simp only [afterShedDone]
  split <;> simp

/-- `shedStepDone` leaves the veto flags. -/
@[simp] theorem shedStepDone_veto (k : Nat) (s : State) :
    (shedStepDone k s).ctk.veto = s.ctk.veto := by
  simp [shedStepDone]

/-- `shedFromWatch` leaves the veto flags. -/
@[simp] theorem shedFromWatch_veto (s : State) :
    (shedFromWatch s).ctk.veto = s.ctk.veto := by
  simp [shedFromWatch]

/-- `shedFromHalted` leaves the veto flags. -/
@[simp] theorem shedFromHalted_veto (s : State) :
    (shedFromHalted s).ctk.veto = s.ctk.veto := by
  simp [shedFromHalted]

/-- `checkShedding` leaves the veto flags. -/
@[simp] theorem checkShedding_veto (s : State) :
    (checkShedding s).ctk.veto = s.ctk.veto := by
  unfold checkShedding
  (repeat' (first | split | dsimp only)) <;> simp

/-- `closeEvent` leaves the veto flags. -/
@[simp] theorem closeEvent_veto (s : State) :
    (closeEvent s).ctk.veto = s.ctk.veto := by
  simp only [closeEvent]
  split <;> simp

/-- `quietRule` leaves the veto flags. -/
@[simp] theorem quietRule_veto (s : State) :
    (quietRule s).ctk.veto = s.ctk.veto := by
  simp only [quietRule]
  split <;> simp

/-- `startupDecision` leaves the veto flags. -/
@[simp] theorem startupDecision_veto (s : State) :
    (startupDecision s).ctk.veto = s.ctk.veto := by
  unfold startupDecision
  (repeat' (first | split | dsimp only)) <;> simp

/-- `checkRound` leaves the veto flags. -/
@[simp] theorem checkRound_veto (s : State) :
    (checkRound s).ctk.veto = s.ctk.veto := by
  simp only [checkRound]
  split <;> simp

/-- `completeRestart` leaves the veto flags. -/
@[simp] theorem completeRestart_veto (s : State) :
    (completeRestart s).ctk.veto = s.ctk.veto := by
  simp [completeRestart]

/-- `settleFor` leaves the veto flags. -/
@[simp] theorem settleFor_veto (n : Nat) (s : State) :
    (settleFor n s).ctk.veto = s.ctk.veto := by
  refine settleFor_keeps (fun t => t.ctk.veto = s.ctk.veto) ?_ n s rfl
  intro t t' ht h
  rcases settleOnce_cases h with h | h | h | ⟨p, h⟩ <;> rw [h] <;> simpa using ht

/-- `settle` leaves the veto flags. -/
@[simp] theorem settle_veto (s : State) :
    (settle s).ctk.veto = s.ctk.veto := by
  simp [settle]

/-- `abortRestart` leaves the veto flags. -/
@[simp] theorem abortRestart_veto (s : State) :
    (abortRestart s).ctk.veto = s.ctk.veto := by
  simp [abortRestart]

/-- `vetoStop` leaves the veto flags. -/
@[simp] theorem vetoStop_veto (s : State) :
    (vetoStop s).ctk.veto = s.ctk.veto := by
  simp [vetoStop]

/-- `sequencerAtLevel` leaves the veto flags. -/
@[simp] theorem sequencerAtLevel_veto (s : State) :
    (sequencerAtLevel s).ctk.veto = s.ctk.veto := by
  unfold sequencerAtLevel
  (repeat' (first | split | dsimp only)) <;> simp

/-- `clearQuiet` leaves the veto flags. -/
@[simp] theorem clearQuiet_veto (s : State) :
    (clearQuiet s).ctk.veto = s.ctk.veto := by
  simp only [clearQuiet]
  split <;> simp

/-- `changeLevel` leaves the veto flags. -/
@[simp] theorem changeLevel_veto (new : Level) (s : State) :
    (changeLevel new s).ctk.veto = s.ctk.veto := by
  unfold changeLevel
  (repeat' (first | split | dsimp only)) <;> simp

/-- `recompute` leaves the veto flags. -/
@[simp] theorem recompute_veto (s : State) :
    (recompute s).ctk.veto = s.ctk.veto := by
  unfold recompute
  (repeat' (first | split | dsimp only)) <;> simp

/-- `healthyCountEdge` leaves the veto flags. -/
@[simp] theorem healthyCountEdge_veto (h : Nat) (s : State) :
    (healthyCountEdge h s).ctk.veto = s.ctk.veto := by
  unfold healthyCountEdge
  (repeat' (first | split | dsimp only)) <;> simp

/-- `healthChange` leaves the veto flags. -/
@[simp] theorem healthChange_veto (i : Fin 6) (s : State) :
    (healthChange i s).ctk.veto = s.ctk.veto := by
  simp only [healthChange]
  simp

/-- `setHealth` leaves the veto flags. -/
@[simp] theorem setHealth_veto (i : Fin 6) (new : Health) (s : State) :
    (setHealth i new s).ctk.veto = s.ctk.veto := by
  simp [setHealth]

/-- `revote` leaves the veto flags. -/
@[simp] theorem revote_veto (i : Fin 6) (old : Level) (s : State) :
    (revote i old s).ctk.veto = s.ctk.veto := by
  simp only [revote]
  split <;> simp

/-- `clearWindow` leaves the veto flags. -/
@[simp] theorem clearWindow_veto (i : Fin 6) (s : State) :
    (clearWindow i s).ctk.veto = s.ctk.veto := by
  simp [clearWindow]

/-- `settleArrival` leaves the veto flags. -/
@[simp] theorem settleArrival_veto (i : Fin 6) (s : State) :
    (settleArrival i s).ctk.veto = s.ctk.veto := by
  unfold settleArrival
  (repeat' (first | split | dsimp only)) <;> simp

/-- `enterArrival` leaves the veto flags. -/
@[simp] theorem enterArrival_veto (i : Fin 6) (v : Nat) (s : State) :
    (enterArrival i v s).ctk.veto = s.ctk.veto := by
  simp only [enterArrival]
  simp

/-- `arrival` leaves the veto flags. -/
@[simp] theorem arrival_veto (i : Fin 6) (v : Nat) (s : State) :
    (arrival i v s).ctk.veto = s.ctk.veto := by
  simp [arrival]

/-- `takeSample` leaves the veto flags. -/
@[simp] theorem takeSample_veto (i : Fin 6) (a : Sample) (s : State) :
    (takeSample i a s).ctk.veto = s.ctk.veto := by
  simp only [takeSample]
  split <;> simp

/-- `takeFillers` leaves the veto flags. -/
@[simp] theorem takeFillers_veto (i : Fin 6) (n : Nat) (s : State) :
    (takeFillers i n s).ctk.veto = s.ctk.veto := by
  induction n generalizing s with
  | zero => rfl
  | succ n ih => simp [takeFillers, ih]

/-- `newWindow` leaves the veto flags. -/
@[simp] theorem newWindow_veto (i : Fin 6) (seq : Byte) (a : Sample) (s : State) :
    (newWindow i seq a s).ctk.veto = s.ctk.veto := by
  simp [newWindow]

/-- `startSettling` leaves the veto flags. -/
@[simp] theorem startSettling_veto (i : Fin 6) (seq : Byte) (a : Sample) (s : State) :
    (startSettling i seq a s).ctk.veto = s.ctk.veto := by
  simp [startSettling]

/-- `resettle` leaves the veto flags. -/
@[simp] theorem resettle_veto (i : Fin 6) (seq : Byte) (a : Sample) (s : State) :
    (resettle i seq a s).ctk.veto = s.ctk.veto := by
  simp only [resettle]
  split <;> simp

/-- `continueWindow` leaves the veto flags. -/
@[simp] theorem continueWindow_veto (i : Fin 6) (seq : Byte) (a : Sample) (s : State) :
    (continueWindow i seq a s).ctk.veto = s.ctk.veto := by
  unfold continueWindow
  (repeat' (first | split | dsimp only)) <;> simp

/-- `validFrame` leaves the veto flags. -/
@[simp] theorem validFrame_veto (i : Fin 6) (seq : Byte) (a : Sample) (s : State) :
    (validFrame i seq a s).ctk.veto = s.ctk.veto := by
  simp only [validFrame]
  split <;> simp

/-- `checkFrame` leaves the veto flags. -/
@[simp] theorem checkFrame_veto (i : Fin 6) (bytes : List Byte) (bad : Bool) (s : State) :
    (checkFrame i bytes bad s).ctk.veto = s.ctk.veto := by
  unfold checkFrame
  (repeat' (first | split | dsimp only)) <;> simp

/-- `sensorByte` leaves the veto flags. -/
@[simp] theorem sensorByte_veto (i : Fin 6) (s : State) (b : LineByte) :
    (sensorByte i s b).ctk.veto = s.ctk.veto := by
  unfold sensorByte
  (repeat' (first | split | dsimp only)) <;> simp

/-- `gapExpiry` leaves the veto flags. -/
@[simp] theorem gapExpiry_veto (i : Fin 6) (s : State) :
    (gapExpiry i s).ctk.veto = s.ctk.veto := by
  unfold gapExpiry
  (repeat' (first | split | dsimp only)) <;> simp

/-- `pollResolved` leaves the veto flags. -/
@[simp] theorem pollResolved_veto (o : Order) (s : State) :
    (pollResolved o s).ctk.veto = s.ctk.veto := by
  simp only [pollResolved]
  split <;> simp

/-- `resolve` leaves the veto flags. -/
@[simp] theorem resolve_veto (f : InFlight) (st : Fin 16) (r : Result) (outs : Option (Vector OutputStatus 4)) (s : State) :
    (resolve f st r outs s).ctk.veto = s.ctk.veto := by
  simp [resolve]

/-- `matchingReply` leaves the veto flags. -/
@[simp] theorem matchingReply_veto (f : InFlight) (st : Fin 16) (r : Result) (outs : Vector OutputStatus 4) (s : State) :
    (matchingReply f st r outs s).ctk.veto = s.ctk.veto := by
  simp [matchingReply]

/-- `replyFrameTaken` leaves the veto flags. -/
@[simp] theorem replyFrameTaken_veto (src tag : Byte) (r : Result) (outs : Vector OutputStatus 4) (s : State) :
    (replyFrameTaken src tag r outs s).ctk.veto = s.ctk.veto := by
  unfold replyFrameTaken
  (repeat' (first | split | dsimp only)) <;> simp

/-- `loopFrame` leaves the veto flags. -/
@[simp] theorem loopFrame_veto (bytes : List Byte) (bad : Bool) (s : State) :
    (loopFrame bytes bad s).ctk.veto = s.ctk.veto := by
  unfold loopFrame
  (repeat' (first | split | dsimp only)) <;> simp

/-- `loopByte` leaves the veto flags. -/
@[simp] theorem loopByte_veto (s : State) (b : LineByte) :
    (loopByte s b).ctk.veto = s.ctk.veto := by
  unfold loopByte
  (repeat' (first | split | dsimp only)) <;> simp

/-- `afterTimeout` leaves the veto flags. -/
@[simp] theorem afterTimeout_veto (f : InFlight) (st : Fin 16) (s : State) :
    (afterTimeout f st s).ctk.veto = s.ctk.veto := by
  simp only [afterTimeout]
  split <;> simp

/-- `replyTimeout` leaves the veto flags. -/
@[simp] theorem replyTimeout_veto (s : State) :
    (replyTimeout s).ctk.veto = s.ctk.veto := by
  unfold replyTimeout
  (repeat' (first | split | dsimp only)) <;> simp

/-- `settleExpiry` leaves the veto flags. -/
@[simp] theorem settleExpiry_veto (p : Fin 64) (s : State) :
    (settleExpiry p s).ctk.veto = s.ctk.veto := by
  simp only [settleExpiry]
  split <;> simp

/-- `shedTimeout` leaves the veto flags. -/
@[simp] theorem shedTimeout_veto (k : Nat) (s : State) :
    (shedTimeout k s).ctk.veto = s.ctk.veto := by
  simp [shedTimeout]

/-- `restartTimeout` leaves the veto flags. -/
@[simp] theorem restartTimeout_veto (k : Nat) (s : State) :
    (restartTimeout k s).ctk.veto = s.ctk.veto := by
  simp [restartTimeout]

/-- `enableStation` leaves the veto flags. -/
@[simp] theorem enableStation_veto (s : State) (i : Fin 6) :
    (enableStation s i).ctk.veto = s.ctk.veto := by
  simp only [enableStation]
  split <;> simp

/-- `loadHandOver` leaves the veto flags. -/
@[simp] theorem loadHandOver_veto (s : State) :
    (loadHandOver s).ctk.veto = s.ctk.veto := by
  simp [loadHandOver]

/-- `beginRound` leaves the veto flags. -/
@[simp] theorem beginRound_veto (s : State) :
    (beginRound s).ctk.veto = s.ctk.veto := by
  simp [beginRound]

/-- `loadSucceeds` leaves the veto flags. -/
@[simp] theorem loadSucceeds_veto (p : Plan) (s : State) :
    (loadSucceeds p s).ctk.veto = s.ctk.veto := by
  simp [loadSucceeds]

/-- `loadFails` leaves the veto flags. -/
@[simp] theorem loadFails_veto (reason : LoadReason) (s : State) :
    (loadFails reason s).ctk.veto = s.ctk.veto := by
  simp [loadFails]

/-- `imageLoadEnd` leaves the veto flags. -/
@[simp] theorem imageLoadEnd_veto (image : List Byte) (s : State) :
    (imageLoadEnd image s).ctk.veto = s.ctk.veto := by
  unfold imageLoadEnd
  (repeat' (first | split | dsimp only)) <;> simp

/-- `commitStation` leaves the veto flags. -/
@[simp] theorem commitStation_veto (old : Plan) (s : State) (i : Fin 6) :
    (commitStation old s i).ctk.veto = s.ctk.veto := by
  simp only [commitStation]
  split <;> simp

/-- `commitQuiet` leaves the veto flags. -/
@[simp] theorem commitQuiet_veto (s : State) :
    (commitQuiet s).ctk.veto = s.ctk.veto := by
  unfold commitQuiet
  (repeat' (first | split | dsimp only)) <;> simp

/-- `commitHandOver` leaves the veto flags. -/
@[simp] theorem commitHandOver_veto (old : Plan) (s : State) :
    (commitHandOver old s).ctk.veto = s.ctk.veto := by
  simp [commitHandOver]

/-- `leaveNoPlan` leaves the veto flags. -/
@[simp] theorem leaveNoPlan_veto (s : State) :
    (leaveNoPlan s).ctk.veto = s.ctk.veto := by
  simp only [leaveNoPlan]
  split <;> simp

/-- `commitPlan` leaves the veto flags. -/
@[simp] theorem commitPlan_veto (p : Fin 3) (shadow : Plan) (s : State) :
    (commitPlan p shadow s).ctk.veto = s.ctk.veto := by
  simp [commitPlan]

/-- `ownerCommit` leaves the veto flags. -/
@[simp] theorem ownerCommit_veto (p : Fin 3) (save : Bool) (s : State) :
    (ownerCommit p save s).ctk.veto = s.ctk.veto := by
  unfold ownerCommit
  (repeat' (first | split | dsimp only)) <;> simp

/-- `firstConsent` leaves the veto flags. -/
@[simp] theorem firstConsent_veto (p : Fin 3) (s : State) :
    (firstConsent p s).ctk.veto = s.ctk.veto := by
  simp [firstConsent]

/-- `grantRestart` leaves the veto flags. -/
@[simp] theorem grantRestart_veto (p : Fin 3) (s : State) :
    (grantRestart p s).ctk.veto = s.ctk.veto := by
  simp [grantRestart]

/-- `ownerConsent` leaves the veto flags. -/
@[simp] theorem ownerConsent_veto (p : Fin 3) (s : State) :
    (ownerConsent p s).ctk.veto = s.ctk.veto := by
  unfold ownerConsent
  (repeat' (first | split | dsimp only)) <;> simp

/-- `vetoEffect` leaves the veto flags. -/
@[simp] theorem vetoEffect_veto (s : State) :
    (vetoEffect s).ctk.veto = s.ctk.veto := by
  unfold vetoEffect
  (repeat' (first | split | dsimp only)) <;> simp

/-- `placeManual` leaves the veto flags. -/
@[simp] theorem placeManual_veto (p : Fin 3) (i : Fin 64) (s : State) :
    (placeManual p i s).ctk.veto = s.ctk.veto := by
  simp only [placeManual]
  split <;> simp

/-- `ownerManualRestore` leaves the veto flags. -/
@[simp] theorem ownerManualRestore_veto (p : Fin 3) (i : Fin 64) (s : State) :
    (ownerManualRestore p i s).ctk.veto = s.ctk.veto := by
  unfold ownerManualRestore
  (repeat' (first | split | dsimp only)) <;> simp

/-- `withdrawConsent` leaves the veto flags. -/
@[simp] theorem withdrawConsent_veto (p : Fin 3) (s : State) :
    (withdrawConsent p s).ctk.veto = s.ctk.veto := by
  simp only [withdrawConsent]
  split <;> simp

/-- `portReset` leaves the veto flags. -/
@[simp] theorem portReset_veto (p : Fin 3) (s : State) :
    (portReset p s).ctk.veto = s.ctk.veto := by
  simp only [portReset]
  split <;> simp

end Sys2Proof.Machine
end

