-- ==== Sys2Proof/Tests/Slice0.lean ====
section
/-! SUPPORT. Tests: ill-formed commands that the check refuses, the spec's worked values, single steps, and, for every statement with
hypotheses, a state and operands that meet them. -/

namespace Sys2Proof.Tests

open Sys2Proof.Machine

set_option maxRecDepth 100000

/-! ### Small states -/

/-- Bytes that came with no stop-bit error. -/
def clean (bytes : List Byte) : List LineByte := bytes.map (fun b => ⟨b, false⟩)

/-- A part in WATCH with the factory plan, its load ended. -/
def quietPart : State :=
  { State.reset with iml.link := .idle, seq.state := .watch, seq.phase := .polling }

/-- A plan that passes validation: P0 in use, shed by H0 and restored by K0. -/
def smallPlan : Plan :=
  { Plan.factory with
    points := Plan.factory.points.set 0 ⟨true, .warnThenOpen, 30, 4, 2⟩
    shed := Plan.factory.shed.set 0 ⟨[0], .tremor, .points, 0, 60⟩
    restart := Plan.factory.restart.set 0 ⟨[0], .points, 0, 60, false⟩ }

/-- The quiet part with the small plan, P0 in a given state with a given entry in its motion slot. -/
def pointPart (st : PointState) (slot : MotionSlot) : State :=
  { quietPart with
    pls.active := smallPlan
    ptm.points := quietPart.ptm.points.set 0 { PointEntry.start with state := st, grace := some 0, settle := some 0 }
    flc.motion := quietPart.flc.motion.set 0 slot }

/-- The quiet part with SS0 in a given health state, its gap timer running, and H as it should be. -/
def stationPart (h : Health) : State :=
  { quietPart with
    siu := quietPart.siu.set 0 { Channel.start with health := h, gap := some 0, lastSeq := some 250 }
    mev.healthy := if h = .healthy then 1 else 0 }

/-- The quiet part with a collecting receiver on each kind of link. -/
def collectPart : State :=
  { quietPart with
    siu := quietPart.siu.set 0 { Channel.start with health := .offline, rx := .collect [0xc3] false }
    flc.rx := .collect [0x5b] false
    spu.ports := quietPart.spu.ports.set 0 { Port.start with rx := .collect [0x3c] false, up := true, link := some 0 } }

/-- The quiet part with an order in flight whose frame is out (`sending`) or whose reply timer has run out. -/
def loopPart (o : Order) (sending : Bool) : State :=
  { pointPart .opening (.inFlight .shed) with
    flc.inFlight := some ⟨o, 1, 7, if sending then none else some 0, false⟩
    flc.tx := if sending then some (orderFrame o 7) else none }

/-- The part halted with the tracker in a given state, SP0 holding its consent in ONE. -/
def haltedPart (t : Tracker) : State :=
  { quietPart with
    seq.state := .halted
    ctk := { quietPart.ctk with
      state := t
      held := if t = .one then some 0 else none
      window := if t = .one then some 0 else none } }

/-- The quiet part with the small plan, H0 running in SHEDDING toward a target. -/
def sheddingPart (target : Nat) : State :=
  { pointPart .warned .empty with
    seq := { quietPart.seq with
      state := .shedding, target := target, eventOpen := true, shedDelay := some 0, shedTimeout := some 0
      shedStatus := quietPart.seq.shedStatus.set 0 .running } }

/-- The quiet part with the small plan, K0 running in RESTARTING. -/
def restartingPart : State :=
  { pointPart .await .empty with
    seq := { quietPart.seq with
      state := .restarting, eventOpen := true, depth := 1, restartDelay := some 0, restartTimeout := some 0
      restartStatus := quietPart.seq.restartStatus.set 0 .running } }

/-- The small plan with P1 in use as well, shed by H1 and restored by K0, which requires the button. -/
def twoPlan : Plan :=
  { smallPlan with
    points := smallPlan.points.set 1 ⟨true, .openOnly, 0, 3, 0⟩
    shed := smallPlan.shed.set 1 ⟨[1], .severe, .points, 0, 60⟩
    restart := smallPlan.restart.set 0 ⟨[0, 1], .points, 0, 60, true⟩ }

/-- The part in a sequence state with the two-point plan, P1 in a given state with a given entry in its motion slot, and a poll in
flight. -/
def twoPart (q : SeqState) (st : PointState) (slot : MotionSlot) : State :=
  { quietPart with
    pls.active := twoPlan
    seq := { restartingPart.seq with state := q, target := 2 }
    ptm.points := (pointPart .shed .empty).ptm.points.set 1 { PointEntry.start with state := st, cause := .feedback, manual := q == .watch }
    flc := { quietPart.flc with motion := quietPart.flc.motion.set 1 slot, inFlight := some ⟨.poll 0, 1, 0, none, false⟩ } }

/-- A part restarting with the RESTORE of P0 in flight and a command waiting. -/
def plantPart : State :=
  { pointPart .closing (.inFlight .restore) with
    ptm.inrush := 4
    seq := { restartingPart.seq with target := 1 }
    flc.inFlight := some ⟨.motion .restore 0, 1, 7, some 0, false⟩
    pending := [.status 0 []] }

/-- The quiet part with a claim of SP0 whose shadow is given. -/
def claimPart (shadow : Plan) : State := { quietPart with pls.claim := some ⟨0, shadow⟩ }

/-- The quiet part with a save of SP0 in flight. -/
def savingPart (owed : Bool) : State :=
  { quietPart with
    iml.link := .saving
    iml.save := some ⟨0, smallPlan, owed, []⟩
    spu.ports := quietPart.spu.ports.set 0 { Port.start with service := some 0x15 } }

/-! ### The check on operands refuses -/

theorem test_wf_image : (Instr.imageLoadEnd (List.replicate 8193 0)).wf = false := by decide
theorem test_wf_image_whole : (Instr.imageLoadEnd (List.replicate 8192 0)).wf = true := by decide
theorem test_wf_sensor : (Instr.sensorFrame 0 []).wf = false ∧ (Instr.sensorFrame 0 (clean (List.replicate 13 0))).wf = false := by
  decide
theorem test_wf_loop : (Instr.loopReplyFrame []).wf = false ∧ (Instr.loopReplyFrame (clean (List.replicate 11 0))).wf = false := by
  decide
theorem test_wf_request :
    (Instr.requestFrameInvalid 0 []).wf = false ∧ (Instr.requestFrameInvalid 0 (clean (List.replicate 126 0))).wf = false := by decide
theorem test_wf_payload : (Instr.status 0 (List.replicate 121 0)).wf = false ∧ (Instr.save 2 (List.replicate 121 0)).wf = false
    ∧ (Instr.requestWhileBusy 1 0x40 (List.replicate 121 0)).wf = false := by decide
theorem test_wf_unknown : (Instr.unknownRequest 0 0x14 []).wf = false ∧ (Instr.unknownRequest 0 0x40 []).wf = true := by decide

/-! ### The spec's worked values -/

/-- f11, worked check: the frame of SS2 carries 8Eh, FDh. -/
theorem test_worked_check :
    withCheck [0xc3, 0x02, 0x11, 0x00, 0x50, 0xfb, 0x20, 0x03, 0x2c, 0x01]
      = [0xc3, 0x02, 0x11, 0x00, 0x50, 0xfb, 0x20, 0x03, 0x2c, 0x01, 0x8e, 0xfd] := by decide

/-- f11, worked check: the STATIONS block of the factory defaults. -/
theorem test_worked_block_check : blockCheck (Plan.factory.stations.toList.flatMap StationRec.bytes) = 0x7e := by decide

/-- f11: an odd frame puts the high check byte first, and its check holds (R191). -/
theorem test_odd_check : checkHolds (withCheck [0x3c, 0x00, 0x02]) = true ∧ withCheck [0x3c, 0x00, 0x02] = [0x3c, 0, 2, 0xff, 0xc1] := by
  decide

/-- Chapter 2: the sample of SS2, and the one after it. -/
theorem test_worked_sample : shaking ⟨-1200, 800, 300⟩ = 1600 ∧ excess 1600 40 = 1560
    ∧ axisOf 0x50 0xfb = -1200 ∧ (Sample.clamp ⟨5200, 0, -150⟩) = ⟨4000, 0, -150⟩ ∧ shaking ⟨4000, 0, -150⟩ = 4000
    ∧ shaking ⟨4000, -4000, 0⟩ = 6000 := by decide

/-- Chapter 2: the window of SS2 takes the two samples. -/
theorem test_worked_window :
    let e : StationEval := ⟨400 :: 410 :: List.replicate 98 0, 48000, 4800, .tremor, 3, 0, 0⟩
    let f := (e.enter false 1560).evaluate Params.factory
    f.sum = 49160 ∧ f.index = 4916 ∧ f.level = .strong ∧ f.fallHold = 0
      ∧ ((f.enter false 3960).evaluate Params.factory).sum = 52710 ∧ ((f.enter false 3960).evaluate Params.factory).index = 5271
      ∧ ((f.enter false 3960).evaluate Params.factory).level = .strong := by decide

/-- Chapter 2: a station that falls back. -/
theorem test_worked_fall :
    let e (i n : Nat) (l : Level) : StationEval := StationEval.evaluate Params.factory ⟨[], 0, i, l, n, 0, 0⟩
    (e 2210 0 .strong).fallHold = 1 ∧ (e 2260 20 .strong).fallHold = 0 ∧ (e 310 199 .strong).level = .tremor
      ∧ (e 310 199 .strong).fallHold = 0 ∧ (e 305 0 .tremor).fallHold = 1 ∧ (e 118 199 .tremor).level = .quiet := by decide

/-- Chapter 2: the table of votes. -/
theorem test_worked_votes : vote 2 [.severe, .strong, .tremor, .quiet] = .strong ∧ vote 3 [.severe, .strong, .tremor, .quiet] = .tremor
    ∧ vote 2 [.severe, .quiet] = .quiet ∧ vote 2 [.severe] = .severe ∧ vote 1 [.strong, .strong, .strong] = .strong := by decide

/-- R7: the examples of the gap. -/
theorem test_worked_gaps : gapOf 250 251 = 0 ∧ gapOf 250 254 = 3 ∧ gapOf 250 0 = 5 ∧ gapOf 250 249 = 254 := by decide

/-- R91: the examples of the choice. -/
theorem test_worked_choices :
    let m (l : List (Fin 64 × MotionKind)) : Flc :=
      { Flc.start with motion := l.foldl (fun v x => v.set x.1 (.pending x.2)) Flc.start.motion }
    { m [(40, .restore)] with lamps := Flc.start.lamps.set 3 (some .on), polls := Flc.start.polls.set 1 true }.nextOrder
        = some (.motion .restore 40)
      ∧ (m [(9, .warn), (30, .shed), (12, .shed)]).nextOrder = some (.motion .shed 12)
      ∧ { m [] with lamps := (Flc.start.lamps.set 20 (some .on)).set 7 (some .on), polls := Flc.start.polls.set 0 true }.nextOrder
        = some (.lamp .on 7)
      ∧ { m [] with polls := (Flc.start.polls.set 8 true).set 3 true }.nextOrder = some (.poll 3)
      ∧ { m [(0, .shed)] with broadcast := true }.nextOrder = some .tripAll := by decide

/-- R116: the depths of the chain of section 6.6, and its chain length. -/
theorem test_worked_depths :
    let p : Plan := { Plan.factory with
      shed := (((Plan.factory.shed.set 0 ⟨[40, 41], .tremor, .points, 0, 20⟩).set 1 ⟨[8, 9], .strong, .timer, 5, 30⟩).set 2
        ⟨[12, 13], .strong, .points, 0, 30⟩).set 3 ⟨[16], .severe, .points, 0, 30⟩ }
    p.depth .quiet = 0 ∧ p.depth .tremor = 1 ∧ p.depth .strong = 3 ∧ p.depth .severe = 4 ∧ p.shedLen = 4 := by decide

/-- The image of the small plan comes back from the store. -/
theorem test_image : smallPlan.validate = none ∧ loadImage smallPlan.image = .ok smallPlan := by decide

/-- Chapter 3: the shadow that fails three times, then passes (R55). -/
theorem test_worked_validation :
    let used : PointRec := ⟨true, .openOnly, 0, 40, 0⟩
    let first : Plan := { Plan.factory with
      params := { Params.factory with inrushBudget := 100 }
      points := ([1, 4, 5, 8] : List (Fin 64)).foldl (fun (v : Vector PointRec 64) (i : Fin 64) => v.set i used) (Plan.factory.points.set 0 used)
      shed := ((Plan.factory.shed.set 0 ⟨[0, 1], .tremor, .points, 0, 30⟩).set 1 ⟨[4, 5], .strong, .timer, 45, 40⟩).set 3
        ⟨[8], .strong, .points, 0, 60⟩
      restart := (Plan.factory.restart.set 0 ⟨[8], .points, 0, 120, false⟩).set 1 ⟨[4, 5], .points, 0, 120, false⟩ }
    let second : Plan := { first with shed := first.shed.set 2 ⟨[2], .strong, .points, 0, 30⟩ }
    let third : Plan := { second with points := second.points.set 2 used }
    first.validate = some ⟨4, 1, 3⟩ ∧ second.validate = some ⟨6, 1, 2⟩ ∧ third.validate = some ⟨8, 1, 1⟩
      ∧ { third with shed := third.shed.set 1 ⟨[4, 5], .strong, .timer, 45, 60⟩ }.validate = none
      ∧ { third with shed := third.shed.set 1 ⟨[4, 4], .strong, .timer, 1, 60⟩ }.validate = some ⟨7, 1, 4⟩ := by decide

/-- R184: the reasons of failed loads. -/
theorem test_load_reasons : loadImage [] = .error .noDevice ∧ loadImage [0x00, 0x51, 0x00] = .error .badSignature
    ∧ loadImage [0x54, 0x51, 0x00] = .error .missingBlock ∧ loadImage [0x54, 0x51] = .error .noDevice
    ∧ loadImage [0x54, 0x51, 0x01, 0x00, 0x00, 0x00] = .error .badStructure
    ∧ loadImage [0x54, 0x51, 0x09, 0x01, 0x00, 0x00, 0x55, 0x00] = .error .missingBlock := by decide

/-- R184: checks 5, 6 and 8, and a content that does not fill its size. -/
theorem test_load_reasons_blocks :
    let stations := Plan.factory.stations.toList.flatMap StationRec.bytes
    loadImage ([0x54, 0x51, 2, 12, 0, 0x7f] ++ stations) = .error .badChecksum
      ∧ loadImage ([0x54, 0x51] ++ blockBytes 2 stations ++ blockBytes 2 stations) = .error .missingBlock
      ∧ loadImage ([0x54, 0x51] ++ blockBytes 2 (stations ++ [0])) = .error .badStructure
      ∧ loadImage [0x54, 0x51, 2, 12, 0, 0x7e, 1] = .error .noDevice ∧ loadImage Plan.factory.image = .error .invalidPlan := by decide

/-- R189: the first page of a save begins at offset 2, the next ones on page bounds. -/
theorem test_save_pages : (pagesFrom 10 2 30 (List.replicate 70 1)).map (fun w => (w.offset, w.bytes.length))
    = [(2, 30), (32, 32), (64, 8)] := by decide

/-- R189: the writes of a save, applied to a blank store, leave the image of the plan at its front. -/
theorem test_save_writes :
    (saveWrites smallPlan).foldl StoreWrite.applied (List.replicate 2100 0xff)
      = smallPlan.image ++ List.replicate (2100 - smallPlan.image.length) 0xff := by decide

/-! ### Single steps -/

/-- A load that fails leaves the part in NO_PLAN with its records. -/
theorem test_load_failed : ∃ t, exec (.imageLoadEnd []) State.reset = .next t ∧ t.seq.state = .noPlan
    ∧ t.jrn.ring.map Record.body
      = [.reset .cold 0, .plan none 0 .loadFailed .noDevice, .station 0 .disabled .offline, .station 1 .disabled .offline,
        .station 2 .disabled .offline, .station 3 .disabled .offline, .station 4 .disabled .offline,
        .station 5 .disabled .offline, .sequence .startup .noPlan 0, .fault .noPlan .none]
    ∧ t.fmn.line = true ∧ t.fmn.pointer = some .noPlan := ⟨_, rfl, by decide⟩

/-- A frame of an OFFLINE station starts it settling. -/
theorem test_first_frame : ∃ t, exec (.sensorFrame 0 (clean (withCheck [0xc3, 0, 5, 0, 0xe8, 3, 0, 0, 0, 0]))) (stationPart .offline)
      = .next t ∧ t.siu[(0 : Fin 6)].health = .settling ∧ t.siu[(0 : Fin 6)].settle = 1 ∧ t.siu[(0 : Fin 6)].lastExcess = 980
    ∧ t.mev.evals[(0 : Fin 6)].window = [980] := ⟨_, rfl, by decide⟩

/-- A sample that opens an event leaves its shaking value as the peak (R26, R27). -/
theorem test_peak_of_opening_sample :
    let s : State := { stationPart .healthy with pls.active := { smallPlan with params := { smallPlan.params with t1 := 10 } } }
    ∃ t, exec (.sensorFrame 0 (clean (withCheck [0xc3, 0, 251, 0, 0xe8, 3, 0, 0, 0, 0]))) s = .next t ∧ t.seq.eventOpen = true
      ∧ t.mev.evals[(0 : Fin 6)].peakShaking = 1000 ∧ t.mev.evals[(0 : Fin 6)].peakIndex = 98 := ⟨_, rfl, by decide⟩

/-- Peaks rise before the first event, stand after a close, and the sample that opens the next event counts in it (R26, R27; log 48). -/
theorem test_peaks_stand_after_close :
    let frame : List LineByte := clean (withCheck [0xc3, 0, 251, 0, 0xe8, 3, 0, 0, 0, 0])
    let closed : State := closeEvent { stationPart .healthy with seq.eventOpen := true }
    let ready : State := { closed with pls.active := { smallPlan with params := { smallPlan.params with t1 := 10 } } }
    let peaks (t : State) : Nat × Nat × Nat :=
      (t.mev.evals[(0 : Fin 6)].peakShaking, t.mev.evals[(0 : Fin 6)].peakIndex, t.mev.peakHealthy)
    (∃ t, exec (.sensorFrame 0 frame) (stationPart .healthy) = .next t ∧ peaks t = (1000, 98, 98))
      ∧ closed.mev.peaksStand = true
      ∧ (∃ t, exec (.sensorFrame 0 frame) closed = .next t ∧ peaks t = (0, 0, 0) ∧ t.mev.evals[(0 : Fin 6)].index = 98)
      ∧ ∃ t, exec (.sensorFrame 0 frame) ready = .next t ∧ t.seq.eventOpen = true ∧ t.mev.peaksStand = false
        ∧ peaks t = (1000, 98, 98) :=
  ⟨⟨_, rfl, by decide⟩, by decide, ⟨_, rfl, by decide⟩, ⟨_, rfl, by decide⟩⟩

/-- After a warm reset with a full ring, the PLAN record follows the RESET record at once, before the overrun (R172). -/
theorem test_load_records_full :
    let j : Journal := ⟨List.replicate 128 ⟨0, .veto 0 true⟩, #v[128, 0, 0], #v[0, 0, 0], 9⟩
    ((loadRecords .loadFailed .noDevice { State.reset with jrn := j }).jrn.ring.drop 125).map Record.body
      = [.reset .cold 0, .plan none 0 .loadFailed .noDevice, .fault .journalOverrun (.port 0)] := by decide

/-- A STATUS request of the quiet part is answered with 22 bytes and its code. -/
theorem test_status : ∃ t r, exec (.status 1 []) quietPart = .next t ∧ t.spu.ports[(1 : Fin 3)].queue = [r] ∧ r.code = 1
    ∧ r.payload.length = 22 ∧ r.payload.take 6 = [0, 0, 0, 0, 2, 0] := ⟨_, _, rfl, rfl, by decide⟩

/-- IDENT's reply on the line. -/
theorem test_ident_frame : replyFrame ⟨2, .ok, quietPart.identBytes, false⟩
    = withCheck [0x3d, 7, 2, 0, 0x17, 0x5a, 0x40, 0x06, 0x43, 0, 0] := by decide

/-- A manual shed of P0 makes it OPENING and puts the SHED on the loop. -/
theorem test_manual_shed : ∃ t, exec (.manualShed 0 [0]) (pointPart .energised .empty) = .next t
    ∧ t.pointState 0 = .opening ∧ t.flc.tx = some (withCheck [0x5a, 1, 0, 2, 0, 0]) := ⟨_, rfl, by decide⟩

/-- A second consent from another port starts the restart, and the gate posts the RESTORE of P0. -/
theorem test_grant : ∃ t, exec (.consent 1 []) { haltedPart .one with pls.active := smallPlan, ptm := (pointPart .shed .empty).ptm }
      = .next t ∧ t.seq.state = .restarting ∧ t.ctk.state = .inactive ∧ t.ctk.held = none ∧ t.pointState 0 = .closing
    ∧ t.ptm.inrush = 4 ∧ t.flc.tx = some (withCheck [0x5a, 1, 0, 4, 0, 0]) := ⟨_, rfl, by decide⟩

/-- A matching SHED reply makes the point SHED and frees its slot. -/
theorem test_reply : ∃ t, exec (.loopReplyFrame (clean (withCheck [0x5b, 1, 7, 0, 0, 0, 0, 0]))) (loopPart (.motion .shed 0) false)
      = .next t ∧ t.pointState 0 = .shed ∧ t.flc.motion[(0 : Fin 64)] = .empty ∧ t.flc.inFlight = none
    ∧ t.flc.reach[(0 : Fin 16)] = .reachable := ⟨_, rfl, by decide⟩

/-! ### The hypotheses of the statements are met -/

theorem test_hyp_StepRunsFrontCommandOrIdles :
    (State.reset.pending = [] ∧ State.reset.dueExpiries = [])
      ∧ (stationPart .lost).pending = [] ∧ (stationPart .lost).dueExpiries = [.gapTimerExpiry 0] := by decide

/-- Quiet reached, the blind timer and a reply timer fall due (log 1). -/
theorem test_due :
    ({ stationPart .healthy with mev.quiet := 600000, siu := quietPart.siu }).dueExpiries = [.quietReached]
      ∧ ({ quietPart with mev.blindTimer := some 2000 }).dueExpiries = [.blindTimerExpiry]
      ∧ (loopPart (.poll 0) false).dueExpiries = [.replyTimeout, .graceTimerExpiry 0, .settleTimerExpiry 0]
      ∧ ({ quietPart with mev.blindTimer := some 1999 }).dueExpiries = [] := by decide

/-- A part that keeps the invariants, with a command waiting that runs to a next state. -/
def waitingPart : State := { quietPart with pending := [.quietReached, .status 0 []] }

theorem test_hyp_invariants_step : ∃ t, step waitingPart = .next t := ⟨_, rfl⟩
theorem test_hyp_JournalBoundsKept : JournalOk waitingPart.jrn := by unfold JournalOk; decide
theorem test_hyp_AttentionLinesKept : AttentionOk waitingPart := by unfold AttentionOk; decide
theorem test_hyp_FaultLineKept : FaultLineOk waitingPart := by unfold FaultLineOk; decide
theorem test_hyp_HealthyCountKept : HealthyOk (stationPart .healthy) ∧ HealthyOk waitingPart := by unfold HealthyOk; decide
theorem test_hyp_WindowsKept : MotionOk waitingPart := by unfold MotionOk WindowOk; decide
theorem test_hyp_TrackerKept : LoadingOk waitingPart ∧ TrackerOk waitingPart ∧ TrackerOk (haltedPart .one) := by
  unfold LoadingOk TrackerOk; decide
theorem test_hyp_ReplyQueuesKept : QueuesOk waitingPart :=
  ⟨fun p => ⟨by revert p; decide, by revert p; decide, by revert p; decide, fun ⟨_, h, _⟩ => by simp [waitingPart, quietPart, State.reset] at h⟩,
    by decide⟩

theorem test_small_inRange : smallPlan.inRange := by
  unfold Plan.inRange Params.inRange StationRec.inRange PointRec.inRange ShedStep.inRange RestartStep.inRange labelInRange
  decide

theorem test_hyp_TrackerKept_plan : PlanOk plantPart ∧ PlanOk { plantPart with pls.claim := some ⟨0, smallPlan⟩ } := by
  refine ⟨⟨by unfold LoadingOk; decide, by unfold TrackerOk; decide, ?_, fun _ h => by cases h⟩,
    ⟨by unfold LoadingOk; decide, by unfold TrackerOk; decide, ?_, fun _ h => by cases h; exact test_small_inRange⟩⟩
  all_goals
    rw [if_neg (by decide)]
    exact ⟨test_small_inRange, by decide⟩

theorem test_plant_slots : ∀ p : Fin 64, plantPart.flc.motion[p] = if p = 0 then .inFlight .restore else .empty := by decide

theorem test_hyp_PlantAndChainsKept : PlantOk plantPart ∧ ChainsOk plantPart ∧ ∃ t, step plantPart = .next t := by
  refine ⟨⟨by unfold LoadingOk; decide, by unfold TrackerOk; decide, by unfold UseOk; decide, fun p k => ?_, fun p => ?_,
      by unfold InrushOk; decide⟩,
    ⟨by unfold LoadingOk; decide, by unfold TrackerOk; decide, by unfold DepthOk; decide, by unfold StepsOk; decide, by decide⟩, _, rfl⟩
  · rw [test_plant_slots]
    by_cases h : p = 0 <;> cases k <;> simp [h, plantPart, eq_comm]
  · rw [test_plant_slots]
    by_cases h : p = 0
    · subst h
      simp only [if_true]
      rintro f ⟨⟩
      exact ⟨fun _ => by decide, fun h => by simp at h⟩
    · simp only [h, if_false]
      revert p
      unfold PointState.still
      decide

theorem test_hyp_OwnersStateChangesOnlyBy : (Instr.quietReached.touchesPlan = false ∧ Instr.quietReached.touchesChannels = false
    ∧ Instr.quietReached.touchesStore = false) ∧ ∃ t, exec .quietReached quietPart = .next t := ⟨by decide, _, rfl⟩

theorem test_hyp_StandingFlagsChangeOnlyBy : (Instr.status 0 [] ≠ .coldReset ∧ (Instr.status 0 []).bringsAnyRequest = false
      ∧ (∀ p l, Instr.status 0 [] ≠ .faultClear p l) ∧ (∀ l, Instr.status 0 [] ≠ .veto 0 l) ∧ ∀ l, Instr.status 0 [] ≠ .vetoClear 0 l)
    ∧ (∃ t, exec (.status 0 []) { quietPart with fmn.status := quietPart.fmn.status.set 8 true } = .next t)
    ∧ (quietPart.fmn.status.set 8 true)[FaultKind.noPlan.idx] = true :=
  ⟨⟨by decide, by decide, fun _ _ => by simp, fun _ => by simp, fun _ => by simp⟩, ⟨_, rfl⟩, by decide⟩

/-- The part restarting with every step DONE, P0 settling, and L0 ASSERTED. -/
def endingPart : State :=
  { pointPart .settling .empty with
    ptm.inrush := 4
    dtu.lines := #v[true, false, false, false]
    seq := { quietPart.seq with
      state := .restarting, eventOpen := true, depth := 1, target := 1, restartPointer := 1
      restartStatus := quietPart.seq.restartStatus.set 0 .done } }

/-- The quiet part with the small plan, its event open with L0 ASSERTED, and no shed step done. -/
def calmPart : State :=
  { stationPart .healthy with pls.active := smallPlan, dtu.lines := #v[true, false, false, false], seq.eventOpen := true }

theorem test_hyp_StandingFlagsChangeOnlyBy_event :
    (ChainsOk endingPart ∧ ∃ t, exec (.settleTimerExpiry 0) endingPart = .next t ∧ t.seq.depth < endingPart.seq.depth
        ∧ endingPart.dtu.lines[(0 : Fin 4)] = true ∧ t.dtu.lines[(0 : Fin 4)] = false ∧ t.seq.state = .watch)
      ∧ (ChainsOk calmPart ∧ ∃ t, exec .quietReached calmPart = .next t ∧ t.dtu.lines[(0 : Fin 4)] = false) := by
  refine ⟨⟨⟨by unfold LoadingOk; decide, by unfold TrackerOk; decide, by unfold DepthOk; decide, by unfold StepsOk; decide, by decide⟩,
      _, rfl, by decide⟩,
    ⟨⟨by unfold LoadingOk; decide, by unfold TrackerOk; decide, by unfold DepthOk; decide, by unfold StepsOk; decide, by decide⟩,
      _, rfl, by decide⟩⟩

/-- A grant that completes at once, with no restart chain: it closes the event. -/
theorem test_hyp_StandingFlagsChangeOnlyBy_grant :
    let s : State := { haltedPart .one with
      pls.active := { smallPlan with restart := Plan.factory.restart }
      dtu.lines := #v[true, false, false, false]
      seq := { (haltedPart .one).seq with eventOpen := true, depth := 1, target := 1 } }
    grantsRestart (.consent 1 []) s ∧ Plan.validate s.pls.active = none ∧ ∃ t, exec (.consent 1 []) s = .next t
      ∧ t.seq.depth < s.seq.depth ∧ t.dtu.lines[(0 : Fin 4)] = false ∧ t.seq.state = .watch := by
  refine ⟨⟨by decide, by decide, by decide, 1, by unfold Ready; decide, by decide, by decide, .inl (by decide)⟩, by decide, _, rfl, by decide⟩

theorem test_hyp_StandingFlagsChangeOnlyBy_plan : PlanOk endingPart ∧ PlanOk calmPart := by
  refine ⟨⟨by unfold LoadingOk; decide, by unfold TrackerOk; decide, ?_, fun _ h => by cases h⟩,
    ⟨by unfold LoadingOk; decide, by unfold TrackerOk; decide, ?_, fun _ h => by cases h⟩⟩
  all_goals
    rw [if_neg (by decide)]
    exact ⟨test_small_inRange, by decide⟩

/-- A line kept across a warm reset stays ASSERTED through the load and the start-up, which ends in HALTED with an event open (R41). -/
theorem test_line_kept_across_warm_reset :
    let warm := warmReset { endingPart with seq := quietPart.seq }
    let u := checkRound { warm with pls.active := smallPlan, seq.phase := .polling }
    warm.dtu.lines[(0 : Fin 4)] = true ∧ warm.seq.eventOpen = false ∧ u.dtu.lines[(0 : Fin 4)] = true
      ∧ u.seq.state = .halted ∧ u.seq.eventOpen = true := by decide

theorem test_hyp_SampleArithmetic :
    (let s : State := { stationPart .healthy with pls.active := { smallPlan with params := { smallPlan.params with t1 := 10 } } }
     s.siu[(0 : Fin 6)].health = .healthy
      ∧ ((s.mev.evals[(0 : Fin 6)].enter s.mev.peaksStand 100).evaluate s.pls.active.params).level ≠ s.mev.evals[(0 : Fin 6)].level
      ∧ ((s.mev.evals[(0 : Fin 6)].enter s.mev.peaksStand 99).evaluate s.pls.active.params).level = s.mev.evals[(0 : Fin 6)].level)
      ∧ (stationPart .lost).siu[(0 : Fin 6)].health ≠ .settling
      ∧ ((stationPart .settling).siu[(0 : Fin 6)].health = .settling ∧ (stationPart .settling).siu[(0 : Fin 6)].settle + 1 < 100)
      ∧ 100 ≤ 99 + 1 := by decide

theorem test_hyp_WindowArrivalAndClear : WindowOk ⟨[7], 7, 0, .quiet, 0, 0, 0⟩
    ∧ WindowOk ⟨List.replicate 100 6000, 600000, 60000, .severe, 0, 0, 0⟩ := by unfold WindowOk; decide

theorem test_hyp_StationLevelRule :
    let p := Params.factory
    let e (i n : Nat) (l : Level) : StationEval := ⟨[], 0, i, l, n, 0, 0⟩
    p.t1 < p.t2 ∧ p.t2 < p.t3 ∧ (e 600 0 .quiet).level.rank < (p.levelOf 600).rank
      ∧ ((p.levelOf 449).rank ≤ (e 449 198 .tremor).level.rank ∧ 449 < p.threshold .tremor * 3 / 4 ∧ 198 + 1 < p.fallHold)
      ∧ (p.threshold .tremor * 3 / 4 ≤ 450 ∧ (p.levelOf 450).rank ≤ Level.tremor.rank) ∧ p.fallHold ≤ 199 + 1
      ∧ (p.levelOf 0).rank ≤ Level.quiet.rank := by decide

theorem test_hyp_VoteIsHighestSupported :
    (stationPart .healthy).healthyStations ≠ [] ∧ 1 ≤ (stationPart .healthy).pls.active.params.voteCount := by decide

theorem test_hyp_LevelRecomputedAndLinesAsserted :
    quietPart.mev.healthy = 0
      ∧ ((stationPart .healthy).mev.healthy ≠ 0 ∧ (stationPart .healthy).votedLevel = (stationPart .healthy).mev.level)
      ∧ (let s : State := { stationPart .healthy with mev.level := .tremor }
         s.mev.healthy ≠ 0 ∧ s.votedLevel ≠ s.mev.level)
      ∧ (let s : State := { quietPart with mev.level := .severe, seq.state := .noPlan }
         s.mev.level = .severe ∧ s.seq.state = .noPlan ∧ s.flc.tripSent = false) := by decide

theorem test_hyp_LevelRecomputedAndLinesAsserted_quiet :
    quietPart.mev.quiet = 0 ∧ ∀ t ∈ [Tracker.inactive, .waitQuiet, .openState, .one],
      let s : State := { haltedPart t with mev.quiet := 1 }
      0 < s.mev.quiet ∧ s.ctk.state = t ∧ (t = .one → s.ctk.held = some 0) := by decide

theorem test_hyp_LevelRecomputedAndLinesAsserted_lines :
    let s : State := { quietPart with
      pls.active := { smallPlan with params := { smallPlan.params with dtLevels := #v[.tremor, .strong, .severe, .quiet] } }, mev.level := .strong }
    (∀ l : Fin 4, s.dtu.lines[l] = false) ∧ (assertLines s).dtu.lines = #v[true, true, false, false]
      ∧ (assertLines s).jrn.ring.map Record.body = [.dt 0 true, .dt 1 true] := by decide

theorem test_hyp_SensorFrameChecks :
    let s := stationPart .healthy
    let ok := withCheck [0xc3, 0, 5, 0, 0, 0, 0, 0, 0, 0]
    (s.siu[(0 : Fin 6)].health ≠ .disabled ∧ s.siu[(0 : Fin 6)].rx = .hunt)
      ∧ checkHolds ok = true ∧ (clean ok).any LineByte.bad = false
      ∧ checkHolds (withCheck [0xc3, 0, 5, 1, 0, 0, 0, 0, 0, 0]) = true ∧ checkHolds (withCheck [0xc3, 0, 5, 2, 0, 0, 0, 0, 0, 0]) = true
      ∧ checkHolds (withCheck [0xc3, 6, 5, 0, 0, 0, 0, 0, 0, 0]) = true ∧ checkHolds [0xc3, 0, 5, 0, 0, 0, 0, 0, 0, 0, 0, 0] = false := by
  decide

theorem test_hyp_ValidFrameHandling :
    (stationPart .offline).siu[(0 : Fin 6)].health = .offline ∧ (stationPart .lost).siu[(0 : Fin 6)].health = .lost
      ∧ ((stationPart .healthy).siu[(0 : Fin 6)].health = .healthy ∧ (stationPart .healthy).siu[(0 : Fin 6)].lastSeq = some 250)
      ∧ (((255 : Byte).toNat + 255 - (250 : Byte).toNat) % 256 = 4) ∧ (((0 : Byte).toNat + 255 - (250 : Byte).toNat) % 256 = 5) := by
  decide

theorem test_hyp_ValidFrameHandling_clear :
    let s : State := { stationPart .healthy with mev.evals := quietPart.mev.evals.set 0 ⟨[6000], 6000, 600, .tremor, 0, 0, 0⟩ }
    s.siu[(0 : Fin 6)].health = .healthy ∧ s.mev.evals[(0 : Fin 6)].level ≠ .quiet
      ∧ (stationPart .lost).siu[(0 : Fin 6)].health ≠ .healthy := by decide

theorem test_hyp_GapTimerExpiryLosesStation :
    ((stationPart .settling).siu[(0 : Fin 6)].gap.isSome = true ∧ (stationPart .settling).siu[(0 : Fin 6)].health = .settling)
      ∧ (stationPart .healthy).siu[(0 : Fin 6)].gap.isSome = true ∧ (stationPart .healthy).siu[(0 : Fin 6)].health = .healthy := by
  decide

theorem test_hyp_GapTimerExpiryLosesStation_count :
    (stationPart .healthy).mev.healthy ≠ 0 ∧ quietPart.mev.healthy = 0 ∧ (1 : Nat) ≠ 0 := by decide

theorem test_hyp_BlindAndQuietReached :
    (let s : State := { quietPart with mev.blindTimer := some 2000 }
     s.mev.blindTimer.isSome = true ∧ s.mev.blind = false)
      ∧ (let s : State := { stationPart .healthy with seq.eventOpen := true }
         s.mev.level = .quiet ∧ s.mev.healthy ≠ 0 ∧ s.mev.quietHanded = false ∧ s.seq.state = .watch ∧ s.seq.eventOpen = true
          ∧ s.seq.depth = 0 ∧ s.ctk.state ≠ .waitQuiet)
      ∧ (let s : State := { haltedPart .waitQuiet with mev.healthy := 1 }
         s.mev.level = .quiet ∧ s.mev.healthy ≠ 0 ∧ s.mev.quietHanded = false ∧ s.seq.state = .halted ∧ s.ctk.state = .waitQuiet) := by
  decide

theorem test_hyp_IdleAbandonsPartialFrame :
    (collectPart.siu[(0 : Fin 6)].health ≠ .disabled ∧ collectPart.siu[(0 : Fin 6)].rx = .collect [0xc3] false)
      ∧ collectPart.siu[(1 : Fin 6)].health = .disabled ∧ (collectPart.flc.tx = none ∧ collectPart.flc.rx = .collect [0x5b] false)
      ∧ collectPart.spu.ports[(0 : Fin 3)].rx = .collect [0x3c] false := by decide

theorem test_hyp_ShedWantedBySlot :
    let s (m : MotionSlot) : State := { pointPart .energised m with flc.inFlight := some ⟨.poll 0, 1, 0, none, false⟩ }
    (s .empty).flc.inFlight.isSome = true ∧ (s .empty).flc.motion[(0 : Fin 64)] = .empty
      ∧ (s (.pending .warn)).flc.motion[(0 : Fin 64)] = .pending .warn ∧ (s (.pending .restore)).flc.motion[(0 : Fin 64)] = .pending .restore
      ∧ (s (.pending .shed)).flc.motion[(0 : Fin 64)] = .pending .shed
      ∧ (s (.inFlight .warn)).flc.motion[(0 : Fin 64)] = .inFlight .warn := by decide

theorem test_hyp_ShedWantedBySlot_idle :
    (∀ m ∈ [MotionSlot.empty, .pending .warn, .pending .restore, .pending .shed],
        (pointPart .energised m).flc.motion[(0 : Fin 64)] = m ∧ (pointPart .energised m).flc.inFlight = none)
      ∧ quietPart.flc.broadcast = false ∧ (∀ q : Fin 64, q < 63 → quietPart.flc.motion[q] ≠ .pending .shed) := by decide

theorem test_hyp_ShedWantedBySlot_lamp :
    let e : PointEntry := { PointEntry.start with state := .await }
    (e.manual = false ∧ e.buttonSeen = false ∧ twoPlan.restartStepOf 1 = some 0 ∧ (twoPlan.restartStep 0).button = true)
      ∧ ((pointPart .failed .empty).inUse 0 = true ∧ (pointPart .failed .empty).ptm.points[(0 : Fin 64)].lamp ≠ .on)
      ∧ (pointPart .shed .empty).inUse 0 = true ∧ quietPart.inUse 63 = false := by decide

theorem test_hyp_OrderResultTables :
    (smallPlan.points[(0 : Fin 64)].grace ≠ 0 ∧ smallPlan.points[(0 : Fin 64)].settle ≠ 0)
      ∧ Plan.factory.points[(63 : Fin 64)].grace = 0 ∧ Plan.factory.points[(63 : Fin 64)].settle = 0
      ∧ (pointPart .unused .empty).pointState 0 = .unused ∧ (pointPart .opening .empty).pointState 0 ≠ .unused
      ∧ (let s : State := (pointPart .settling .empty).modPoint 0 (fun e => { e with deferred := true })
         s.ptm.points[(0 : Fin 64)].deferred = true ∧ s.pointState 0 ≠ .locked ∧ s.pointState 0 ≠ .shed ∧ s.pointState 0 ≠ .unused)
      ∧ (∀ j q, Order.tripAll ≠ .motion j q) ∧ (pointPart .shed .empty).ptm.points[(0 : Fin 64)].deferred = false := by
  refine ⟨by decide, by decide, by decide, by decide, by decide, by decide, fun _ _ => by simp, by decide⟩

theorem test_hyp_FeedbackTables :
    (quietPart.inUse 0 = false ∧ (pointPart .shed .empty).inUse 0 = true)
      ∧ (outputStatus 0x02).lockOpen = true ∧ (outputStatus 0x01).lockOpen = false ∧ (outputStatus 0x01).closed = true
      ∧ (outputStatus 0xf0).closed = false
      ∧ (List.map (fun st => (pointPart st .empty).pointState 0)
          [.locked, .unused, .unknown, .failed, .energised, .warned, .settling, .shed, .await, .warning, .opening, .closing])
        = [.locked, .unused, .unknown, .failed, .energised, .warned, .settling, .shed, .await, .warning, .opening, .closing]
      ∧ (outputStatus 0x04).button = true ∧ (outputStatus 0xfb).button = false := by decide

/-- P0 made FAILED by OUTPUT_FAULT, a deferred SHED waiting, is compared with the contact of the reply (R68, R75; log 38): CLOSED
makes it ENERGISED and the SHED is posted; OPEN makes it SHED and the deferred SHED is dropped (R67). -/
theorem test_failed_with_deferred_shed :
    let s : State := (pointPart .closing .empty).modPoint 0 (fun e => { e with deferred := true })
    let f : InFlight := ⟨.motion .restore 0, 1, 7, none, false⟩
    let reply (o : Byte) : State := takeResolution f 0 .outputFault (some #v[outputStatus o, outputStatus 0, outputStatus 0, outputStatus 0]) s
    let causes (t : State) : List Cause := t.jrn.ring.filterMap (fun r => match r.body with
      | .point _ _ _ c => some c
      | _ => none)
    ((reply 0x01).pointState 0 = .opening ∧ causes (reply 0x01) = [.outputFault, .feedback, .outputFault]
        ∧ (reply 0x01).ptm.points[(0 : Fin 64)].deferred = false ∧ (reply 0x01).flc.motion[(0 : Fin 64)] ≠ .empty)
      ∧ (reply 0x00).pointState 0 = .shed ∧ causes (reply 0x00) = [.outputFault, .feedback]
      ∧ (reply 0x00).ptm.points[(0 : Fin 64)].deferred = false ∧ (reply 0x00).flc.motion[(0 : Fin 64)] = .empty := by decide

/-- A RESTORE that an abort met in flight and that is answered OUTPUT_FAULT, the contact OPEN: P0 is FAILED, is found SHED, and the SHED
is then posted (R152 point 3; log 38); with the contact CLOSED it goes by ENERGISED. -/
theorem test_abort_restore_fault :
    let s : State := { pointPart .closing (.inFlight .restore) with
      flc.inFlight := some ⟨.motion .restore 0, 1, 7, some 5, false⟩, seq.state := .restarting, seq.eventOpen := true }
    let path (t : State) : List (PointState × Cause) := t.jrn.ring.filterMap (fun r => match r.body with
      | .point _ _ new c => some (new, c)
      | _ => none)
    let reply (o : Byte) : State := replyFrameTaken 1 7 .outputFault #v[outputStatus o, outputStatus 0, outputStatus 0, outputStatus 0]
      (abortRestart s)
    (abortRestart s).flc.aborted = true
      ∧ path (reply 0x00) = [(.failed, .outputFault), (.shed, .feedback), (.opening, .outputFault)]
      ∧ path (reply 0x01) = [(.failed, .outputFault), (.energised, .feedback), (.opening, .outputFault)]
      ∧ (reply 0x00).pointState 0 = .opening ∧ (reply 0x00).flc.motion[(0 : Fin 64)] = .inFlight .shed
      ∧ (reply 0x00).flc.aborted = false := by decide

theorem test_hyp_PointTimersRunOut :
    ((pointPart .warned .empty).ptm.points[(0 : Fin 64)].grace.isSome = true ∧ (pointPart .warned .empty).pointState 0 = .warned
        ∧ (pointPart .warned .empty).flc.motion[(0 : Fin 64)] = .empty)
      ∧ (pointPart .settling .empty).ptm.points[(0 : Fin 64)].settle.isSome = true
      ∧ (pointPart .settling .empty).pointState 0 = .settling := by decide

theorem test_hyp_OrderChosenAndSent :
    (pointPart .opening (.pending .shed)).flc.nextOrder = some (.motion .shed 0) ∧ (pointPart .opening (.pending .shed)).flc.inFlight = none
      ∧ quietPart.flc.nextOrder = none ∧ (loopPart (.poll 0) true).flc.inFlight.isSome = true := by decide

theorem test_hyp_FrameEndsAndPolls :
    ((loopPart (.poll 0) true).flc.tx = some (orderFrame (.poll 0) 7)
        ∧ (loopPart (.poll 0) true).flc.inFlight = some ⟨.poll 0, 1, 7, none, false⟩)
      ∧ (loopPart .tripAll true).flc.inFlight = some ⟨.tripAll, 1, 7, none, false⟩
      ∧ (let s : State := { loopPart (.poll 0) true with flc.pollTimer := some 0 }
         s.flc.pollTimer.isSome = true ∧ s.pls.active.configured 0 = true) := by decide

theorem test_hyp_LoopReplyHandling :
    let s := loopPart (.motion .shed 0) false
    let good := withCheck [0x5b, 1, 7, 0, 0, 0, 0, 0]
    (s.flc.tx = none ∧ s.flc.rx = .hunt ∧ s.flc.inFlight = some ⟨.motion .shed 0, 1, 7, some 0, false⟩
        ∧ (Order.motion .shed 0).station = some 0)
      ∧ checkHolds good = true ∧ (clean good).any LineByte.bad = false ∧ checkHolds (withCheck [0x5b, 1, 6, 2, 0, 0, 0, 0]) = true
      ∧ checkHolds (withCheck [0x5b, 16, 7, 2, 0, 0, 0, 0]) = true ∧ checkHolds [0x5b, 17, 7, 3, 0, 0, 0, 0, 0, 0] = false := by decide

/-- A reply that arrives at the moment of the timeout is stale, though the next attempt is being sent; one that arrives later, or once time
has passed, is not received (R95, R96, R98; log 49). -/
theorem test_reply_at_timeout :
    let s := replyTimeout (loopPart (.motion .shed 0) false)
    let frame : List LineByte := clean (withCheck [0x5b, 1, 7, 0, 0, 0, 0, 0])
    let stale (n : Nat) (u : State) : Host.Outcome State Fault Refusal := exec (.loopReplyFrame frame)
      { u with flc.stale := n }
    (s.flc.tx.isSome = true ∧ s.flc.timedOut = true ∧ s.flc.rx = .hunt ∧ s.flc.inFlight = some ⟨.motion .shed 0, 2, 0, none, false⟩)
      ∧ (∃ t, stale 0 s = .next t ∧ t.flc.stale = 1 ∧ t.flc.timedOut = false ∧ t.flc.tx = s.flc.tx
        ∧ ∃ u, stale 1 t = .next u ∧ u.flc.stale = 1)
      ∧ ((elapse s).flc.tx.isSome = true ∧ (elapse s).flc.timedOut = false)
      ∧ ∃ t, stale 0 (elapse s) = .next t ∧ t.flc.stale = 0 :=
  ⟨by decide, ⟨_, rfl, by decide, by decide, rfl, _, rfl, by decide⟩, by decide, _, rfl, by decide⟩

theorem test_hyp_OrderResultTables_abort :
    let s : State := { pointPart .shed .empty with flc.aborted := true }
    let t := s.modPoint 0 (fun e => { e with deferred := true })
    t.ptm.points[(0 : Fin 64)].deferred = true ∧ t.pointState 0 = .shed ∧ t.flc.aborted = true := by decide

theorem test_hyp_ReplyTimeoutHandling :
    let s (n : Nat) : State := { loopPart (.poll 0) false with flc.noReply := quietPart.flc.noReply.set 0 n }
    ((s 0).flc.inFlight = some ⟨.poll 0, 1, 7, some 0, false⟩ ∧ (Order.poll 0).station = some 0
        ∧ (s 1).flc.noReply[(0 : Fin 16)] ≤ 3 ∧ min ((s 1).flc.noReply[(0 : Fin 16)] + 1) 3 < 3
        ∧ (s 1).flc.reach[(0 : Fin 16)] ≠ .unreachable)
      ∧ min ((s 2).flc.noReply[(0 : Fin 16)] + 1) 3 = 3
      ∧ (quietPart.flc.reach.set 0 .unreachable)[(0 : Fin 16)] = .unreachable := by decide

theorem test_hyp_ReplyTimeoutHandling_condition :
    let s : State := { pointPart .shed .empty with flc.reach := (quietPart.flc.reach.set 0 .unreachable).set 15 .unreachable }
    (s.pls.active.configured 0 = true ∧ s.flc.reach[(0 : Fin 16)] = .unreachable ∧ s.fmn.condUnreachable = false)
      ∧ s.pls.active.configured 15 = false ∧ (∀ st : Fin 16, (pointPart .shed .empty).flc.reach[st] ≠ .unreachable) := by decide

theorem test_hyp_RestoreGate :
    let s : State := { restartingPart with flc.spacing := some 0 }
    s.flc.spacing.isSome = true ∧ { s with flc := { s.flc with spacing := none } }.gateAdmits = some 0
      ∧ s.flc.motion[(0 : Fin 64)] = .empty := by decide

theorem test_hyp_RestoreGate_settle :
    ((sheddingPart 1).shedRunning 0 = true ∧ (sheddingPart 1).pointState 0 = .warned ∧ smallPlan.shed[(0 : Fin 48)].wait = .points
        ∧ (pointPart .shed .empty).pointState 0 = .shed)
      ∧ (restartingPart.restartRunning 0 = true ∧ restartingPart.shedRunning 0 = false ∧ restartingPart.pointState 0 = .await
        ∧ (pointPart .energised .empty).pointState 0 = .energised)
      ∧ (let s : State := { endingPart with ptm := (pointPart .energised .empty).ptm }
         s.seq.state = .restarting ∧ s.pls.active.restartLen ≤ s.seq.restartPointer ∧ s.restartRunning s.seq.restartPointer = false
          ∧ s.shedRunning s.seq.pointer = false
          ∧ ∀ p : Fin 64, s.pointState p ≠ .await ∧ s.pointState p ≠ .closing ∧ s.pointState p ≠ .settling)
      ∧ settleOnce quietPart = none := by decide

theorem test_hyp_RestoreGate_order :
    (twoPlan.restartStepOf 1 = some 0 ∧ twoPlan.restartStepOf 63 = none ∧ (twoPart .restarting .await .empty).seq.state ≠ .watch)
      ∧ ((twoPart .watch .await .empty).seq.state = .watch ∧ (twoPart .watch .await .empty).gateHead = some 1
        ∧ (twoPart .watch .await .empty).gateEligible 1 = true) ∧ (twoPart .restarting .await .empty).gateEligible 1 = false := by decide

theorem test_hyp_ShedStepEnds :
    (sheddingPart 1).seq.shedDelay.isSome = true ∧ (sheddingPart 1).seq.shedTimeout.isSome = true
      ∧ (sheddingPart 1).shedRunning (sheddingPart 1).seq.pointer = true ∧ (sheddingPart 1).seq.target ≤ 0 + 1
      ∧ (sheddingPart 2).shedRunning (sheddingPart 2).seq.pointer = true ∧ 0 + 1 < (sheddingPart 2).seq.target := by decide

theorem test_hyp_ShedStepEnds_points :
    (let s := pointPart .energised .empty
     s.pointState 0 = .energised ∧ s.flc.motion[(0 : Fin 64)] = .empty ∧ s.pls.active.points[(0 : Fin 64)].mode = .warnThenOpen
      ∧ s.mev.level ≠ .severe)
      ∧ ((pointPart .energised (.inFlight .warn)).pointState 0 = .energised
        ∧ (pointPart .energised (.inFlight .warn)).flc.motion[(0 : Fin 64)] ≠ .empty)
      ∧ (pointPart .warning (.inFlight .warn)).flc.motion[(0 : Fin 64)] = .inFlight .warn
      ∧ ∀ k ∈ [MotionKind.warn, .shed, .restore], (pointPart .opening (.pending .shed)).flc.motion[(0 : Fin 64)] ≠ .inFlight k := by
  decide

theorem test_hyp_RestartStepEnds :
    restartingPart.restartRunning restartingPart.seq.restartPointer = true ∧ restartingPart.seq.restartDelay.isSome = true
      ∧ restartingPart.seq.restartTimeout.isSome = true ∧ restartingPart.pls.active.restartLen ≤ 0 + 1
      ∧ (let p : Plan := { smallPlan with restart := smallPlan.restart.set 1 ⟨[1], .points, 0, 60, false⟩ }
         0 + 1 < p.restartLen) := by decide

theorem test_hyp_RestartStepEnds_stop :
    let s := twoPart .restarting
    ((s .await .empty).seq.state = .restarting ∧ (s .await .empty).restartRunning (s .await .empty).seq.restartPointer = true
        ∧ (1 : Fin 64) ∉ ((s .await .empty).pls.active.shedStep 0).points ∧ (s .await .empty).flc.inFlight.isSome = true
        ∧ (s .await .empty).pointState 1 = .await)
      ∧ ((s .closing (.pending .restore)).pointState 1 = .closing
        ∧ (s .closing (.pending .restore)).flc.motion[(1 : Fin 64)] = .pending .restore)
      ∧ (s .closing (.inFlight .restore)).flc.motion[(1 : Fin 64)] = .inFlight .restore
      ∧ (s .shed .empty).pointState 1 ≠ .await ∧ (s .shed .empty).pointState 1 ≠ .closing
      ∧ (s .await .empty).seq.depth < (s .await .empty).seq.target
      ∧ (∀ q : Fin 64, restartingPart.flc.motion[q] ≠ .pending .restore)
      ∧ ¬ restartingPart.seq.depth < restartingPart.seq.target
      ∧ Level.tremor.rank ≤ Level.severe.rank ∧ (s .await .empty).mev.level.rank < twoPlan.params.abortLevel.rank := by decide

theorem test_hyp_RestartStepEnds_points :
    (∀ st ∈ [PointState.locked, .shed, .failed, .unknown, .energised], (pointPart st .empty).pointState 0 = st)
      ∧ (let s : State := { restartingPart with ptm := (pointPart .shed .empty).ptm }
         s.restartRunning s.seq.restartPointer = true ∧ s.pointState 0 = .shed
          ∧ (0 : Fin 64) ∈ (s.pls.active.restartStep s.seq.restartPointer).points)
      ∧ Plan.factory.restartLen = 0 ∧ 0 < smallPlan.restartLen := by decide

theorem test_hyp_RestartStepEnds_tracker : restartingPart.ctk.state = .inactive ∧ restartingPart.seq.state = .restarting
    ∧ (enterHalted restartingPart).jrn.ring.map Record.body = [.sequence .restarting .halted 1]
    ∧ (enterHalted restartingPart).ctk.state = .waitQuiet := by decide

theorem test_hyp_EventOpens :
    (sheddingPart 1).seq.eventOpen = true ∧ (quietPart.seq.eventOpen = false ∧ quietPart.mev.level = .quiet)
      ∧ ({ quietPart with mev.level := .tremor }).mev.level ≠ .quiet
      ∧ ((twoPart .halted .energised .empty).seq.depth < (twoPart .halted .energised .empty).seq.target
        ∧ (twoPart .halted .energised .empty).seq.state = .halted)
      ∧ (let s := twoPart .watch .await .empty
         s.seq.depth < s.seq.target ∧ s.seq.state = .watch ∧ s.ptm.points[(1 : Fin 64)].manual = true ∧ s.pointState 1 = .await
          ∧ (1 : Fin 64) ∉ (s.pls.active.shedStep 0).points ∧ s.ptm.points[(0 : Fin 64)].manual = false)
      ∧ quietPart.seq.target ≤ quietPart.seq.depth := by decide

theorem test_hyp_EventOpens_start :
    let s (st : PointState) : State := { twoPart .startup st .empty with ptm.points := (twoPart .startup st .empty).ptm.points.set 0 PointEntry.start }
    ((s .shed).seq.state = .startup ∧ (s .shed).seq.phase = .polling ∧ (∀ n : Fin 16, (s .shed).flc.marks[n] = false)
        ∧ (s .shed).inUse 1 = true ∧ (s .shed).pointState 1 = .shed)
      ∧ ((s .energised).pointState 1 = .energised ∧ 1 < twoPlan.shedLen ∧ (1 : Fin 64) ∈ twoPlan.shed[(1 : Fin 48)].points
        ∧ (s .energised).flc.motion[(1 : Fin 64)] = .empty ∧ ({ s .energised with dtu.lines := #v[true, false, false, false] }).dtu.lines[(0 : Fin 4)] = true)
      ∧ ((∀ p : Fin 64, ¬ ((s .energised).inUse p = true ∧ (s .energised).pointState p = .shed))
        ∧ (∀ l : Fin 4, (s .energised).dtu.lines[l] ≠ true) ∧ (s .energised).seq.depth < (s .energised).seq.target)
      ∧ (let u : State := { s .energised with seq.target := 0, seq.depth := 0, mev.quiet := 600000 }
         u.seq.target ≤ u.seq.depth ∧ u.seq.eventOpen = true ∧ u.mev.level = .quiet
          ∧ u.pls.active.params.quietPeriod * 1000 ≤ u.mev.quiet) := by decide

theorem test_hyp_EventOpens_enforced :
    let s : State := { twoPart .halted .energised .empty with seq.depth := 2 }
    s.seq.state = .halted ∧ s.inUse 1 = true ∧ s.pointState 1 = .energised ∧ s.ptm.points[(1 : Fin 64)].cause = .feedback
      ∧ 1 < s.seq.depth ∧ (1 : Fin 64) ∈ s.pls.active.shed[(1 : Fin 48)].points := by decide

theorem test_hyp_EventOpens_withdrawn :
    (let s := twoPart .watch .closing (.pending .restore)
     s.ptm.points[(1 : Fin 64)].manual = true ∧ s.pointState 1 = .closing ∧ s.flc.motion[(1 : Fin 64)] = .pending .restore
      ∧ (withdrawManual s 1).pointState 1 = .shed ∧ (withdrawManual s 1).flc.motion[(1 : Fin 64)] = .empty)
      ∧ (∀ t ∈ [Tracker.inactive, .waitQuiet, .openState, .one], (haltedPart t).ctk.state = t)
      ∧ (setShedding (haltedPart .one)).jrn.ring.map Record.body = [.sequence .halted .shedding 0, .consent 0 .discarded] := by decide

theorem test_hyp_ConsentWindowExpires : (haltedPart .one).ctk.window.isSome = true ∧ (haltedPart .one).ctk.state = .one
    ∧ (haltedPart .one).ctk.held = some 0 := by decide

theorem test_hyp_ConsentChecks :
    (∀ t ∈ [Tracker.inactive, .waitQuiet, .openState, .one], (haltedPart t).ctk.state = t ∧ (haltedPart t).spu.ports[(1 : Fin 3)].service = none
        ∧ (haltedPart t).pls.active.rights[(1 : Fin 3)].consent = true ∧ ∀ q : Fin 3, (haltedPart t).ctk.veto[q] = false)
      ∧ (haltedPart .one).ctk.held = some 0 ∧ ¬ ∀ q : Fin 3, ((haltedPart .one).ctk.veto.set 2 true)[q] = false
      ∧ (pointPart .shed .empty).spu.ports[(0 : Fin 3)].service = none
      ∧ ({ smallPlan with rights := smallPlan.rights.set 0 ⟨true, false, true, true⟩ }).rights[(0 : Fin 3)].consent = false := by decide

theorem test_hyp_VetoAndVetoClear :
    (quietPart.spu.ports[(2 : Fin 3)].service = none ∧ quietPart.pls.active.rights[(2 : Fin 3)].veto = true ∧ quietPart.seq.state ≠ .startup
        ∧ quietPart.ctk.veto[(2 : Fin 3)] = false)
      ∧ State.reset.seq.state = .startup ∧ (quietPart.ctk.veto.set 2 true)[(2 : Fin 3)] = true ∧ restartingPart.seq.state = .restarting
      ∧ (haltedPart .one).seq.state ≠ .restarting ∧ (haltedPart .one).ctk.held = some 0 := by decide

theorem test_hyp_RequestsTurnedAway_params :
    let r := smallPlan.rights[(0 : Fin 3)]
    (r.edit = true ∧ r.consent = true ∧ r.veto = true ∧ r.operate = true ∧ (pointPart .shed .empty).spu.ports[(0 : Fin 3)].service = none)
      ∧ ([0] : List Byte) ≠ [] ∧ ([] : List Byte).length ≠ 1 ∧ ([0] : List Byte).length ≠ 2 ∧ ([0, 0] : List Byte).length ≠ 3
      ∧ 128 ≤ (128 : Byte).toNat ∧ 128 < (129 : Byte).toNat ∧ 4096 ≤ (0x00 : Byte).toNat + 256 * (0x10 : Byte).toNat
      ∧ ((2 : Byte) ≠ 0 ∧ (2 : Byte) ≠ 1) ∧ 64 ≤ (64 : Byte).toNat := by decide

theorem test_hyp_RequestsTurnedAway :
    let none' : Rights := ⟨false, false, false, false⟩
    (Rights.edit none' = false ∧ (Instr.save 0 []).request = some (0, 0x15, []) ∧ quietPart.spu.ports[(0 : Fin 3)].service = none)
      ∧ ((0x40 : Byte) ∉ requestCodes ∧ (0x00 : Byte) ∉ requestCodes) ∧ (List.replicate 120 (0 : Byte)).length ≤ 120
      ∧ (savingPart true).spu.ports[(0 : Fin 3)].service.isSome = true ∧ (savingPart true).spu.ports[(0 : Fin 3)].busyReplies = 0
      ∧ (let q : Port := { Port.start with service := some 1, queue := [⟨2, .busy, [], true⟩] }
         q.service.isSome = true ∧ q.busyReplies ≠ 0) := by
  decide

theorem test_hyp_InvalidFramesAndSentReplies :
    quietPart.spu.ports[(0 : Fin 3)].rx = .hunt ∧ 120 < (121 : Byte).toNat ∧ checkHolds (withCheck [0x3c, 0, 1]) = true
      ∧ checkHolds [0x3c, 0, 1, 0, 0] = false ∧ (120 : Byte).toNat ≤ 120 ∧ quietPart.spu.ports[(0 : Fin 3)].tail = none := by decide

theorem test_hyp_LinkTimeoutResetsPort : collectPart.spu.ports[(0 : Fin 3)].link.isSome = true
    ∧ (haltedPart .one).ctk.held = some 0 ∧ collectPart.ctk.held ≠ some 0 ∧ collectPart.iml.save = none
    ∧ (savingPart true).iml.save = some ⟨0, smallPlan, true, []⟩ := by decide

/-- A port reset of SP0, which holds the claim and the consent and is sending a reply. -/
theorem test_port_reset :
    let q : Port := { Port.start with up := true, link := some 0, flags := 0x7f, service := some 1, queue := [⟨1, .ok, [], false⟩] }
    ∃ t, exec (.linkTimeout 0) { haltedPart .one with pls.claim := some ⟨0, smallPlan⟩, spu.ports := quietPart.spu.ports.set 0 q } = .next t
      ∧ t.spu.ports[(0 : Fin 3)].flags = Notice.claim.bit ||| Notice.consent.bit ||| Notice.fault.bit
      ∧ t.spu.ports[(0 : Fin 3)].attention = true ∧ t.spu.ports[(0 : Fin 3)].tail = some ⟨1, .ok, [], false⟩
      ∧ t.spu.ports[(0 : Fin 3)].queue = [] ∧ t.pls.claim = none ∧ t.ctk.state = .openState := ⟨_, rfl, by decide⟩

theorem test_hyp_requests_ready : ∀ p : Fin 3, quietPart.spu.ports[p].service = none := by decide

theorem test_hyp_DetailRequestsReturn : (5 : Byte).toNat = (5 : Fin 6).val ∧ 6 ≤ (6 : Byte).toNat ∧ (63 : Byte).toNat = (63 : Fin 64).val
    ∧ (1 ≤ (6 : Byte).toNat ∧ min (6 : Byte).toNat (64 - (57 : Fin 64).val) ≤ 6)
    ∧ min (255 : Byte).toNat (64 - (58 : Fin 64).val) ≤ 6 ∧ 6 < min (7 : Byte).toNat (64 - (57 : Byte).toNat)
    ∧ 64 ≤ (64 : Byte).toNat := by decide

/-- POINT_DETAIL from P60 with a count of 7 is cut to the four points P60 to P63 and answered as with a count of 4; from P57 it is
refused (R160). -/
theorem test_point_detail_cut :
    pointRange 60 4 = [60, 61, 62, 63] ∧ servePointDetail 0 [60, 7] quietPart = servePointDetail 0 [60, 4] quietPart
      ∧ servePointDetail 0 [60, 7] quietPart = reply 0 .ok (quietPart.pointDetailBytes 60 4) quietPart
      ∧ servePointDetail 0 [57, 7] quietPart = refuse 0 .badParam quietPart := ⟨by decide, rfl, rfl, rfl⟩

theorem test_hyp_NoticeMaskReplaces : (127 : Byte).toNat < 128 ∧ 1 ≤ (128 : Byte).toNat ∧ (128 : Byte).toNat ≤ 128 := by decide

theorem test_hyp_ClaimAndRelease : quietPart.pls.claim = none ∧ quietPart.pls.active.rights[(0 : Fin 3)].edit = true
    ∧ (claimPart smallPlan).pls.claim = some ⟨0, smallPlan⟩ ∧ (claimPart smallPlan).pls.holder = some 0
    ∧ (claimPart smallPlan).pls.holder ≠ some 1 := by decide

theorem test_hyp_PlanWriteAndRead : planWriteRecord [1, 5, 1, 20] = some (.station 5 ⟨true, 20⟩) ∧ planWriteRecord [1, 6, 1, 20] = none
    ∧ planWriteRecord [7, 63, 1, 0x7e] = some (.label 63 [0x7e]) ∧ planWriteRecord [7, 63, 1, 0x7f] = none
    ∧ planWriteRecord [5, 2, 16] = none ∧ planWriteRecord [5, 2, 15] = some (.rights 2 ⟨true, true, true, true⟩)
    ∧ recordAddr 7 63 = some (.label 63) ∧ recordAddr 0 1 = none ∧ recordAddr 8 0 = none ∧ 1 < (2 : Byte).toNat := by decide

theorem test_hyp_PlanRecordRoundTrip : smallPlan.inRange ∧ recordAddr 3 47 = some (.shedStep 47) := ⟨test_small_inRange, by decide⟩

theorem test_hyp_CommitConditionsAndEffect :
    let s := claimPart smallPlan
    (s.spu.ports[(0 : Fin 3)].service = none ∧ s.pls.active.rights[(0 : Fin 3)].edit = true ∧ s.pls.holder ≠ some 1
        ∧ s.pls.claim = some ⟨0, smallPlan⟩)
      ∧ (s.seq.state = .watch ∧ s.mev.level = .quiet ∧ (∀ q : Fin 64, s.pointState q ≠ .closing ∧ s.pointState q ≠ .settling)
        ∧ s.iml.link ≠ .saving) ∧ smallPlan.validate = none ∧ Plan.factory.validate = some ⟨3, 1, 0⟩ ∧ (haltedPart .one).seq.state = .halted := by
  decide

theorem test_hyp_CommitConditionsAndEffect_quiet :
    let s : State := { calmPart with mev.quiet := 600000 }
    (s.mev.level = .quiet ∧ s.mev.healthy ≠ 0 ∧ s.pls.active.params.quietPeriod * 1000 ≤ s.mev.quiet ∧ s.ctk.state ≠ .waitQuiet
        ∧ s.seq.state = .watch ∧ s.seq.eventOpen = true ∧ s.seq.depth = 0)
      ∧ ¬ calmPart.pls.active.params.quietPeriod * 1000 ≤ calmPart.mev.quiet ∧ quietPart.seq.eventOpen = false
      ∧ ({ quietPart with seq.state := .noPlan }).seq.state = .noPlan := by decide

theorem test_hyp_CommitPointsAndStations :
    (Plan.factory.points[(0 : Fin 64)].inUse = false ∧ smallPlan.points[(0 : Fin 64)].inUse = true)
      ∧ (let s : State := { pointPart .await .empty with pls.active := { smallPlan with params := { smallPlan.params with inrushBudget := 3 } } }
         s.pointState 0 = .await ∧ s.pls.active.params.inrushBudget < s.pls.active.points[(0 : Fin 64)].weight)
      ∧ Plan.factory.stations[(0 : Fin 6)].enabled = true
      ∧ (Plan.factory.stations.set 0 ⟨false, 20⟩)[(0 : Fin 6)].enabled = false := by decide

theorem test_hyp_CommitPointsAndStations_leave :
    ((loopPart (.motion .shed 0) true).flc.inFlight = some ⟨.motion .shed 0, 1, 7, none, false⟩
        ∧ (loopPart (.motion .shed 0) true).flc.motion[(0 : Fin 64)] = .inFlight .shed)
      ∧ (let s := twoPart .watch .opening (.pending .shed)
         s.flc.inFlight = some ⟨.poll 0, 1, 0, none, false⟩ ∧ s.flc.motion[(1 : Fin 64)] = .pending .shed
          ∧ twoPlan.points[(1 : Fin 64)].inUse = true ∧ smallPlan.points[(1 : Fin 64)].inUse = false)
      ∧ (pointPart .shed .empty).flc.inFlight = none := by decide

theorem test_hyp_SaveAndItsEnd :
    (quietPart.seq.state ≠ .noPlan ∧ quietPart.iml.link = .idle ∧ State.reset.iml.link ≠ .idle)
      ∧ ((savingPart true).iml.save = some ⟨0, smallPlan, true, []⟩ ∧ (savingPart true).spu.ports[(0 : Fin 3)].service = some 0x15)
      ∧ (savingPart false).iml.save = some ⟨0, smallPlan, false, []⟩
      ∧ ({ savingPart false with spu := quietPart.spu }).spu.ports[(0 : Fin 3)].service = none := by decide

theorem test_hyp_ImageLoadEnds : State.reset.iml.link = .loading ∧ loadImage [] = .error .noDevice ∧ smallPlan.points[(0 : Fin 64)].inUse = true := by
  decide

theorem test_hyp_JournalPosting :
    let j : Journal := ⟨List.replicate 128 ⟨0, .reset .cold 0⟩, #v[128, 127, 0], #v[0, 255, 3], 9⟩
    (j.ring.length = 128 ∧ (∀ p : Fin 3, j.unread[p] ≤ j.ring.length ∧ j.lost[p] ≤ 255)) ∧ (j.push (.veto 0 true)).lost[(0 : Fin 3)] = 1
      ∧ quietPart.jrn.ring.length < 128 := by decide

theorem test_hyp_FaultRaisedAndCleared :
    quietPart.fmn.status[FaultKind.blind.idx] = false ∧ (quietPart.fmn.status.set 1 true)[FaultKind.blind.idx] = true
      ∧ quietPart.pls.active.policy[FaultKind.frameCheck.idx].masked = true ∧ quietPart.pls.active.policy[FaultKind.blind.idx].masked = false
      ∧ quietPart.fmn.pointer = none ∧ (0xff : Byte).toNat + 256 * (0x0f : Byte).toNat < 4096
      ∧ { quietPart with fmn.condBlind := true }.conditionOf .blind = true := by decide

theorem test_hyp_FaultRaisedAndCleared_condition :
    let s : State := { pointPart .shed .empty with flc.reach := (quietPart.flc.reach.set 0 .unreachable).set 15 .unreachable }
    s.pls.active.configured 0 = true ∧ s.flc.reach[(0 : Fin 16)] = .unreachable
      ∧ s.conditionDetail .stationUnreachable = .loadStation 0 ∧ quietPart.conditionDetail .stationUnreachable = .none
      ∧ s.conditionDetail .noPlan = .none := by decide

theorem test_hyp_ManualShedAndRestore :
    ((pointPart .energised .empty).seq.state = .watch ∧ (pointPart .energised .empty).pls.active.rights[(0 : Fin 3)].operate = true
        ∧ (pointPart .energised .empty).spu.ports[(0 : Fin 3)].service = none ∧ (0 : Byte).toNat = (0 : Fin 64).val)
      ∧ (pointPart .failed .empty).pointState 0 = .failed ∧ (pointPart .shed .empty).pointState 0 = .shed
      ∧ smallPlan.points[(0 : Fin 64)].weight ≤ smallPlan.params.inrushBudget ∧ ¬ 101 ≤ Params.factory.inrushBudget
      ∧ (63 : Byte).toNat = (63 : Fin 64).val ∧ (haltedPart .openState).seq.state = .halted := by decide

end Sys2Proof.Tests
end

/-! PROOFS of the family 01_ground_motion_input. -/

namespace Sys2Proof.Machine

/-! ### A step (O1) -/

/-- A step with a command waiting runs it on the queue's rest. -/
theorem step_of_waiting (c : Instr) (rest : List Instr) (s : State) :
    step { s with pending := c :: rest } = exec c { s with pending := rest } := rfl

/-- A step with no command waiting idles (log 1). -/
theorem step_of_idle {s : State} (h : s.pending = []) : step s = .next (idle s) := by
  simp [step, h]

/-- With nothing due, idling lets 1 ms pass (log 1). -/
theorem idle_of_none_due {s : State} (h : s.dueExpiries = []) : idle s = elapse s := by
  simp [idle, h]

/-- With an expiry due, idling queues the first (log 1). -/
theorem idle_of_due {s : State} {i : Instr} {rest : List Instr} (h : s.dueExpiries = i :: rest) :
    idle s = { s with pending := [i] } := by
  simp [idle, h]

/-- The vectors of the state after 1 ms, item by item (R12, R72, R73, R158). -/
theorem elapse_items (s : State) :
    (∀ i : Fin 6, (elapse s).siu[i] = s.siu[i].elapse) ∧ (∀ p : Fin 3, (elapse s).spu.ports[p] = s.spu.ports[p].elapse)
      ∧ ∀ p : Fin 64, (elapse s).ptm.points[p] = s.ptm.points[p].elapse := by
  simp [elapse]

/-- Settles O1: the front command by the definition of a step, and the idle ms item by item. -/
theorem stepRunsFrontCommandOrIdles : Obligations.StepRunsFrontCommandOrIdles := by
  refine ⟨step_of_waiting, fun s empty => ⟨fun none_due => ?_, fun i rest due => ?_⟩, ⟨rfl, fun _ => rfl⟩, fun s => rfl⟩
  · obtain ⟨channels, ports, points⟩ := elapse_items s
    exact ⟨by rw [step_of_idle empty, idle_of_none_due none_due], rfl, rfl, channels, ports, points, rfl, rfl, rfl, rfl, rfl,
      rfl, rfl, rfl, empty⟩
  · rw [step_of_idle empty, idle_of_due due]

/-! ### Bytes at a sensor port (R1, R2) -/

/-- Two changes of one channel are one. -/
theorem State.modChannel_modChannel (s : State) (i : Fin 6) (f g : Channel → Channel) :
    (s.modChannel i f).modChannel i g = s.modChannel i (fun c => g (f c)) := by
  simp [State.modChannel]

/-- The state with the receiver of one channel in a given condition (R1). -/
def State.setRx (s : State) (i : Fin 6) (rx : Rx) : State := s.modChannel i (fun c => { c with rx := rx })

/-- A receiver put where it stands leaves the state. -/
theorem State.setRx_self (s : State) (i : Fin 6) : s.setRx i s.siu[i].rx = s := by
  show { s with siu := s.siu.set i s.siu[i] } = s
  simp

/-- The receiver last put stands. -/
@[simp] theorem State.setRx_setRx (s : State) (i : Fin 6) (a b : Rx) : (s.setRx i a).setRx i b = s.setRx i b :=
  s.modChannel_modChannel i _ _

/-- The channel whose receiver is put. -/
@[simp] theorem State.setRx_channel (s : State) (i : Fin 6) (rx : Rx) : (s.setRx i rx).siu[i.val] = { s.siu[i] with rx := rx } := by
  simp [State.setRx]

/-- A byte at an enabled channel moves the receiver, and a frame that it completes is checked (R1, R2). -/
theorem sensorByte_enabled {s : State} {i : Fin 6} (enabled : s.siu[i].health ≠ .disabled) (b : LineByte) :
    sensorByte i s b = match (s.siu[i].rx.feed 0xc3 12 b).2 with
      | none => s.setRx i (s.siu[i].rx.feed 0xc3 12 b).1
      | some f => checkFrame i f.1 f.2 (s.setRx i (s.siu[i].rx.feed 0xc3 12 b).1) := by
  unfold sensorByte
  rw [if_neg enabled]
  rfl

/-- The start byte in HUNT begins a frame; any other byte is passed over (R1). -/
theorem sensorByte_hunt {s : State} {i : Fin 6} (enabled : s.siu[i].health ≠ .disabled) (hunting : s.siu[i].rx = .hunt)
    (b : LineByte) : sensorByte i s b = if b.val = 0xc3 then s.setRx i (.collect [0xc3] b.bad) else s := by
  rw [sensorByte_enabled enabled, hunting]
  by_cases start : b.val = 0xc3
  · simp [Rx.feed, start]
  · rw [Rx.feed, if_neg start, if_neg start, ← hunting, State.setRx_self]

/-- Bytes that do not complete the frame under collection are gathered (R1). -/
theorem sensorBytes_gathered {s : State} {i : Fin 6} (enabled : s.siu[i].health ≠ .disabled) (l : List LineByte)
    (bytes : List Byte) (bad : Bool) (short : bytes.length + l.length < 12) :
    l.foldl (sensorByte i) (s.setRx i (.collect bytes bad))
      = s.setRx i (.collect (bytes ++ l.map LineByte.val) (bad || l.any LineByte.bad)) := by
  induction l generalizing bytes bad with
  | nil => simp
  | cons b l ih =>
    simp only [List.length_cons] at short
    have one : sensorByte i (s.setRx i (.collect bytes bad)) b = s.setRx i (.collect (bytes ++ [b.val]) (bad || b.bad)) := by
      rw [sensorByte_enabled (by simpa using enabled)]
      simp [Rx.feed, show bytes.length + 1 < 12 by omega]
    rw [List.foldl_cons, one, ih _ _ (by simp; omega)]
    simp [Bool.or_assoc]

/-- The twelfth byte of a frame completes it, and it is checked in HUNT (R1, R2). -/
theorem sensorByte_last {s : State} {i : Fin 6} (enabled : s.siu[i].health ≠ .disabled) (bytes : List Byte) (bad : Bool)
    (b : LineByte) (full : bytes.length = 11) :
    sensorByte i (s.setRx i (.collect bytes bad)) b = checkFrame i (bytes ++ [b.val]) (bad || b.bad) (s.setRx i .hunt) := by
  rw [sensorByte_enabled (by simpa using enabled)]
  simp [Rx.feed, full]

/-- Twelve bytes from the start byte on, at an enabled channel in HUNT, are one frame to check (R1, R2). -/
theorem sensorBytes_frame {s : State} {i : Fin 6} (enabled : s.siu[i].health ≠ .disabled) (hunting : s.siu[i].rx = .hunt)
    (first : LineByte) (middle : List LineByte) (last : LineByte) (start : first.val = 0xc3) (ten : middle.length = 10) :
    (first :: (middle ++ [last])).foldl (sensorByte i) s
      = checkFrame i ((first :: (middle ++ [last])).map LineByte.val) ((first :: (middle ++ [last])).any LineByte.bad) s := by
  rw [List.foldl_cons, List.foldl_append, sensorByte_hunt enabled hunting, if_pos start,
    sensorBytes_gathered enabled _ _ _ (by simp [ten]), List.foldl_cons, List.foldl_nil,
    sensorByte_last enabled _ _ _ (by simp [ten]), ← hunting, State.setRx_self]
  simp [start, Bool.or_assoc]

/-- A list of twelve, split at its ends. -/
theorem exists_ends_of_twelve {α : Type} (l : List α) (h : l.length = 12) :
    ∃ first middle last, l = first :: (middle ++ [last]) ∧ middle.length = 10 := by
  obtain _ | ⟨first, rest⟩ := l
  · cases h
  · obtain rfl | ⟨middle, last, rfl⟩ := List.eq_nil_or_concat rest
    · cases h
    · exact ⟨first, middle, last, by simp, by simpa using h⟩

/-- A frame with a bad check or a stop-bit error is a check error (R2). -/
theorem checkFrame_of_not_good {i : Fin 6} {bytes : List Byte} {bad : Bool} (h : ¬ (checkHolds bytes = true ∧ bad = false))
    (s : State) : checkFrame i bytes bad s = countCheckError i s := by
  have : (bad || !checkHolds bytes) = true := by
    cases bad <;> simp_all
  unfold checkFrame
  rw [if_pos this]

/-- The checks of a frame whose check holds: status, station, self-test (R2). -/
theorem checkFrame_of_good {i : Fin 6} {bad : Bool} {start id seq st xl xh yl yh zl zh c0 c1 : Byte}
    (h : checkHolds [start, id, seq, st, xl, xh, yl, yh, zl, zh, c0, c1] = true ∧ bad = false) (s : State) :
    checkFrame i [start, id, seq, st, xl, xh, yl, yh, zl, zh, c0, c1] bad s
      = if st ≠ 0 ∧ st ≠ 1 then countCheckError i s
        else if id.toNat ≠ i.val then s.modChannel i (fun c => { c with foreign := saturate (c.foreign + 1) })
        else if st = 1 then s.modChannel i (fun c => { c with selfTest := saturate (c.selfTest + 1) })
        else validFrame i seq ⟨axisOf xl xh, axisOf yl yh, axisOf zl zh⟩ s := by
  obtain ⟨sum, clean⟩ := h
  simp [checkFrame, sum, clean]

/-- Settles O20: the twelve bytes are one frame, and its checks are taken one by one. -/
theorem sensorFrameChecks : Obligations.SensorFrameChecks := by
  intro s i bs id seq st xl xh yl yh zl zh c0 c1 enabled hunting bytes good counted
  obtain ⟨first, middle, last, rfl, ten⟩ := exists_ends_of_twelve bs (by simpa using congrArg List.length bytes)
  have start : first.val = 0xc3 := (List.cons.inj bytes).1
  have received := sensorBytes_frame enabled hunting first middle last start ten
  have taken : exec (.sensorFrame i (first :: (middle ++ [last]))) s
      = .next (checkFrame i [0xc3, id, seq, st, xl, xh, yl, yh, zl, zh, c0, c1]
        ((first :: (middle ++ [last])).any LineByte.bad) s) := by
    rw [← bytes, ← received]
    rfl
  simp only [taken, good, bytes]
  refine ⟨fun h => ?_, fun h h0 h1 => ?_, fun h h01 other => ?_, fun h h1 own => ?_, fun h h0 own => ?_⟩
  · rw [checkFrame_of_not_good h]
    rfl
  · rw [checkFrame_of_good h, if_pos ⟨h0, h1⟩]
    rfl
  · rw [checkFrame_of_good h, if_neg (by tauto), if_pos other]
    rfl
  · rw [checkFrame_of_good h, if_neg (by simp [h1]), if_neg (by simpa using own), if_pos h1]
    rfl
  · rw [checkFrame_of_good h, if_neg (by simp [h0]), if_neg (by simpa using own), if_neg (by simp [h0])]

/-! ### An idle on a line (R1, R95, R157) -/

/-- An idle on a sensor port abandons the frame under collection, which is a check error (R1, R2). -/
theorem abandonFrame_collect {s : State} {i : Fin 6} {bytes : List Byte} {bad : Bool}
    (collecting : s.siu[i].rx = .collect bytes bad) :
    abandonFrame i s = raiseFault .frameCheck (.station i)
      { s with siu := s.siu.set i { s.siu[i] with rx := .hunt, checkErrors := min (s.siu[i].checkErrors + 1) 65535 } } := by
  simp only [abandonFrame, collecting, countCheckError, State.modChannel_modChannel]
  rfl

/-- An idle on the loop abandons the frame under collection, and the moment of a timeout is over (R95; log 49). -/
theorem abandonReply_collect {s : State} {bytes : List Byte} {bad : Bool} (collecting : s.flc.rx = .collect bytes bad) :
    abandonReply s = { s with flc := { s.flc with
      rx := .hunt, frameErrors := min (s.flc.frameErrors + 1) 65535, timedOut := false } } := by
  simp only [abandonReply, collecting]
  rfl

/-- The start byte in HUNT begins a frame on a loop at rest; any other byte is passed over (R95). -/
theorem loopByte_hunt {s : State} (released : s.flc.tx = none) (hunting : s.flc.rx = .hunt) (b : LineByte) :
    loopByte s b = if b.val = 0x5b then { s with flc := { s.flc with rx := .collect [0x5b] b.bad } } else s := by
  have on : s.flc.receives = true := by simp [Flc.receives, released]
  unfold loopByte
  rw [if_pos on, hunting]
  by_cases start : b.val = 0x5b
  · simp [Rx.feed, start]
  · rw [Rx.feed, if_neg start, if_neg start, ← hunting]

/-- The start byte in HUNT begins a frame at a supervisory port; any other byte is passed over (R157). -/
theorem requestByte_hunt {s : State} {p : Fin 3} (hunting : s.spu.ports[p].rx = .hunt) (b : LineByte) :
    requestByte p s b = { s with spu := ⟨s.spu.ports.set p
      (if b.val = 0x3c then { s.spu.ports[p] with rx := .collect [0x3c] b.bad } else s.spu.ports[p])⟩ } := by
  unfold requestByte
  rw [hunting]
  by_cases start : b.val = 0x3c
  · simp [Rx.feedRequest, start, State.modPort]
  · rw [Rx.feedRequest, if_neg start, if_neg start, ← hunting]
    rfl

/-- An idle at a supervisory port abandons the frame under collection and counts it (R157). -/
theorem abandonRequest_collect {s : State} {p : Fin 3} {bytes : List Byte} {bad : Bool}
    (collecting : s.spu.ports[p].rx = .collect bytes bad) :
    abandonRequest p s = { s with spu := ⟨s.spu.ports.set p
      { s.spu.ports[p] with rx := .hunt, frameErrors := min (s.spu.ports[p].frameErrors + 1) 65535 }⟩ } := by
  simp only [abandonRequest, collecting, countFrameError]
  simp [State.modPort, saturate]

/-- Settles O24: on each line the partial frame is abandoned, and the next byte is taken in HUNT. -/
theorem idleAbandonsPartialFrame : Obligations.IdleAbandonsPartialFrame := by
  refine ⟨fun s i bytes bad b => ⟨fun enabled collecting => ?_, fun disabled => ?_⟩, fun s bytes bad b released collecting => ?_,
    fun s p bytes bad b collecting => ?_⟩
  · have run (next : Option LineByte) : exec (.sensorIdleAbandon i next) s
        = .next ((optionBytes next).foldl (sensorByte i) (abandonFrame i s)) := by
      simp only [exec, execSensorIdleAbandon, if_neg enabled]
    simp only [run, abandonFrame_collect collecting]
    refine ⟨rfl, congrArg Host.Outcome.next ?_⟩
    exact sensorByte_hunt (by simpa using enabled) (by simp) b
  · simp only [exec, execSensorIdleAbandon, if_pos disabled]
  · simp only [exec, execLoopIdleAbandon, abandonReply_collect collecting]
    refine ⟨rfl, congrArg Host.Outcome.next ?_⟩
    exact loopByte_hunt (by exact released) rfl b
  · simp only [exec, execRequestIdleAbandon, abandonRequest_collect collecting]
    refine ⟨rfl, congrArg Host.Outcome.next ((requestByte_hunt (by simp) b).trans ?_)⟩
    simp

/-! ### A valid frame by the health state (R5 to R10, R21, R30) -/

/-- The gap of R7 without a subtraction of bytes. -/
theorem gapOf_eq (last new : Byte) : gapOf last new = (new.toNat + 255 - last.toNat) % 256 := by
  unfold gapOf
  bv_omega

/-- The window of a station after its clear, and the vote of a HEALTHY one that stood above QUIET (R21, R30). -/
theorem clearWindow_eq (s : State) (i : Fin 6) :
    clearWindow i s = if s.siu[i].health = .healthy ∧ s.mev.evals[i].level ≠ .quiet
      then recompute (s.modEval i StationEval.clear) else s.modEval i StationEval.clear := by
  have cleared : (s.modEval i StationEval.clear).mev.evals[i].level = .quiet := by simp [StationEval.clear]
  simp only [clearWindow, revote, cleared, State.modEval_frame, ne_eq, eq_comm (a := Level.quiet)]

/-- A valid frame of an OFFLINE or LOST station starts settling (R10). -/
theorem validFrame_starts {s : State} {i : Fin 6} (h : s.siu[i].health = .offline ∨ s.siu[i].health = .lost) (seq : Byte)
    (a : Sample) : validFrame i seq a s = startSettling i seq a (s.modChannel i (fun c => { c with gap := some 200 })) := by
  simp only [Fin.getElem_fin] at h
  rcases h with h | h <;> simp [validFrame, h]

/-- A valid frame of a SETTLING or HEALTHY station continues its window (R6 to R9). -/
theorem validFrame_continues {s : State} {i : Fin 6} (h : s.siu[i].health = .settling ∨ s.siu[i].health = .healthy) (seq : Byte)
    (a : Sample) : validFrame i seq a s = continueWindow i seq a (s.modChannel i (fun c => { c with gap := some 200 })) := by
  simp only [Fin.getElem_fin] at h
  rcases h with h | h <;> simp [validFrame, h]

/-- A frame of a station whose last number is known: a duplicate, a long gap, or a short one that is filled (R6 to R9). -/
theorem continueWindow_known {s : State} {i : Fin 6} {last : Byte} (known : s.siu[i].lastSeq = some last) (seq : Byte)
    (a : Sample) :
    continueWindow i seq a s =
      if seq = last then s.modChannel i (fun c => { c with duplicates := saturate (c.duplicates + 1) })
      else if 5 ≤ gapOf last seq then resettle i seq a s
      else (takeSample i a (takeFillers i (gapOf last seq)
        (s.modChannel i (fun c => { c with gapFills := saturate (c.gapFills + gapOf last seq) })))).modChannel i
          (fun c => { c with lastSeq := some seq }) := by
  simp only [continueWindow, known]

/-- A resettling is counted, takes a HEALTHY station back to SETTLING, and starts a new window (R9). -/
theorem resettle_eq (i : Fin 6) (seq : Byte) (a : Sample) (s : State) :
    resettle i seq a s = newWindow i seq a
      (if s.siu[i].health = .healthy
        then setHealth i .settling (s.modChannel i (fun c => { c with resettles := saturate (c.resettles + 1) }))
        else s.modChannel i (fun c => { c with resettles := saturate (c.resettles + 1) })) := by
  simp [resettle]

/-- Settles O21: the health state picks the branch of R5, and the gap the branch of R6 to R9. -/
theorem validFrameHandling : Obligations.ValidFrameHandling := by
  refine ⟨fun s i seq last a => ⟨fun idle => validFrame_starts idle seq a, fun running known => ?_⟩,
    fun s i => ⟨fun votes => ?_, fun silent => ?_⟩, fun _ _ => rfl, fun _ _ _ => rfl⟩
  · have frame := (validFrame_continues running seq a).trans
      (continueWindow_known (last := last) (by simpa using known) seq a)
    refine ⟨fun same => ?_, fun new short => ?_, fun new long => ?_⟩
    · rw [frame, if_pos same]
      rfl
    · rw [frame, if_neg new, if_neg (by rw [gapOf_eq]; omega), gapOf_eq]
      rfl
    · rw [frame, if_neg new, if_pos (by rw [gapOf_eq]; omega), resettle_eq]
      simp only [Fin.getElem_fin, State.modChannel_get_same]
      rfl
  · rw [clearWindow_eq, if_pos votes]
    rfl
  · rw [clearWindow_eq, if_neg silent]
    rfl

/-! ### A change of health (R12, R14, R15, R27, R28, R33) -/

/-- The HEALTHY stations are read from the channels alone. -/
theorem State.healthyStations_congr {s t : State} (h : s.siu = t.siu) : s.healthyStations = t.healthyStations := by
  simp only [State.healthyStations, h]

/-- A health change ends with the HEALTHY channels counted (R28). -/
theorem healthChange_healthy (i : Fin 6) (s : State) :
    (healthChange i s).mev.healthy = (healthChange i s).healthyStations.length := by
  rw [State.healthyStations_congr (healthChange_frame i s).1]
  simp [healthChange]

/-- The channels after a change of health. -/
theorem setHealth_siu (i : Fin 6) (new : Health) (s : State) :
    (setHealth i new s).siu = s.siu.set i { s.siu[i] with health := new } := by
  simp [setHealth, State.modChannel]

/-- The HEALTHY channels are counted after a change of health (R28). -/
theorem setHealth_healthy (i : Fin 6) (new : Health) (s : State) :
    (setHealth i new s).mev.healthy = (setHealth i new s).healthyStations.length :=
  healthChange_healthy i _

/-- A raised fault is SET (R176). -/
theorem raiseFault_sets (k : FaultKind) (d : Detail) (s : State) : (raiseFault k d s).fmn.status[k.idx] = true := by
  simp only [raiseFault]
  split
  · assumption
  · refine raiseOverrun_status _ _ _ _ ?_
    refine driveFault_status _ _ _ (offerFault_status _ _ _ _ _ ?_)
    simp

/-- The expiry of a running gap timer of a SETTLING or HEALTHY station (R12; logs 2, 34). -/
theorem gapExpiry_of_running {s : State} {i : Fin 6} (running : s.siu[i].gap.isSome = true)
    (station : s.siu[i].health = .settling ∨ s.siu[i].health = .healthy) :
    gapExpiry i s = if s.siu[i].health = .healthy
      then raiseFault .stationLost (.station i) (setHealth i .lost (s.modChannel i (fun c => { c with gap := none })))
      else setHealth i .lost (s.modChannel i (fun c => { c with gap := none })) := by
  simp only [gapExpiry, running, station, and_self, if_true]

/-- The channels after the station is lost: health and timer are set at once. -/
theorem lost_siu (s : State) (i : Fin 6) :
    (setHealth i .lost (s.modChannel i (fun c => { c with gap := none }))).siu
      = s.siu.set i { s.siu[i] with health := .lost, gap := none } := by
  rw [setHealth_siu]
  simp [State.modChannel]

/-- A health change as the MEV takes it: the count, the peak, the edge of the count, the vote (R27, R28, R33; log 48). -/
theorem healthChange_eq (s : State) (i : Fin 6) :
    healthChange i s = recompute (healthyCountEdge s.mev.healthy { s with mev := { s.mev with
      healthy := s.healthyStations.length
      peakHealthy := if s.siu[i].health = .healthy ∧ s.mev.peaksStand = false
        then max s.mev.peakHealthy s.mev.evals[i].index else s.mev.peakHealthy } }) := by
  by_cases healthy : s.siu[i].health = .healthy
  · simp only [healthChange, raisePeakHealthy, healthy, true_and]
    cases stand : s.mev.peaksStand <;> rfl
  · simp only [healthChange, raisePeakHealthy, healthy, false_and, if_false]

/-- The first HEALTHY station stops the blind timer and ends BLIND, which is then reported false (R33). -/
theorem healthyCountEdge_rise {s : State} {before : Nat} (none_before : before = 0) (some_now : s.mev.healthy ≠ 0) :
    healthyCountEdge before s = { s with
      mev := { s.mev with blindTimer := none, blind := false }
      fmn := { s.fmn with condBlind := s.fmn.condBlind && !s.mev.blind } } := by
  cases blind : s.mev.blind <;> simp [healthyCountEdge, none_before, some_now, blind, reportFalse, setCondition]

/-- Settles O22: the expiry by its cases, and a change of health through the record, the count, its edge and the vote. -/
theorem gapTimerExpiryLosesStation : Obligations.GapTimerExpiryLosesStation := by
  refine ⟨fun s i running => ?_, fun s i new => ?_, fun s i => healthChange_eq s i, fun s before => ⟨?_, ?_, ?_⟩⟩
  · have run (station) : exec (.gapTimerExpiry i) s = .next _ :=
      congrArg Host.Outcome.next (gapExpiry_of_running running station)
    refine ⟨fun settling => ?_, fun healthy => ?_, fun station => ⟨_, run station, ?_, ?_, ?_, fun healthy => ?_⟩⟩
    · rw [run (.inl settling), if_neg (by rw [settling]; decide)]
      rfl
    · rw [run (.inr healthy), if_pos healthy]
      rfl
    · rw [← lost_siu]
      split <;> simp
    · split <;> simp
    · split <;> simp
    · rw [if_pos healthy]
      exact raiseFault_sets ..
  · exact ⟨setHealth_siu i new s, setHealth_healthy i new s, by simp, by simp, rfl⟩
  · exact healthyCountEdge_rise
  · intro some_before none_now
    simp only [healthyCountEdge, none_now, some_before, ne_eq, not_true, not_false_iff, and_false, and_true, if_false, if_true]
  · intro no_rise no_fall
    simp only [healthyCountEdge, if_neg no_rise, if_neg no_fall]

/-! ### Changes of points and field orders alone -/

/-- The state with another point table and another field loop. -/
def State.withPlant (s : State) (m : Ptm) (f : Flc) : State := { s with ptm := m, flc := f }

/-- A state that differs from another at most in its point table and its field loop. -/
def PlantOnly (s t : State) : Prop := t = s.withPlant t.ptm t.flc

/-- A state with another point table and another field loop differs in them alone. -/
theorem plantOnly_withPlant (s : State) (m : Ptm) (f : Flc) : PlantOnly s (s.withPlant m f) := rfl

/-- Differences in the point table and the field loop alone add up. -/
theorem PlantOnly.trans {s t u : State} (h : PlantOnly s t) (k : PlantOnly t u) : PlantOnly s u := by
  unfold PlantOnly at *
  rw [k, h]
  rfl

/-- What the journal, the ports and the faults read of the state stands with another point table and another field loop. -/
@[simp] theorem State.withPlant_frame (s : State) (m : Ptm) (f : Flc) :
    (s.withPlant m f).pls = s.pls ∧ (s.withPlant m f).spu = s.spu ∧ (s.withPlant m f).jrn = s.jrn
      ∧ (s.withPlant m f).fmn = s.fmn ∧ ∀ k, (s.withPlant m f).policyOf k = s.policyOf k :=
  ⟨rfl, rfl, rfl, rfl, fun _ => rfl⟩

/-- An unread count is noted the same whatever the points and the loop. -/
theorem noteUnread_withPlant (before : Journal) (i : Fin 3) (s : State) (m : Ptm) (f : Flc) :
    noteUnread before i (s.withPlant m f) = (noteUnread before i s).withPlant m f := by
  simp only [noteUnread, State.withPlant_frame]
  split <;> rfl

/-- A record is appended the same whatever the points and the loop. -/
theorem postRecord_withPlant (b : Body) (s : State) (m : Ptm) (f : Flc) :
    postRecord b (s.withPlant m f) = (postRecord b s).withPlant m f := by
  simp only [postRecord, ← noteUnread_withPlant]
  rfl

/-- A fault is offered the same whatever the points and the loop. -/
theorem offerFault_withPlant (k : FaultKind) (d : Detail) (s : State) (m : Ptm) (f : Flc) :
    offerFault k d (s.withPlant m f) = (offerFault k d s).withPlant m f := by
  simp only [offerFault, State.withPlant_frame]
  split
  · rfl
  · cases s.fmn.pointer <;> rfl

/-- The FAULT line is re-evaluated the same whatever the points and the loop. -/
theorem driveFault_withPlant (s : State) (m : Ptm) (f : Flc) : driveFault (s.withPlant m f) = (driveFault s).withPlant m f := rfl

/-- A status set, step by step (R176). -/
theorem setStatus_eq (k : FaultKind) (d : Detail) (s : State) : setStatus k d s
    = driveFault (offerFault k d (postRecord (.fault k d) { s with fmn.status := s.fmn.status.set k.idx true })) := rfl

/-- A status is set the same whatever the points and the loop. -/
theorem setStatus_withPlant (k : FaultKind) (d : Detail) (s : State) (m : Ptm) (f : Flc) :
    setStatus k d (s.withPlant m f) = (setStatus k d s).withPlant m f := by
  have set : { s.withPlant m f with fmn.status := (s.withPlant m f).fmn.status.set k.idx true }
      = { s with fmn.status := s.fmn.status.set k.idx true }.withPlant m f := rfl
  rw [setStatus_eq, setStatus_eq, set, postRecord_withPlant, offerFault_withPlant, driveFault_withPlant]

/-- An overrun is raised the same whatever the points and the loop. -/
theorem raiseOverrun_withPlant (port : Option (Fin 3)) (s : State) (m : Ptm) (f : Flc) :
    raiseOverrun port (s.withPlant m f) = (raiseOverrun port s).withPlant m f := by
  simp only [raiseOverrun, State.withPlant_frame]
  cases port with
  | none => rfl
  | some i =>
    dsimp only
    split
    · rfl
    · exact setStatus_withPlant ..

/-- A record is posted the same whatever the points and the loop. -/
theorem post_withPlant (b : Body) (s : State) (m : Ptm) (f : Flc) : post b (s.withPlant m f) = (post b s).withPlant m f := by
  simp only [post, postRecord_withPlant, raiseOverrun_withPlant, State.withPlant_frame]

/-- A record posted leaves a difference in the points and the loop alone. -/
theorem PlantOnly.post {s t : State} (h : PlantOnly s t) (b : Body) : PlantOnly (Machine.post b s) (Machine.post b t) := by
  unfold PlantOnly at h ⊢
  rw [h, post_withPlant]
  rfl

/-! ### What the Point Manager's operations change -/

/-- Changing a point entry changes the point table alone. -/
theorem modPoint_plantOnly (s : State) (p : Fin 64) (f : PointEntry → PointEntry) : PlantOnly s (s.modPoint p f) := rfl

/-- A lamp posted changes the field loop alone. -/
theorem postLamp_plantOnly (m : Lamp) (p : Fin 64) (s : State) : PlantOnly s (postLamp m p s) := rfl

/-- A withdrawal changes the field loop alone. -/
theorem withdraw_plantOnly (p : Fin 64) (s : State) : PlantOnly s (withdraw p s) := by
  unfold withdraw
  split <;> rfl

/-- The mark of an order in flight changes the field loop alone. -/
theorem voidOrder_plantOnly (p : Fin 64) (s : State) : PlantOnly s (voidOrder p s) := by
  unfold voidOrder
  (repeat' split) <;> rfl

/-- A lamp re-evaluated changes the points and the field loop alone. -/
theorem settleLamp_plantOnly (p : Fin 64) (old : PointState) (s : State) : PlantOnly s (settleLamp p old s) := by
  unfold settleLamp
  dsimp only
  split
  · exact (modPoint_plantOnly ..).trans (postLamp_plantOnly ..)
  · rfl

/-- A change of point state changes the points alone, beside its record (R79, R80). -/
theorem changePoint_plantOnly (p : Fin 64) (new : PointState) (c : Cause) (s : State) :
    PlantOnly (post (.point p (s.pointState p) new c) s) (changePoint p new c s) :=
  (plantOnly_withPlant s _ s.flc).post _

/-- A change of point state with its lamp changes the points and the field loop alone, beside its record. -/
theorem movePoint_plantOnly (p : Fin 64) (new : PointState) (c : Cause) (s : State) :
    PlantOnly (post (.point p (s.pointState p) new c) s) (movePoint p new c s) :=
  (changePoint_plantOnly p new c s).trans (settleLamp_plantOnly ..)

/-- The entries after a change of point state. -/
theorem changePoint_points (p : Fin 64) (new : PointState) (c : Cause) (s : State) :
    (changePoint p new c s).ptm.points = s.ptm.points.set p (s.ptm.points[p].enter new c) := by
  simp [changePoint, State.modPoint]

/-- A lamp re-evaluated changes no more than the lamp of its point (R78). -/
theorem settleLamp_points (p : Fin 64) (old : PointState) (s : State) :
    ∃ m, (settleLamp p old s).ptm.points = s.ptm.points.set p { s.ptm.points[p] with lamp := m } := by
  unfold settleLamp
  dsimp only
  split
  · exact ⟨commandedLamp s.pls.active p s.ptm.points[p], by simp [State.modPoint]⟩
  · refine ⟨s.ptm.points[p].lamp, ?_⟩
    show _ = s.ptm.points.set p s.ptm.points[p]
    simp

/-- The entries after a change of point state with its lamp. -/
theorem movePoint_points (p : Fin 64) (new : PointState) (c : Cause) (s : State) :
    ∃ m, (movePoint p new c s).ptm.points = s.ptm.points.set p { s.ptm.points[p].enter new c with lamp := m } := by
  obtain ⟨m, h⟩ := settleLamp_points p s.ptm.points[p].state (changePoint p new c s)
  exact ⟨m, by rw [movePoint, h, changePoint_points]; simp⟩

/-! ### The field loop's slots and its choice (R87 to R92) -/

/-- An order waits in its slot (R87 to R90). -/
def Flc.pending (f : Flc) : Order → Prop
  | .motion k p => f.motion[p] = .pending k
  | .lamp m p => f.lamps[p] = some m
  | .poll st => f.polls[st] = true
  | .tripAll => f.broadcast = true

/-- An order waits in its slot or is in flight. -/
def Flc.posted (f : Flc) (o : Order) : Prop := f.pending o ∨ ∃ g, f.inFlight = some g ∧ g.order = o

/-- The lowest point found with a pending motion order has one. -/
theorem Flc.firstMotion_pending {f : Flc} {k : MotionKind} {p : Fin 64} (h : f.firstMotion k = some p) :
    f.pending (.motion k p) := by
  simpa [Flc.pending] using List.find?_some h

/-- The order that R91 chooses waits in its slot. -/
theorem Flc.nextOrder_pending {f : Flc} {o : Order} (h : f.nextOrder = some o) : f.pending o := by
  unfold Flc.nextOrder at h
  split at h
  · next trip => cases h; exact trip
  split at h
  · next found => cases h; exact firstMotion_pending found
  split at h
  · next found => cases h; exact firstMotion_pending found
  split at h
  · next found => cases h; exact firstMotion_pending found
  split at h
  · next found =>
    cases h
    obtain ⟨p, -, lamp⟩ := List.exists_of_findSome?_eq_some found
    obtain ⟨m, held, rfl⟩ := Option.map_eq_some_iff.mp lamp
    exact held
  · obtain ⟨st, found, rfl⟩ := Option.map_eq_some_iff.mp h
    exact List.find?_some (p := fun st => f.polls[st]) found

/-- The FLC's choice: none while an order is in flight or none waits, else the first attempt of one that waits (R91 to R93). -/
theorem Flc.choose_cases (f : Flc) :
    f.choose = f ∨ ∃ o, f.inFlight = none ∧ f.pending o ∧ f.choose = (f.leaveSlot o).attempt o 1 false := by
  unfold Flc.choose
  split
  · exact .inl rfl
  · next idle =>
    split
    · exact .inl rfl
    · next o chosen => exact .inr ⟨o, idle, nextOrder_pending chosen, rfl⟩

/-- The FLC does not choose while an order is in flight (R92). -/
theorem Flc.choose_busy {f : Flc} {g : InFlight} (h : f.inFlight = some g) : f.choose = f := by
  simp [Flc.choose, h]

/-- An order that leaves its slot leaves every other order in its own (R91). -/
theorem Flc.leaveSlot_pending {f : Flc} {o other : Order} (h : f.pending o) (ho : f.pending other) (ne : o ≠ other) :
    (f.leaveSlot o).pending other := by
  cases o with
  | motion k p =>
    cases other with
    | motion j q =>
      have apart : p ≠ q := by
        rintro rfl
        have same : MotionSlot.pending k = .pending j := Eq.trans (Eq.symm h) ho
        exact ne (by cases same; rfl)
      exact (vector_set_other _ _ _ _ apart).trans ho
    | _ => exact ho
  | lamp m p =>
    cases other with
    | lamp n q =>
      have apart : p ≠ q := by
        rintro rfl
        have same : some m = some n := Eq.trans (Eq.symm h) ho
        exact ne (by cases same; rfl)
      exact (vector_set_other _ _ _ _ apart).trans ho
    | _ => exact ho
  | poll st =>
    cases other with
    | poll st' => exact (vector_set_other _ _ _ _ (fun h => ne (congrArg _ h))).trans ho
    | _ => exact ho
  | tripAll =>
    cases other with
    | tripAll => exact absurd rfl ne
    | _ => exact ho

/-- The choice keeps every order that was posted: in its slot, or in flight. -/
theorem Flc.choose_posted {f : Flc} {o : Order} (h : f.posted o) : f.choose.posted o := by
  rcases f.choose_cases with stays | ⟨chosen, idle, waits, chose⟩
  · rwa [stays]
  · rw [chose]
    rcases h with pending | ⟨g, flying, -⟩
    · by_cases same : chosen = o
      · exact .inr ⟨_, rfl, same⟩
      · exact .inl (leaveSlot_pending waits pending same)
    · rw [idle] at flying
      cases flying

/-- The choice leaves a motion slot whose order is in flight. -/
theorem Flc.choose_motion_inFlight {f : Flc} {p : Fin 64} {k : MotionKind} (h : f.motion[p] = .inFlight k) :
    f.choose.motion[p] = .inFlight k := by
  rcases f.choose_cases with stays | ⟨chosen, -, waits, chose⟩
  · rwa [stays]
  · rw [chose]
    cases chosen with
    | motion j q =>
      have apart : q ≠ p := by
        rintro rfl
        rw [show f.motion[q] = .pending j from waits] at h
        cases h
      exact (vector_set_other _ _ _ _ apart).trans h
    | lamp => exact h
    | poll => exact h
    | tripAll => exact h

/-! ### A point that leaves use (R59, R69) -/

/-- A withdrawal leaves the order in flight and the lamp slots (R90). -/
theorem withdraw_leaves (p : Fin 64) (s : State) :
    (withdraw p s).flc.inFlight = s.flc.inFlight ∧ (withdraw p s).flc.lamps = s.flc.lamps := by
  unfold withdraw
  split <;> exact ⟨rfl, rfl⟩

/-- A withdrawal empties a pending motion slot (R90). -/
theorem withdraw_pending {s : State} {p : Fin 64} {k : MotionKind} (h : s.flc.motion[p] = .pending k) :
    (withdraw p s).flc.motion[p] = .empty := by
  simp only [withdraw, h, vector_set_self]

/-- A withdrawal leaves a motion slot whose order is in flight (R90). -/
theorem withdraw_inFlight {s : State} {p : Fin 64} {k : MotionKind} (h : s.flc.motion[p] = .inFlight k) :
    (withdraw p s).flc.motion[p] = .inFlight k := by
  simp only [withdraw, h]

/-- The mark of an order in flight leaves the motion and the lamp slots (log 19). -/
theorem voidOrder_slots (p : Fin 64) (s : State) :
    (voidOrder p s).flc.motion = s.flc.motion ∧ (voidOrder p s).flc.lamps = s.flc.lamps := by
  unfold voidOrder
  (repeat' split) <;> exact ⟨rfl, rfl⟩

/-- The motion order of the point that is in flight is marked (log 19). -/
theorem voidOrder_own {s : State} {p : Fin 64} {k : MotionKind} {f : InFlight} (flying : s.flc.inFlight = some f)
    (own : f.order = .motion k p) : (voidOrder p s).flc.inFlight = some { f with voided := true } := by
  simp [voidOrder, flying, own]

/-- Any other order in flight stands (log 19). -/
theorem voidOrder_other {s : State} {p : Fin 64} {f : InFlight} (flying : s.flc.inFlight = some f)
    (other : ∀ k, f.order ≠ .motion k p) : voidOrder p s = s := by
  simp only [voidOrder, flying]
  split
  · next k q order => rw [if_neg (by rintro rfl; exact other k order)]
  all_goals rfl

/-- The state in which LAMP OFF has been posted for a point that leaves use (R59). -/
def State.lampOff (s : State) (p : Fin 64) : State := postLamp .off p (s.modPoint p (fun e => { e with lamp := .off }))

/-- The field loop after LAMP OFF has been posted: the FLC chooses at once (R92). -/
theorem State.lampOff_flc (s : State) (p : Fin 64) :
    (s.lampOff p).flc = { s.flc with lamps := s.flc.lamps.set p (some .off) }.choose := rfl

/-- With an order in flight the lamp waits in its slot (R92). -/
theorem State.lampOff_busy {s : State} {f : InFlight} (flying : s.flc.inFlight = some f) (p : Fin 64) :
    (s.lampOff p).flc = { s.flc with lamps := s.flc.lamps.set p (some .off) } := by
  rw [State.lampOff_flc]
  exact Flc.choose_busy (by exact flying)

/-- A point leaves use in three strokes: the lamp, the slots, the change of state (R59). -/
theorem leaveUse_eq (p : Fin 64) (s : State) :
    leaveUse p s = changePoint p .unused .manual (voidOrder p (withdraw p (s.lampOff p))) := rfl

/-- The field loop after a point has left use. -/
theorem leaveUse_flc (p : Fin 64) (s : State) : (leaveUse p s).flc = (voidOrder p (withdraw p (s.lampOff p))).flc := by
  simp [leaveUse_eq]

/-- The entries after a point has left use. -/
theorem leaveUse_points (p : Fin 64) (s : State) : (leaveUse p s).ptm.points
    = s.ptm.points.set p (({ s.ptm.points[p] with lamp := .off } : PointEntry).enter .unused .manual) := by
  rw [leaveUse_eq, changePoint_points]
  simp [State.lampOff, State.modPoint]

/-- A point that leaves use changes the points and the field loop alone, beside its record. -/
theorem leaveUse_plantOnly (p : Fin 64) (s : State) :
    PlantOnly (post (.point p (s.pointState p) .unused .manual) s) (leaveUse p s) := by
  have before : PlantOnly s (voidOrder p (withdraw p (s.lampOff p))) :=
    (((modPoint_plantOnly ..).trans (postLamp_plantOnly ..)).trans (withdraw_plantOnly ..)).trans (voidOrder_plantOnly ..)
  have same : (voidOrder p (withdraw p (s.lampOff p))).pointState p = s.pointState p := by
    simp [State.pointState, State.lampOff]
  have changed := changePoint_plantOnly p .unused .manual (voidOrder p (withdraw p (s.lampOff p)))
  rw [same] at changed
  exact (before.post _).trans changed

/-- The point's motion order in flight keeps its slot (R87). -/
theorem leaveUse_motion_inFlight {s : State} {p : Fin 64} {k : MotionKind} (h : s.flc.motion[p] = .inFlight k) :
    (leaveUse p s).flc.motion[p] = .inFlight k := by
  rw [leaveUse_flc, (voidOrder_slots ..).1]
  refine withdraw_inFlight ?_
  rw [State.lampOff_flc]
  exact Flc.choose_motion_inFlight h

/-- While an order is in flight, the point's pending motion order is withdrawn (R59). -/
theorem leaveUse_motion_pending {s : State} {p : Fin 64} {k : MotionKind} {f : InFlight} (flying : s.flc.inFlight = some f)
    (h : s.flc.motion[p] = .pending k) : (leaveUse p s).flc.motion[p] = .empty := by
  rw [leaveUse_flc, (voidOrder_slots ..).1]
  exact withdraw_pending (k := k) (by rw [State.lampOff_busy flying]; exact h)

/-- The lamp slots after a point has left use are those after the lamp was posted. -/
theorem leaveUse_lamps (p : Fin 64) (s : State) : (leaveUse p s).flc.lamps = (s.lampOff p).flc.lamps := by
  rw [leaveUse_flc, (voidOrder_slots ..).2, (withdraw_leaves ..).2]

/-- The order in flight is marked if it is a motion order of the point (R59, R69; log 19). -/
theorem leaveUse_own {s : State} {p : Fin 64} {k : MotionKind} {f : InFlight} (flying : s.flc.inFlight = some f)
    (own : f.order = .motion k p) : (leaveUse p s).flc.inFlight = some { f with voided := true } := by
  rw [leaveUse_flc]
  refine voidOrder_own ?_ own
  rw [(withdraw_leaves ..).1, State.lampOff_busy flying]
  exact flying

/-- Any other order in flight after the lamp was posted stands (log 19). -/
theorem leaveUse_other {s : State} {p : Fin 64} {f : InFlight} (flying : (s.lampOff p).flc.inFlight = some f)
    (other : ∀ k, f.order ≠ .motion k p) : (leaveUse p s).flc.inFlight = some f := by
  have stands := flying
  rw [← (withdraw_leaves p (s.lampOff p)).1] at stands
  rw [leaveUse_flc, voidOrder_other stands other, stands]

/-- On an idle loop the LAMP OFF waits in its slot or is in flight (R88, R92). -/
theorem leaveUse_lamp_posted (p : Fin 64) (s : State) :
    (leaveUse p s).flc.lamps[p] = some .off ∨ ∃ f, (leaveUse p s).flc.inFlight = some f ∧ f.order = .lamp .off p := by
  have posted : (s.lampOff p).flc.posted (.lamp .off p) := by
    rw [State.lampOff_flc]
    exact Flc.choose_posted (.inl (vector_set_self ..))
  rcases posted with waits | ⟨f, flying, lamp⟩
  · exact .inl (by rw [leaveUse_lamps]; exact waits)
  · exact .inr ⟨f, leaveUse_other flying (by simp [lamp]), lamp⟩

/-! ### A point and a channel at a commit (R15, R16, R59) -/

/-- A manual restore taken back changes the points and the field loop alone, beside its record (R151). -/
theorem cancelPoint_plantOnly (p : Fin 64) (s : State) :
    PlantOnly (post (.point p (s.pointState p) .shed .cancelled) s) (cancelPoint p s) := by
  have moved := movePoint_plantOnly p .shed .cancelled (withdraw p s)
  rw [show (withdraw p s).pointState p = s.pointState p by simp [State.pointState]] at moved
  exact ((withdraw_plantOnly p s).post _).trans moved

/-- The entries after a point has been cancelled. -/
theorem cancelPoint_points (p : Fin 64) (s : State) :
    ∃ m, (cancelPoint p s).ptm.points = s.ptm.points.set p { s.ptm.points[p].enter .shed .cancelled with lamp := m } := by
  obtain ⟨m, h⟩ := movePoint_points p .shed .cancelled (withdraw p s)
  exact ⟨m, h.trans (by simp)⟩

/-- A commit of one point writes no other point's entry. -/
theorem commitPoint_points (old : Plan) (s : State) (p : Fin 64) :
    ∃ e, (commitPoint old s p).ptm.points = s.ptm.points.set p e := by
  have stands : ∃ e, s.ptm.points = s.ptm.points.set p e := ⟨s.ptm.points[p], by simp⟩
  unfold commitPoint
  split
  · exact ⟨_, leaveUse_points p s⟩
  · obtain ⟨m, entries⟩ := movePoint_points p .unknown .manual s
    exact ⟨_, entries⟩
  · unfold recheckManual
    split
    · obtain ⟨m, entries⟩ := cancelPoint_points p s
      exact ⟨_, entries⟩
    · exact stands
  · exact stands

/-- No other point's entry changes at a commit of one point. -/
theorem commitPoint_other (old : Plan) (s : State) {p q : Fin 64} (h : q ≠ p) :
    (commitPoint old s p).ptm.points[q] = s.ptm.points[q] := by
  obtain ⟨e, entries⟩ := commitPoint_points old s p
  simpa only [entries] using vector_set_other s.ptm.points p q e h.symm

/-- A change of health of a channel that is changed beside it: the channels, the count, and the record before the hand-over. -/
theorem setHealth_modChannel (i : Fin 6) (new : Health) (f : Channel → Channel) (s : State)
    (same : (f s.siu[i]).health = s.siu[i].health) :
    let t := setHealth i new (s.modChannel i f)
    let c : Channel := { f s.siu[i] with health := new }
    t.siu = s.siu.set i c ∧ t.mev.healthy = t.healthyStations.length
      ∧ t = healthChange i (post (.station i s.siu[i].health c.health) { s with siu := s.siu.set i c }) := by
  refine ⟨?_, setHealth_healthy .., ?_⟩
  · rw [setHealth_siu]
    simp [State.modChannel]
  · have before : (s.modChannel i f).siu[i].health = s.siu[i].health := by simpa using same
    unfold setHealth
    rw [before, State.modChannel_modChannel]
    rfl

/-- Settles O53: a point by the four cases of its in-use fields, a channel by those of its enabled field. -/
theorem commitPointsAndStations : Obligations.CommitPointsAndStations := by
  refine fun old s => ⟨fun p => ⟨fun q other => commitPoint_other old s other, fun was is => ?_, fun was is => ?_,
    fun was is => ?_, fun was is => ?_⟩, fun i => ⟨fun same => ?_, fun was is => ?_, fun was is => ?_⟩⟩
  · simp only [commitPoint, was, is]
  · have enters : commitPoint old s p = movePoint p .unknown .manual s := by simp only [commitPoint, was, is]
    obtain ⟨m, entries⟩ := movePoint_points p .unknown .manual s
    simp only [enters, State.pointState, entries, vector_set_self]
    exact ⟨rfl, rfl, movePoint_plantOnly ..⟩
  · have leaves : commitPoint old s p = leaveUse p s := by simp only [commitPoint, was, is]
    simp only [leaves, State.pointState, leaveUse_points, vector_set_self]
    refine ⟨rfl, rfl, ?_, ?_, rfl, leaveUse_plantOnly p s, fun k => leaveUse_motion_inFlight, fun f k => leaveUse_own,
      fun f flying => leaveUse_other (by rw [State.lampOff_busy flying]; exact flying), fun f k => leaveUse_motion_pending,
      fun busy => ?_, fun _ => leaveUse_lamp_posted p s⟩
    · simp [PointEntry.enter]
    · simp [PointEntry.enter, PointState.keepsManual]
    · obtain ⟨f, flying⟩ := Option.ne_none_iff_exists'.mp busy
      rw [leaveUse_lamps, State.lampOff_busy flying]
  · have stays : commitPoint old s p = recheckManual p s := by simp only [commitPoint, was, is]
    simp only [stays]
    refine ⟨fun heavy => ?_, fun light => if_neg light⟩
    obtain ⟨m, entries⟩ := cancelPoint_points p s
    have cancels : recheckManual p s = cancelPoint p s := if_pos heavy
    simp only [cancels, State.pointState, entries, vector_set_self]
    exact ⟨rfl, rfl, by simp [PointEntry.enter, PointState.keepsManual], cancelPoint_plantOnly ..⟩
  · unfold commitStation
    rw [same]
    cases s.pls.active.stations[i].enabled <;> rfl
  · have starts : commitStation old s i
        = setHealth i .offline (s.modChannel i (fun c => { Channel.start with health := c.health })) := by
      simp only [commitStation, was, is]
    simp only [starts]
    exact setHealth_modChannel i .offline _ s rfl
  · have stops : commitStation old s i
        = setHealth i .disabled (s.modChannel i (fun c => { c with rx := .hunt, gap := none })) := by
      simp only [commitStation, was, is]
    simp only [stops]
    exact setHealth_modChannel i .disabled _ s rfl

/-! ### The hand-overs at the end of a load (R4, R64, R156, R186) -/

/-- A fold that takes the items of a vector one after another, each by a rule of the plan, changes each listed item once. -/
theorem foldl_items {α : Type} {n : Nat} (items : State → Vector α n) (g : State → Fin n → State)
    (rule : Plan → Fin n → α → α) (plan : ∀ s i, (g s i).pls = s.pls)
    (one : ∀ s i, items (g s i) = (items s).set i (rule s.pls.active i (items s)[i])) (l : List (Fin n)) (once : l.Nodup)
    (s : State) (i : Fin n) :
    (items (l.foldl g s))[i] = if i ∈ l then rule s.pls.active i (items s)[i] else (items s)[i] := by
  induction l generalizing s with
  | nil => simp
  | cons j l ih =>
    obtain ⟨fresh, once⟩ := List.nodup_cons.mp once
    rw [List.foldl_cons, ih once]
    simp only [plan, one, List.mem_cons]
    by_cases same : i = j
    · subst same
      simp [fresh]
    · simp only [vector_set_other _ _ _ _ (Ne.symm same), same, false_or]

/-- The items after such a fold over all of them. -/
theorem foldl_items_all {α : Type} {n : Nat} (items : State → Vector α n) (g : State → Fin n → State)
    (rule : Plan → Fin n → α → α) (plan : ∀ s i, (g s i).pls = s.pls)
    (one : ∀ s i, items (g s i) = (items s).set i (rule s.pls.active i (items s)[i])) (s : State) (i : Fin n) :
    (items ((List.finRange n).foldl g s))[i] = rule s.pls.active i (items s)[i] := by
  rw [foldl_items items g rule plan one _ (List.nodup_finRange n), if_pos (List.mem_finRange i)]

/-- A channel at the end of the load under a plan (R4). -/
def Plan.loadedChannel (pl : Plan) (i : Fin 6) (c : Channel) : Channel :=
  if pl.stations[i].enabled then { c with rx := .hunt, health := .offline } else c

/-- A point entry at the end of the load under a plan (R64). -/
def Plan.loadedPoint (pl : Plan) (p : Fin 64) (e : PointEntry) : PointEntry :=
  if pl.points[p].inUse then { e with state := .unknown, cause := .none } else e

/-- The channels after one station has been taken at the end of the load. -/
theorem enableStation_siu (s : State) (i : Fin 6) :
    (enableStation s i).siu = s.siu.set i (s.pls.active.loadedChannel i s.siu[i]) := by
  unfold enableStation Plan.loadedChannel
  split
  · rw [setHealth_siu]
    simp [State.modChannel]
  · simp

/-- The entries after one point has been taken at the end of the load. -/
theorem enterUse_points (s : State) (p : Fin 64) :
    (enterUse s p).ptm.points = s.ptm.points.set p (s.pls.active.loadedPoint p s.ptm.points[p]) := by
  unfold enterUse Plan.loadedPoint State.inUse
  split
  · rfl
  · simp

/-- The watermark of a port taken from the plan in force (R156). -/
theorem takeWatermark_eq (s : State) (p : Fin 3) : takeWatermark s p
    = { s with spu := ⟨s.spu.ports.set p { s.spu.ports[p] with watermark := s.pls.active.params.watermark }⟩ } := rfl

/-- The channels after every station has been taken (R4). -/
theorem enableStations_channel (s : State) (i : Fin 6) :
    ((List.finRange 6).foldl enableStation s).siu[i] = s.pls.active.loadedChannel i s.siu[i] :=
  foldl_items_all State.siu enableStation Plan.loadedChannel (by simp) enableStation_siu s i

/-- The entries after every point has been taken (R64). -/
theorem enterUses_point (s : State) (q : Fin 64) :
    (allPoints.foldl enterUse s).ptm.points[q] = s.pls.active.loadedPoint q s.ptm.points[q] := by
  unfold allPoints
  exact foldl_items_all (fun t => t.ptm.points) enterUse Plan.loadedPoint (by simp) enterUse_points s q

/-- The ports after every port has taken the watermark (R156). -/
theorem takeWatermarks_port (s : State) (p : Fin 3) : ((List.finRange 3).foldl takeWatermark s).spu.ports[p]
    = { s.spu.ports[p] with watermark := s.pls.active.params.watermark } :=
  foldl_items_all (fun t => t.spu.ports) takeWatermark (fun pl _ q => { q with watermark := pl.params.watermark })
    (by simp) (fun _ _ => rfl) s p

/-- The stations and the blind timer at the end of the load. -/
def State.stationsLoaded (s : State) : State := { (List.finRange 6).foldl enableStation s with mev.blindTimer := some 0 }

/-- The stations, the blind timer, the points and the poll timer at the end of the load. -/
def State.pointsLoaded (s : State) : State :=
  let points := allPoints.foldl enterUse s.stationsLoaded
  { points with flc.pollTimer := some points.pls.active.params.pollInterval }

/-- What the hand-over of the stations leaves, and what it writes. -/
theorem State.stationsLoaded_items (s : State) : s.stationsLoaded.pls = s.pls
    ∧ s.stationsLoaded.siu = ((List.finRange 6).foldl enableStation s).siu ∧ s.stationsLoaded.mev.blindTimer = some 0 := by
  simp [State.stationsLoaded]

/-- What the hand-over of the points leaves, and what it writes. -/
theorem State.pointsLoaded_items (s : State) : s.pointsLoaded.pls = s.pls ∧ s.pointsLoaded.mev = s.stationsLoaded.mev
    ∧ s.pointsLoaded.siu = s.stationsLoaded.siu ∧ s.pointsLoaded.ptm = (allPoints.foldl enterUse s.stationsLoaded).ptm
    ∧ s.pointsLoaded.flc.pollTimer = some s.pls.active.params.pollInterval := by
  simp [State.pointsLoaded, State.stationsLoaded_items]

/-- The hand-overs in their order: stations, blind timer, points, poll timer, watermarks, FAULT line (log 10). -/
theorem loadHandOver_eq (s : State) :
    loadHandOver s = driveFault ((List.finRange 3).foldl takeWatermark s.pointsLoaded) := by
  have ports : List.finRange 3 = [0, 1, 2] := rfl
  rw [ports]
  dsimp only [loadHandOver, State.pointsLoaded, State.stationsLoaded]

/-- The FAULT line stands as the statuses say once it has been re-evaluated (R180). -/
theorem driveFault_faultLineOk (s : State) : FaultLineOk (driveFault s) := driveFault_line s

/-- Watermarks taken change the ports alone. -/
theorem takeWatermarks_frame (l : List (Fin 3)) (s : State) :
    (l.foldl takeWatermark s).siu = s.siu ∧ (l.foldl takeWatermark s).mev = s.mev ∧ (l.foldl takeWatermark s).ptm = s.ptm
      ∧ (l.foldl takeWatermark s).flc = s.flc ∧ (l.foldl takeWatermark s).pls = s.pls := by
  simp

/-- What the watermarks and the FAULT line leave of the hand-overs. -/
theorem loadHandOver_blocks (s : State) :
    (loadHandOver s).siu = s.pointsLoaded.siu ∧ (loadHandOver s).mev = s.pointsLoaded.mev
      ∧ (loadHandOver s).ptm = s.pointsLoaded.ptm ∧ (loadHandOver s).flc = s.pointsLoaded.flc := by
  simp only [loadHandOver_eq, driveFault_frame, takeWatermarks_frame, and_self]

/-- The channels after the hand-overs (R4). -/
theorem loadHandOver_channel (s : State) (i : Fin 6) : (loadHandOver s).siu[i] = s.pls.active.loadedChannel i s.siu[i] := by
  simp only [loadHandOver_blocks, State.pointsLoaded_items, State.stationsLoaded_items, enableStations_channel]

/-- The entries after the hand-overs: those in use are UNKNOWN with cause NONE (R64). -/
theorem loadHandOver_point {s : State} {q : Fin 64} (used : s.inUse q = true) :
    (loadHandOver s).pointState q = .unknown ∧ (loadHandOver s).ptm.points[q].cause = .none := by
  have entry : (loadHandOver s).ptm.points[q] = s.pls.active.loadedPoint q s.stationsLoaded.ptm.points[q] := by
    simp only [loadHandOver_blocks, State.pointsLoaded_items, enterUses_point, State.stationsLoaded_items]
  have loaded : s.pls.active.loadedPoint q s.stationsLoaded.ptm.points[q]
      = { s.stationsLoaded.ptm.points[q] with state := .unknown, cause := .none } := if_pos used
  simp only [State.pointState, entry, loaded, and_self]

/-- The watermarks after the hand-overs (R156; log 44). -/
theorem loadHandOver_watermark (s : State) (p : Fin 3) :
    (loadHandOver s).spu.ports[p].watermark = s.pls.active.params.watermark := by
  simp only [loadHandOver_eq, driveFault_frame, takeWatermarks_port, State.pointsLoaded_items]

/-! ### The start-up poll round (R103) -/

/-- The choice leaves the start-up marks. -/
theorem Flc.choose_marks (f : Flc) : f.choose.marks = f.marks := by
  rcases f.choose_cases with stays | ⟨o, -, -, chose⟩
  · rw [stays]
  · rw [chose]
    cases o <;> rfl

/-- A poll of a station changes the field loop alone (R103; log 8). -/
theorem pollStation_eq (s : State) (st : Fin 16) : pollStation s st =
    if s.pls.active.configured st then { s with flc := { s.flc with polls := s.flc.polls.set st true }.choose } else s := rfl

/-- Polls of stations change the field loop alone. -/
theorem pollStations_flc (l : List (Fin 16)) (s : State) :
    l.foldl pollStation s = { s with flc := (l.foldl pollStation s).flc } := by
  induction l generalizing s with
  | nil => rfl
  | cons st l ih =>
    rw [List.foldl_cons, ih, pollStation_eq]
    split <;> rfl

/-- Polls of stations leave the start-up marks. -/
theorem pollStations_marks (l : List (Fin 16)) (s : State) : (l.foldl pollStation s).flc.marks = s.flc.marks := by
  induction l generalizing s with
  | nil => rfl
  | cons st l ih =>
    rw [List.foldl_cons, ih, pollStation_eq]
    split
    · exact Flc.choose_marks _
    · rfl

/-- A poll posted stays posted while another is posted (R89). -/
theorem pollStation_keeps_posted {s : State} {o : Order} (h : s.flc.posted o) (st : Fin 16) : (pollStation s st).flc.posted o := by
  rw [pollStation_eq]
  split
  · refine Flc.choose_posted ?_
    rcases h with waits | flying
    · refine .inl ?_
      cases o with
      | poll other =>
        by_cases same : st = other
        · subst same
          exact vector_set_self ..
        · exact (vector_set_other _ _ _ _ same).trans waits
      | _ => exact waits
    · exact .inr flying
  · exact h

/-- The poll of a configured station is posted (R103). -/
theorem pollStation_posts {s : State} {st : Fin 16} (h : s.pls.active.configured st = true) :
    (pollStation s st).flc.posted (.poll st) := by
  rw [pollStation_eq, if_pos h]
  exact Flc.choose_posted (.inl (vector_set_self ..))

/-- Polls of stations keep what was posted. -/
theorem pollStations_keep_posted {o : Order} (l : List (Fin 16)) {s : State} (h : s.flc.posted o) :
    (l.foldl pollStation s).flc.posted o := by
  induction l generalizing s with
  | nil => exact h
  | cons st l ih => exact ih (pollStation_keeps_posted h st)

/-- The poll of each configured station listed is posted (R103). -/
theorem pollStations_post {st : Fin 16} (l : List (Fin 16)) (listed : st ∈ l) {s : State}
    (h : s.pls.active.configured st = true) : (l.foldl pollStation s).flc.posted (.poll st) := by
  induction l generalizing s with
  | nil => cases listed
  | cons other l ih =>
    rcases List.mem_cons.mp listed with rfl | later
    · exact pollStations_keep_posted l (pollStation_posts h)
    · exact ih later (by simpa using h)

/-- The start-up poll round: every configured station is marked, and its poll is posted (R103). -/
theorem beginRound_marked (s : State) : ∃ t, beginRound s = settle (checkRound t) ∧ t = { s with flc := t.flc }
    ∧ ∀ st : Fin 16, t.flc.marks[st] = s.pls.active.configured st
      ∧ (s.pls.active.configured st = true → t.flc.posted (.poll st)) := by
  refine ⟨_, rfl, ?_, fun st => ⟨?_, fun h => pollStations_post _ (List.mem_finRange st) h⟩⟩
  · rw [pollConfigured, pollStations_flc]
  · simp [pollConfigured, pollStations_marks]

/-! ### The end of a load (R112, R171, R172, R185, R186) -/

/-- A record posted is appended to the journal (R171). -/
theorem postRecord_jrn (b : Body) (s : State) : (postRecord b s).jrn = s.jrn.push b := by
  simp [postRecord]

/-- An offered fault leaves the conditions. -/
theorem offerFault_condNoPlan (k : FaultKind) (d : Detail) (s : State) :
    (offerFault k d s).fmn.condNoPlan = s.fmn.condNoPlan := by
  unfold offerFault
  split
  · rfl
  · cases s.fmn.pointer <;> simp

/-- A status set leaves the conditions. -/
theorem setStatus_condNoPlan (k : FaultKind) (d : Detail) (s : State) :
    (setStatus k d s).fmn.condNoPlan = s.fmn.condNoPlan := by
  rw [setStatus_eq, driveFault, offerFault_condNoPlan]
  simp

/-- A raised fault leaves the conditions. -/
theorem raiseFault_condNoPlan (k : FaultKind) (d : Detail) (s : State) :
    (raiseFault k d s).fmn.condNoPlan = s.fmn.condNoPlan := by
  simp only [raiseFault, raiseOverrun]
  split
  · rfl
  · (repeat' split) <;> simp only [setStatus_condNoPlan]

/-- The NO_PLAN condition reported true: the value and the status (R112, R176). -/
theorem reportTrue_noPlan (d : Detail) (s : State) : (reportTrue .noPlan d s).fmn.condNoPlan = true
    ∧ (reportTrue .noPlan d s).fmn.status[FaultKind.noPlan.idx] = true :=
  ⟨raiseFault_condNoPlan .., raiseFault_sets ..⟩

/-- The end of a running load whose image is read (R185). -/
theorem imageLoadEnd_ok {s : State} {image : List Byte} {pl : Plan} (loading : s.iml.link = .loading)
    (read : loadImage image = .ok pl) : exec (.imageLoadEnd image) s = .next (loadSucceeds pl s) := by
  simp only [exec, execImageLoadEnd, imageLoadEnd, if_pos loading, read]

/-- The end of a running load whose image is not read (R185). -/
theorem imageLoadEnd_error {s : State} {image : List Byte} {reason : LoadReason} (loading : s.iml.link = .loading)
    (unread : loadImage image = .error reason) : exec (.imageLoadEnd image) s = .next (loadFails reason s) := by
  simp only [exec, execImageLoadEnd, imageLoadEnd, if_pos loading, unread]

/-- What stands after a load that failed: the store link at rest, and NO_PLAN (R112, R185). -/
theorem loadFails_items (reason : LoadReason) (s : State) :
    (loadFails reason s).pls = s.pls ∧ (loadFails reason s).iml = { s.iml with link := .idle }
      ∧ (loadFails reason s).seq.state = .noPlan ∧ (loadFails reason s).fmn.condNoPlan = true
      ∧ (loadFails reason s).fmn.status[FaultKind.noPlan.idx] = true := by
  refine ⟨by simp [loadFails], by simp [loadFails], by simp [loadFails], ?_⟩
  rw [show loadFails reason s = reportTrue .noPlan .none (setSequence .noPlan
    (loadHandOver (loadRecords .loadFailed reason { s with iml.link := .idle }))) by dsimp only [loadFails]]
  exact reportTrue_noPlan ..

/-- Settles O56: the two ends of a load, the hand-overs item by item, and the poll round. -/
theorem imageLoadEnds : Obligations.ImageLoadEnds := by
  refine ⟨fun s image loading => ⟨fun mark reason t => ?_, fun pl read => ?_, fun reason unread => ?_⟩, fun s => ?_,
    fun s => beginRound_marked s, fun s => ?_, fun s i => ⟨fun enabled => ?_, fun disabled => ?_⟩,
    fun s p => ⟨fun used => if_pos used, fun unused => ?_⟩, takeWatermark_eq, fun _ => rfl,
    fun s st => ⟨fun configured => if_pos configured, fun absent => ?_⟩⟩
  · simp only [postRecord_jrn]
  · exact ⟨_, imageLoadEnd_ok loading read, rfl, by simp [loadSucceeds], by simp [loadSucceeds]⟩
  · exact ⟨_, imageLoadEnd_error loading unread, rfl, loadFails_items reason s⟩
  · refine ⟨loadHandOver_channel s, ?_, ?_, by simp, by simp, ?_, loadHandOver_watermark s, fun q => loadHandOver_point⟩
    · simp only [loadHandOver_blocks, State.pointsLoaded_items, State.stationsLoaded_items]
    · simp only [loadHandOver_blocks, State.pointsLoaded_items]
    · rw [loadHandOver_eq]
      exact driveFault_faultLineOk _
  · rw [loadHandOver_eq]
    dsimp only [driveFault, State.pointsLoaded, State.stationsLoaded, allPoints]
  · unfold enableStation
    rw [if_pos enabled]
    exact (setHealth_modChannel i .offline _ s rfl).2.2
  · exact if_neg (Bool.eq_false_iff.mp disabled)
  · exact if_neg (Bool.eq_false_iff.mp unused)
  · exact if_neg (Bool.eq_false_iff.mp absent)

end Sys2Proof.Machine

/-! PROOFS of the family 02_motion_evaluation_and_seismic_level. -/

namespace Sys2Proof.Machine

/-! ### The windows, which only an arrival and a window clear change (R18, R21) -/

/-- What an evaluation record holds of its window: the values, their sum and the index (R21). -/
def StationEval.held (e : StationEval) : List Nat × Nat × Nat := (e.window, e.sum, e.index)

/-- The six windows with their sums and indexes. -/
def windowsOf (evals : Vector StationEval 6) : Vector (List Nat × Nat × Nat) 6 := evals.map StationEval.held

/-- Records that hold the same window are both within the bounds, or neither is. -/
theorem WindowOk.of_held {e e' : StationEval} (same : e'.held = e.held) (h : WindowOk e) : WindowOk e' := by
  simp only [StationEval.held, Prod.mk.injEq] at same
  obtain ⟨window, sum, index⟩ := same
  unfold WindowOk at *
  rwa [window, sum, index]

/-- The window of one station, from the six. -/
theorem held_of_windowsOf {v w : Vector StationEval 6} (same : windowsOf v = windowsOf w) (i : Fin 6) : v[i].held = w[i].held := by
  simpa [windowsOf] using congrArg (fun u => u[i]) same

/-- A change of one record that leaves its window leaves the six. -/
theorem windowsOf_set {v : Vector StationEval 6} {i : Fin 6} {e : StationEval} (same : e.held = v[i].held) :
    windowsOf (v.set i e) = windowsOf v := by
  ext j hj : 1
  simp only [windowsOf, Vector.getElem_map, Vector.getElem_set]
  split
  · next h => subst h; exact same
  · rfl

/-- A fold of steps that leave the windows leaves them. -/
@[simp] theorem foldl_windows {α : Type} (g : State → α → State)
    (kept : ∀ s a, windowsOf (g s a).mev.evals = windowsOf s.mev.evals) (l : List α) (s : State) :
    windowsOf (l.foldl g s).mev.evals = windowsOf s.mev.evals := by
  induction l generalizing s with
  | nil => rfl
  | cons a l ih => rw [List.foldl_cons, ih, kept]

/-- A reset of the peaks leaves the windows (R27). -/
@[simp] theorem resetPeaks_windows (s : State) : windowsOf (resetPeaks s).mev.evals = windowsOf s.mev.evals := by
  ext i hi : 1
  match i, hi with
  | 0, _ | 1, _ | 2, _ | 3, _ | 4, _ | 5, _ => simp [resetPeaks, windowsOf, StationEval.held, StationEval.resetPeaks]

/-- The opening of an event leaves the windows. -/
@[simp] theorem openEvent_windows (s : State) : windowsOf (openEvent s).mev.evals = windowsOf s.mev.evals := by
  simp [openEvent]

/-- The close of an event leaves the windows. -/
@[simp] theorem closeEvent_windows (s : State) : windowsOf (closeEvent s).mev.evals = windowsOf s.mev.evals := by
  simp only [closeEvent]
  split <;> simp

/-- The quiet rule leaves the windows. -/
@[simp] theorem quietRule_windows (s : State) : windowsOf (quietRule s).mev.evals = windowsOf s.mev.evals := by
  simp only [quietRule]
  split <;> simp

/-- The start-up decision leaves the windows. -/
@[simp] theorem startupDecision_windows (s : State) : windowsOf (startupDecision s).mev.evals = windowsOf s.mev.evals := by
  simp only [startupDecision]
  (repeat' split) <;> simp

/-- The end of the poll round leaves the windows. -/
@[simp] theorem checkRound_windows (s : State) : windowsOf (checkRound s).mev.evals = windowsOf s.mev.evals := by
  simp only [checkRound]
  split <;> simp

/-- The completion of a restart leaves the windows. -/
@[simp] theorem completeRestart_windows (s : State) : windowsOf (completeRestart s).mev.evals = windowsOf s.mev.evals := by
  simp [completeRestart]

/-- What follows of itself leaves the windows. -/
@[simp] theorem settle_windows (s : State) : windowsOf (settle s).mev.evals = windowsOf s.mev.evals := by
  refine settleFor_keeps (fun t => windowsOf t.mev.evals = windowsOf s.mev.evals) (fun t t' kept follows => ?_) settleFuel s rfl
  rcases settleOnce_cases follows with next | next | next | ⟨p, next⟩ <;> simpa [next] using kept

/-- The event and the target at a change of level leave the windows. -/
@[simp] theorem eventAtLevel_windows (s : State) : windowsOf (eventAtLevel s).mev.evals = windowsOf s.mev.evals := by
  simp only [eventAtLevel]
  (repeat' split) <;> simp

/-- The Sequencer at a change of level leaves the windows. -/
@[simp] theorem sequencerAtLevel_windows (s : State) : windowsOf (sequencerAtLevel s).mev.evals = windowsOf s.mev.evals := by
  simp only [sequencerAtLevel]
  (repeat' split) <;> simp

/-- Quiet time set to 0 leaves the records. -/
@[simp] theorem clearQuiet_evals (s : State) : (clearQuiet s).mev.evals = s.mev.evals := by
  simp only [clearQuiet]
  split <;> simp

/-- A change of the device level leaves the windows. -/
@[simp] theorem changeLevel_windows (new : Level) (s : State) : windowsOf (changeLevel new s).mev.evals = windowsOf s.mev.evals := by
  simp only [changeLevel]
  (repeat' split) <;> simp

/-- The vote leaves the windows. -/
@[simp] theorem recompute_windows (s : State) : windowsOf (recompute s).mev.evals = windowsOf s.mev.evals := by
  simp only [recompute]
  (repeat' split) <;> simp

/-- A change of the healthy count from or to 0 leaves the records. -/
@[simp] theorem healthyCountEdge_evals (h : Nat) (s : State) : (healthyCountEdge h s).mev.evals = s.mev.evals := by
  simp only [healthyCountEdge]
  (repeat' split) <;> simp

/-- A change of health leaves the windows. -/
@[simp] theorem setHealth_windows (i : Fin 6) (new : Health) (s : State) :
    windowsOf (setHealth i new s).mev.evals = windowsOf s.mev.evals := by
  simp [setHealth, healthChange]

/-- The resolution of an order leaves the windows. -/
@[simp] theorem resolve_windows (f : InFlight) (st : Fin 16) (r : Result) (outs : Option (Vector OutputStatus 4)) (s : State) :
    windowsOf (resolve f st r outs s).mev.evals = windowsOf s.mev.evals := by
  simp only [resolve, pollResolved]
  split <;> simp

/-- A byte on the field loop leaves the windows. -/
@[simp] theorem loopByte_windows (s : State) (b : LineByte) : windowsOf (loopByte s b).mev.evals = windowsOf s.mev.evals := by
  simp only [loopByte, loopFrame, replyFrameTaken, matchingReply]
  (repeat' split) <;> simp

/-- A reply timeout leaves the windows. -/
@[simp] theorem replyTimeout_windows (s : State) : windowsOf (replyTimeout s).mev.evals = windowsOf s.mev.evals := by
  simp only [replyTimeout, afterTimeout]
  (repeat' split) <;> simp

/-- The start of a poll round leaves the windows. -/
@[simp] theorem beginRound_windows (s : State) : windowsOf (beginRound s).mev.evals = windowsOf s.mev.evals := by
  simp [beginRound]

/-- Quiet time at a commit leaves the windows. -/
@[simp] theorem commitQuiet_windows (s : State) : windowsOf (commitQuiet s).mev.evals = windowsOf s.mev.evals := by
  simp only [commitQuiet]
  (repeat' split) <;> simp

/-- The way out of NO_PLAN leaves the windows. -/
@[simp] theorem leaveNoPlan_windows (s : State) : windowsOf (leaveNoPlan s).mev.evals = windowsOf s.mev.evals := by
  simp only [leaveNoPlan]
  split <;> simp

/-! ### What the sensors have brought, and what keeps it (R3, R18, R28) -/

/-- A command of a row of R161 brings its request to the port as a valid frame of its code. -/
theorem exec_request {c : Instr} {p : Fin 3} {code : Byte} {payload : List Byte} (brings : c.request = some (p, code, payload))
    (s : State) : exec c s = .next (takeFrame p code payload (serveCode p code payload) s) := by
  cases c <;> cases brings <;> rfl

/-- The first state's channels, healthy count and windows stand in the second. -/
structure SameSensed (s t : State) : Prop where
  siu : t.siu = s.siu
  healthy : t.mev.healthy = s.mev.healthy
  windows : windowsOf t.mev.evals = windowsOf s.mev.evals

/-- A state with the same channels and the same Motion Evaluator. -/
theorem SameSensed.of_mev {s t : State} (siu : t.siu = s.siu) (mev : t.mev = s.mev) : SameSensed s t :=
  ⟨siu, by rw [mev], by rw [mev]⟩

/-- The evaluation of a station level leaves its window (R22, R23). -/
theorem StationEval.evaluate_held (p : Params) (e : StationEval) : (e.evaluate p).held = e.held := by
  unfold StationEval.evaluate
  (repeat' split) <;> rfl

/-- A request leaves what the sensors have brought, unless it is a COMMIT. -/
theorem serveCode_cases (p : Fin 3) (code : Byte) (payload : List Byte) (s : State) :
    serveCode p code payload s = serveCommit p payload s ∨ SameSensed s (serveCode p code payload s) := by
  unfold serveCode
  split
  -- Case 12 is COMMIT, and case 20 a code of no row.
  case h_12 => exact .inl rfl
  case h_20 => exact .inr (.of_mev (by simp) (by simp))
  all_goals
    refine .inr ?_
    simp only [serveStatus, serveIdent, serveStationDetail, servePointDetail, serveSequenceDetail, serveJournalRead,
      serveNoticeMask, serveClaim, serveRelease, servePlanWrite, servePlanRead, serveSave, serveConsent, serveVeto,
      serveVetoClear, serveFaultClear, serveManualShed, serveManualRestore, withRight, withNoParam, withPoint, ownerConsent,
      grantRestart, ownerVeto, vetoEffect, ownerManualRestore, placeManual]
    (repeat' split) <;> constructor <;> simp

/-! ### The arithmetic of a sample (R19, R20) -/

/-- The clamp of an axis by cases (R19). -/
theorem clampAxis_eq (v : Int) : clampAxis v = if v < -4000 then -4000 else if 4000 < v then 4000 else v := by
  unfold clampAxis
  split
  · omega
  · split <;> omega

/-- A clamped axis is at most 4000 mg either way (R19). -/
theorem clampAxis_natAbs_le (v : Int) : (clampAxis v).natAbs ≤ 4000 := by
  unfold clampAxis
  omega

/-- The horizontal magnitude of clamped axes is at most 6000 mg (R20). -/
theorem horizontal_clamped_le (x y : Int) : horizontal (clampAxis x) (clampAxis y) ≤ 6000 := by
  have hx := clampAxis_natAbs_le x
  have hy := clampAxis_natAbs_le y
  unfold horizontal
  omega

/-- The shaking value of a clamped sample is at most 6000 mg (R20). -/
theorem shaking_clamp_le (a : Sample) : shaking a.clamp ≤ 6000 :=
  max_le (horizontal_clamped_le a.x a.y) ((clampAxis_natAbs_le a.z).trans (by decide))

/-- An excess value is at most its shaking value (R20). -/
theorem excess_le (shake floor : Nat) : excess shake floor ≤ shake := Nat.sub_le ..

/-- The excess value of a sample at a station (R19, R20). -/
def Sample.excessAt (a : Sample) (i : Fin 6) (s : State) : Nat := excess (shaking a.clamp) s.pls.active.stations[i].floor

/-- A channel after a sample: its excess value returned, and the clamp counted (R14, R19). -/
def Channel.sampled (a : Sample) (e : Nat) (c : Channel) : Channel :=
  { c with lastExcess := e, clamped := if a.clamp = a then c.clamped else saturate (c.clamped + 1) }

/-- A sample: the channel, the arrival, the peak shaking value, the settle count (R14, R19, R20, R26, R11). -/
theorem takeSample_eq (i : Fin 6) (a : Sample) (s : State) :
    takeSample i a s = settleArrival i (raisePeakShaking i (shaking a.clamp)
      (enterArrival i (a.excessAt i s) (s.modChannel i (fun c => c.sampled a (a.excessAt i s))))) := by
  by_cases clamped : a.clamp = a
  · simp only [takeSample, Channel.sampled, Sample.excessAt, if_pos clamped]
  · simp only [takeSample, Channel.sampled, Sample.excessAt, if_neg clamped, State.modChannel_modChannel, State.modChannel_frame]

/-! ### What every step keeps of it: `f_keeps` says that `f` keeps each such property -/

/-- A property of what the sensors have brought, which each way to change that keeps: a reset, a ms, a change of health, a change of a
channel's other items, an excess value of at most 6000 mg or the last accepted one entering a window, and a window clear. -/
structure SensedInvariant (P : State → Prop) : Prop where
  same {s t : State} : SameSensed s t → P s → P t
  start {s : State} : s.siu = State.reset.siu → s.mev = State.reset.mev → P s
  elapse {s : State} : P s → P (elapse s)
  setHealth {s : State} (i : Fin 6) (new : Health) : P s → P (setHealth i new s)
  channel {s : State} (i : Fin 6) (f : Channel → Channel) (health : ∀ c, (f c).health = c.health)
    (excess : ∀ c, (f c).lastExcess = c.lastExcess ∨ (f c).lastExcess ≤ 6000) : P s → P (s.modChannel i f)
  enter {s : State} (i : Fin 6) (stand : Bool) (v : Nat) (bound : v ≤ 6000 ∨ v = s.siu[i].lastExcess) :
    P s → P (s.modEval i (StationEval.enter stand v))
  clear {s : State} (i : Fin 6) : P s → P (s.modEval i StationEval.clear)

namespace SensedInvariant

variable {P : State → Prop} {s : State}

/-- A change of a channel that leaves its health and its last accepted excess value. -/
theorem channelItems (I : SensedInvariant P) (i : Fin 6) (f : Channel → Channel) (health : ∀ c, (f c).health = c.health)
    (excess : ∀ c, (f c).lastExcess = c.lastExcess) (h : P s) : P (s.modChannel i f) :=
  I.channel i f health (fun c => .inl (excess c)) h

/-- A change of a record that leaves its window. -/
theorem evalItems (I : SensedInvariant P) (i : Fin 6) (f : StationEval → StationEval) (held : ∀ e, (f e).held = e.held) (h : P s) :
    P (s.modEval i f) :=
  I.same (s := s) ⟨rfl, rfl, windowsOf_set (held _)⟩ h

/-- The vote after a change of a station's level. -/
theorem revote_keeps (I : SensedInvariant P) (i : Fin 6) (old : Level) (h : P s) : P (revote i old s) := by
  unfold revote
  split
  · exact I.same ⟨by simp, by simp, by simp⟩ h
  · exact h

/-- A window clear with its vote (R21, R30). -/
theorem clearWindow_keeps (I : SensedInvariant P) (i : Fin 6) (h : P s) : P (clearWindow i s) :=
  I.revote_keeps i _ (I.clear i h)

/-- An arrival at a station (R21). -/
theorem enterArrival_keeps (I : SensedInvariant P) (i : Fin 6) (v : Nat) (bound : v ≤ 6000 ∨ v = s.siu[i].lastExcess) (h : P s) :
    P (enterArrival i v s) := by
  have entered := I.enter i s.mev.peaksStand v bound h
  have peaked := I.same (t := raisePeakHealthy i (s.modEval i (StationEval.enter s.mev.peaksStand v)))
    ⟨by simp, by simp, by simp⟩ entered
  exact I.revote_keeps i _ (I.evalItems i _ (StationEval.evaluate_held _) peaked)

/-- The settle count after an arrival (R11). -/
theorem settleArrival_keeps (I : SensedInvariant P) (i : Fin 6) (h : P s) : P (settleArrival i s) := by
  have counted := I.channelItems i (fun c => { c with settle := min (c.settle + 1) 100 }) (fun _ => rfl) (fun _ => rfl) h
  unfold settleArrival
  dsimp only
  split
  · split
    · exact I.setHealth i .healthy counted
    · exact counted
  · exact h

/-- Fillers, each of the last accepted excess value (R8). -/
theorem takeFillers_keeps (I : SensedInvariant P) (i : Fin 6) (n : Nat) (h : P s) : P (takeFillers i n s) := by
  induction n generalizing s with
  | zero => exact h
  | succ n ih => exact ih (I.settleArrival_keeps i (I.enterArrival_keeps i _ (.inr rfl) h))

/-- A sample (R14, R19, R20). -/
theorem takeSample_keeps (I : SensedInvariant P) (i : Fin 6) (a : Sample) (h : P s) : P (takeSample i a s) := by
  have small : a.excessAt i s ≤ 6000 := (excess_le ..).trans (shaking_clamp_le a)
  have returned := I.channel i (fun c => c.sampled a (a.excessAt i s)) (fun _ => rfl) (fun _ => .inr small) h
  rw [takeSample_eq]
  exact I.settleArrival_keeps i (I.evalItems i _ (fun _ => rfl) (I.enterArrival_keeps i _ (.inl small) returned))

/-- A sample that starts a new window (R9, R10). -/
theorem newWindow_keeps (I : SensedInvariant P) (i : Fin 6) (seq : Byte) (a : Sample) (h : P s) : P (newWindow i seq a s) := by
  have cleared := I.channelItems i (fun c => { c with settle := 0 }) (fun _ => rfl) (fun _ => rfl) (I.clearWindow_keeps i h)
  exact I.channelItems i (fun c => { c with lastSeq := some seq }) (fun _ => rfl) (fun _ => rfl) (I.takeSample_keeps i a cleared)

/-- A resettling (R9). -/
theorem resettle_keeps (I : SensedInvariant P) (i : Fin 6) (seq : Byte) (a : Sample) (h : P s) : P (resettle i seq a s) := by
  have counted := I.channelItems i (fun c => { c with resettles := saturate (c.resettles + 1) }) (fun _ => rfl) (fun _ => rfl) h
  rw [resettle_eq]
  split
  · exact I.newWindow_keeps i seq a (I.setHealth i .settling counted)
  · exact I.newWindow_keeps i seq a counted

/-- A valid frame of a SETTLING or HEALTHY station (R6 to R9). -/
theorem continueWindow_keeps (I : SensedInvariant P) (i : Fin 6) (seq : Byte) (a : Sample) (h : P s) : P (continueWindow i seq a s) := by
  cases known : s.siu[i].lastSeq with
  | none =>
    have first : continueWindow i seq a s = resettle i seq a s := by simp only [continueWindow, known]
    rw [first]
    exact I.resettle_keeps i seq a h
  | some last =>
    rw [continueWindow_known known]
    split
    · exact I.channelItems i _ (fun _ => rfl) (fun _ => rfl) h
    · split
      · exact I.resettle_keeps i seq a h
      · exact I.channelItems i _ (fun _ => rfl) (fun _ => rfl)
          (I.takeSample_keeps i a (I.takeFillers_keeps i _ (I.channelItems i _ (fun _ => rfl) (fun _ => rfl) h)))

/-- A valid frame, by the health state (R5). -/
theorem validFrame_keeps (I : SensedInvariant P) (i : Fin 6) (seq : Byte) (a : Sample) (h : P s) : P (validFrame i seq a s) := by
  have restarted := I.channelItems i (fun c => { c with gap := some 200 }) (fun _ => rfl) (fun _ => rfl) h
  unfold validFrame
  dsimp only
  split
  · exact I.newWindow_keeps i seq a (I.setHealth i .settling restarted)
  · exact I.newWindow_keeps i seq a (I.setHealth i .settling restarted)
  · exact I.continueWindow_keeps i seq a restarted
  · exact I.continueWindow_keeps i seq a restarted
  · exact restarted

/-- A check error counted and raised (R2). -/
theorem countCheckError_keeps (I : SensedInvariant P) (i : Fin 6) (h : P s) : P (countCheckError i s) :=
  I.same (.of_mev (by simp [countCheckError]) (by simp [countCheckError]))
    (I.channelItems i (fun c => { c with checkErrors := saturate (c.checkErrors + 1) }) (fun _ => rfl) (fun _ => rfl) h)

/-- A complete frame (R2). -/
theorem checkFrame_keeps (I : SensedInvariant P) (i : Fin 6) (bytes : List Byte) (bad : Bool) (h : P s) :
    P (checkFrame i bytes bad s) := by
  unfold checkFrame
  split
  · exact I.countCheckError_keeps i h
  · split
    · split
      · exact I.countCheckError_keeps i h
      · split
        · exact I.channelItems i _ (fun _ => rfl) (fun _ => rfl) h
        · split
          · exact I.channelItems i _ (fun _ => rfl) (fun _ => rfl) h
          · exact I.validFrame_keeps i _ _ h
    · exact h

/-- A byte at a sensor port (R1). -/
theorem sensorByte_keeps (I : SensedInvariant P) (i : Fin 6) (b : LineByte) (h : P s) : P (sensorByte i s b) := by
  by_cases disabled : s.siu[i].health = .disabled
  · unfold sensorByte
    rwa [if_pos disabled]
  · rw [sensorByte_enabled disabled]
    have moved := I.channelItems i (fun c => { c with rx := (s.siu[i].rx.feed 0xc3 12 b).1 }) (fun _ => rfl) (fun _ => rfl) h
    split
    · exact moved
    · exact I.checkFrame_keeps i _ _ moved

/-- Bytes at a sensor port (R1). -/
theorem sensorBytes_keeps (I : SensedInvariant P) (i : Fin 6) (bytes : List LineByte) (h : P s) : P (bytes.foldl (sensorByte i) s) :=
  List.foldlRecOn bytes _ h (fun _ kept b _ => I.sensorByte_keeps i b kept)

/-- A partial frame abandoned on a sensor port (R1). -/
theorem abandonFrame_keeps (I : SensedInvariant P) (i : Fin 6) (h : P s) : P (abandonFrame i s) := by
  unfold abandonFrame
  split
  · exact h
  · exact I.countCheckError_keeps i (I.channelItems i _ (fun _ => rfl) (fun _ => rfl) h)

/-- The expiry of a gap timer (R12). -/
theorem gapExpiry_keeps (I : SensedInvariant P) (i : Fin 6) (h : P s) : P (gapExpiry i s) := by
  have lost := I.setHealth i .lost (I.channelItems i (fun c => { c with gap := none }) (fun _ => rfl) (fun _ => rfl) h)
  unfold gapExpiry
  dsimp only
  split
  · split
    · exact I.same (.of_mev (by simp) (by simp)) lost
    · exact lost
  · exact h

/-! #### The end of a load and a commit -/

/-- A station at the end of a load (R4). -/
theorem enableStation_keeps (I : SensedInvariant P) (i : Fin 6) (h : P s) : P (enableStation s i) := by
  unfold enableStation
  split
  · exact I.setHealth i .offline (I.channelItems i _ (fun _ => rfl) (fun _ => rfl) h)
  · exact h

/-- The hand-overs at the end of a load (R186). -/
theorem loadHandOver_keeps (I : SensedInvariant P) (h : P s) : P (loadHandOver s) := by
  have stations := List.foldlRecOn (List.finRange 6) enableStation h (fun _ kept i _ => I.enableStation_keeps i kept)
  exact I.same ⟨by simp [loadHandOver], by simp [loadHandOver], by simp [loadHandOver]⟩ stations

/-- The end of a load (R185). -/
theorem imageLoadEnd_keeps (I : SensedInvariant P) (image : List Byte) (h : P s) : P (imageLoadEnd image s) := by
  unfold imageLoadEnd
  split
  · split
    · next pl _ =>
      have records : P (loadRecords .loaded .none { s with pls.active := pl, iml.link := .idle, seq.phase := .polling }) :=
        I.same (.of_mev (by simp) (by simp)) h
      exact I.same ⟨by simp [loadSucceeds], by simp [loadSucceeds], by simp [loadSucceeds]⟩ (I.loadHandOver_keeps records)
    · next reason _ =>
      have records : P (loadRecords .loadFailed reason { s with iml.link := .idle }) :=
        I.same (.of_mev (by simp) (by simp)) h
      exact I.same (.of_mev (by simp [loadFails]) (by simp [loadFails])) (I.loadHandOver_keeps records)
  · exact h

/-- A channel at a commit (R16). -/
theorem commitStation_keeps (I : SensedInvariant P) (old : Plan) (i : Fin 6) (h : P s) : P (commitStation old s i) := by
  unfold commitStation
  split
  · exact I.setHealth i .offline (I.channel i _ (fun _ => rfl) (fun _ => .inr (Nat.zero_le 6000)) h)
  · exact I.setHealth i .disabled (I.channelItems i _ (fun _ => rfl) (fun _ => rfl) h)
  · exact h
  · exact h

/-- The new plan handed to every block (R58). -/
theorem commitHandOver_keeps (I : SensedInvariant P) (old : Plan) (h : P s) : P (commitHandOver old s) := by
  have points : P (allPoints.foldl (commitPoint old) (commitSequencer s)) := I.same (.of_mev (by simp) (by simp)) h
  have stations := List.foldlRecOn (List.finRange 6) (commitStation old) points
    (fun _ kept i _ => I.commitStation_keeps old i kept)
  exact I.same ⟨by simp [commitHandOver], by simp [commitHandOver], by simp [commitHandOver]⟩ stations

/-- A commit that passes its checks (R58). -/
theorem commitPlan_keeps (I : SensedInvariant P) (p : Fin 3) (shadow : Plan) (h : P s) : P (commitPlan p shadow s) := by
  have handed : P (commitHandOver s.pls.active (raiseAll .plan (post
      (.plan (some p) (committedPlan s.pls.active shadow).params.generation .committed .none)
      (raiseAll .claim { s with pls := ⟨committedPlan s.pls.active shadow, none⟩ })))) :=
    I.commitHandOver_keeps _ (I.same (.of_mev (by simp) (by simp)) h)
  exact I.same ⟨by simp [commitPlan], by simp [commitPlan], by simp [commitPlan]⟩ handed

/-- COMMIT at the PLS (R57). -/
theorem ownerCommit_keeps (I : SensedInvariant P) (p : Fin 3) (save : Bool) (h : P s) : P (ownerCommit p save s) := by
  have replied (status : ReplyStatus) (payload : List Byte) : P (reply p status payload s) :=
    I.same (.of_mev (by simp) (by simp)) h
  unfold ownerCommit
  split
  · exact replied _ _
  · next c _ =>
    split
    · exact replied _ _
    · split
      · exact replied _ _
      · split
        · exact replied _ _
        · exact I.same (.of_mev (by simp) (by simp)) (I.commitPlan_keeps p c.shadow h)

/-- COMMIT (R57). -/
theorem serveCommit_keeps (I : SensedInvariant P) (p : Fin 3) (payload : List Byte) (h : P s) : P (serveCommit p payload s) := by
  have refused : P (refuse p .badParam s) := I.same (.of_mev (by simp) (by simp)) h
  unfold serveCommit withRight
  split
  · split
    · split
      · exact I.ownerCommit_keeps p false h
      · split
        · exact I.ownerCommit_keeps p true h
        · exact refused
    · exact refused
  · exact I.same (.of_mev (by simp) (by simp)) h

/-! #### Requests -/

/-- A request in service (R161). -/
theorem serveCode_keeps (I : SensedInvariant P) (p : Fin 3) (code : Byte) (payload : List Byte) (h : P s) :
    P (serveCode p code payload s) := by
  rcases serveCode_cases p code payload s with commit | same
  · rw [commit]
    exact I.serveCommit_keeps p payload h
  · exact I.same same h

/-- A valid frame at a supervisory port (R157 to R159). -/
theorem takeFrame_keeps (I : SensedInvariant P) (p : Fin 3) (code : Byte) (payload : List Byte) (h : P s) :
    P (takeFrame p code payload (serveCode p code payload) s) := by
  rcases takeFrame_cases p code payload (serveCode p code payload) s with ⟨_, long⟩ | ⟨_, _, busy⟩ | ⟨_, _, free⟩
  · rw [long]
    exact I.same (.of_mev (by simp) (by simp)) h
  · rw [busy]
    exact I.same (.of_mev (by simp) (by simp)) h
  · rw [free]
    exact I.serveCode_keeps p code payload (I.same (.of_mev (by simp) (by simp)) h)

/-- A byte at a supervisory port (R157). -/
theorem requestByte_keeps (I : SensedInvariant P) (p : Fin 3) (b : LineByte) (h : P s) : P (requestByte p s b) := by
  have moved (rx : Rx) : P (s.modPort p (fun q => { q with rx := rx })) := I.same (s := s) (.of_mev rfl rfl) h
  obtain ⟨rx, gathered | counted | ⟨code, payload, frame⟩⟩ := requestByte_cases p s b
  · rw [gathered]
    exact moved rx
  · rw [counted]
    exact I.same (.of_mev (by simp) (by simp)) (moved rx)
  · rw [frame]
    exact I.takeFrame_keeps p code payload (moved rx)

/-- Bytes at a supervisory port (R157). -/
theorem requestBytes_keeps (I : SensedInvariant P) (p : Fin 3) (bytes : List LineByte) (h : P s) :
    P (bytes.foldl (requestByte p) s) :=
  List.foldlRecOn bytes _ h (fun _ kept b _ => I.requestByte_keeps p b kept)

/-- A command of a row of R161. -/
theorem request_keeps (I : SensedInvariant P) {t : State} {c : Instr} {p : Fin 3} {code : Byte} {payload : List Byte}
    (brings : c.request = some (p, code, payload)) (h : P s) (ran : exec c s = .next t) : P t := by
  rw [exec_request brings] at ran
  cases ran
  exact I.takeFrame_keeps p code payload h

/-! #### Commands and steps -/

/-- A command that ends in a state with what the sensors have brought. -/
theorem of_next (I : SensedInvariant P) {t u : State} (same : SameSensed s u) (h : P s)
    (ran : (.next u : Host.Outcome State Fault Refusal) = .next t) : P t := by
  cases ran
  exact I.same same h

/-- A command (R3, R18, R28). -/
theorem exec_keeps (I : SensedInvariant P) {t : State} (c : Instr) (h : P s) (ran : exec c s = .next t) : P t := by
  cases c with
  | status p l | ident p l | stationDetail p l | pointDetail p l | sequenceDetail p l | journalRead p l | noticeMask p l
  | claim p l | release p l | planWrite p l | planRead p l | commit p l | save p l | consent p l | veto p l | vetoClear p l
  | faultClear p l | manualShed p l | manualRestore p l =>
    exact I.request_keeps rfl h ran
  | requestWhileBusy p code l | unknownRequest p code l => exact I.request_keeps rfl h ran
  | requestFrameInvalid p bytes => cases ran; exact I.requestBytes_keeps p bytes h
  | requestIdleAbandon p b =>
    cases ran
    refine I.requestBytes_keeps p _ (I.same (.of_mev ?_ ?_) h) <;> (unfold abandonRequest; split <;> simp)
  | coldReset | warmReset => cases ran; exact I.start rfl rfl
  | imageLoadEnd image => cases ran; exact I.imageLoadEnd_keeps image h
  | sensorFrame i bytes => cases ran; exact I.sensorBytes_keeps i bytes h
  | sensorIdleAbandon i b =>
    cases ran
    split
    · exact h
    · exact I.sensorBytes_keeps i _ (I.abandonFrame_keeps i h)
  | gapTimerExpiry i => cases ran; exact I.gapExpiry_keeps i h
  | loopReplyFrame bytes => exact I.of_next ⟨by simp, by simp, by simp⟩ h ran
  | loopIdleAbandon b => exact I.of_next ⟨by simp, by simp, by simp⟩ h ran
  | replyTimeout => exact I.of_next ⟨by simp, by simp, by simp⟩ h ran
  | orderFrameEnd | tripAllFrameEnd => exact I.of_next (.of_mev (by simp) (by simp)) h ran
  | graceTimerExpiry p | replySent p => exact I.of_next (.of_mev (by simp) (by simp)) h ran
  | saveEnd failedAt => refine I.of_next (.of_mev ?_ ?_) h ran <;> ((repeat' split) <;> simp)
  | pollTimerExpiry | consentWindowExpiry => refine I.of_next (.of_mev ?_ ?_) h ran <;> (split <;> simp)
  | linkTimeout p => refine I.of_next (.of_mev ?_ ?_) h ran <;> (split <;> simp)
  | blindTimerExpiry | quietReached | restoreSpacingExpiry | shedDelayExpiry | restartDelayExpiry =>
    refine I.of_next ⟨?_, ?_, ?_⟩ h ran <;> (split <;> simp)
  | settleTimerExpiry p => refine I.of_next ⟨?_, ?_, ?_⟩ h ran <;> (unfold settleExpiry; split <;> simp)
  | shedStepTimeout | restartStepTimeout =>
    refine I.of_next ⟨?_, ?_, ?_⟩ h ran <;> (split <;> simp [shedTimeout, restartTimeout])

/-- A step: a command, a ms, or an expiry queued. -/
theorem step_keeps (I : SensedInvariant P) {t : State} (h : P s) (ran : step s = .next t) : P t := by
  rcases step_cases ran with ⟨c, rest, _, run⟩ | rfl | ⟨l, rfl⟩
  · have taken : P { s with pending := rest } := I.same (s := s) (.of_mev rfl rfl) h
    exact I.exec_keeps c taken run
  · exact I.elapse h
  · exact I.same (s := s) (.of_mev rfl rfl) h

end SensedInvariant

/-! ### The healthy count (O9) -/

/-- The HEALTHY stations after a change of a channel's other items. -/
theorem modChannel_healthyStations (s : State) (i : Fin 6) (f : Channel → Channel) (health : ∀ c, (f c).health = c.health) :
    (s.modChannel i f).healthyStations = s.healthyStations := by
  unfold State.healthyStations
  refine List.filter_congr (fun j _ => ?_)
  rw [State.modChannel_get]
  split
  · next same => rw [health, same]
  · rfl

/-- The healthy count is counted anew at each change of health, and nothing else changes either side of it (R15, R28). -/
theorem healthyOk_sensed : SensedInvariant HealthyOk where
  same same h := by
    unfold HealthyOk at *
    rw [same.healthy, h, State.healthyStations_congr same.siu]
  start siu mev := by
    unfold HealthyOk
    rw [State.healthyStations_congr siu, mev]
    decide
  elapse {s} h := by
    have still : (elapse s).healthyStations = s.healthyStations :=
      List.filter_congr (fun j _ => by rw [(elapse_items s).1 j]; rfl)
    unfold HealthyOk
    rw [still]
    exact h
  setHealth i new _ := setHealth_healthy i new _
  channel {s} i f health _ h := by
    unfold HealthyOk
    rw [modChannel_healthyStations s i f health]
    exact h
  enter _ _ _ _ h := h
  clear _ h := h

/-- Settles O9: the healthy count is a property of what the sensors have brought, and every way to change that keeps it. -/
theorem healthyCountKept : Obligations.HealthyCountKept := fun _ _ h ran => healthyOk_sensed.step_keeps h ran

/-! ### The windows (O10, O16) -/

/-- An arrival at a window of fewer than 100 values (R21). -/
theorem StationEval.enter_of_short {e : StationEval} (short : e.window.length < 100) (stand : Bool) (v : Nat) :
    e.enter stand v = { e with
      window := e.window ++ [v]
      sum := e.sum + v
      index := (e.sum + v) / 10
      peakIndex := raisePeak stand e.peakIndex ((e.sum + v) / 10) } := by
  simp [StationEval.enter, Nat.not_le.mpr short]

/-- An arrival at a window of 100 values: the oldest leaves (R21). -/
theorem StationEval.enter_of_full {e : StationEval} {oldest : Nat} {rest : List Nat} (window : e.window = oldest :: rest)
    (full : ¬ e.window.length < 100) (stand : Bool) (v : Nat) :
    e.enter stand v = { e with
      window := rest ++ [v]
      sum := e.sum - oldest + v
      index := (e.sum - oldest + v) / 10
      peakIndex := raisePeak stand e.peakIndex ((e.sum - oldest + v) / 10) } := by
  have many : 100 ≤ (oldest :: rest).length := by
    rw [← window]
    exact Nat.not_lt.mp full
  simp only [StationEval.enter, window, many, decide_true, if_true, List.headD_cons, List.drop_one, List.tail_cons]

/-- A full window has an oldest value. -/
theorem exists_oldest {l : List Nat} (full : ¬ l.length < 100) : ∃ oldest rest, l = oldest :: rest :=
  List.exists_cons_of_length_pos (by omega)

/-- An arrival pushes the oldest value out of a full window, and W follows (R21). -/
theorem StationEval.enter_window {e : StationEval} (h : WindowOk e) (stand : Bool) (v : Nat) :
    (e.enter stand v).window = (if e.window.length < 100 then e.window else e.window.drop 1) ++ [v]
      ∧ (e.enter stand v).sum + (if e.window.length < 100 then 0 else e.window.headD 0) = e.sum + v
      ∧ (e.enter stand v).sum = (e.enter stand v).window.sum := by
  obtain ⟨_, _, sum, _⟩ := h
  by_cases short : e.window.length < 100
  · rw [StationEval.enter_of_short short]
    simp [short, sum]
  · obtain ⟨oldest, rest, window⟩ := exists_oldest short
    have within : oldest ≤ e.sum := by simp [sum, window]
    rw [StationEval.enter_of_full window short]
    simp only [if_neg short]
    rw [window] at sum ⊢
    refine ⟨by simp, ?_, by simp [sum]⟩
    simp only [List.headD_cons]
    omega

/-- An arrival of at most 6000 mg keeps the window within its bounds (R18, R21). -/
theorem WindowOk.enter {e : StationEval} (h : WindowOk e) (stand : Bool) {v : Nat} (small : v ≤ 6000) :
    WindowOk (e.enter stand v) := by
  obtain ⟨window, _, total⟩ := StationEval.enter_window h stand v
  obtain ⟨length, values, _, _⟩ := h
  refine ⟨?_, fun w entered => ?_, total, rfl⟩
  · rw [window, List.length_append]
    split <;> simp <;> omega
  · rw [window, List.mem_append, List.mem_singleton] at entered
    rcases entered with old | rfl
    · split at old
      · exact values w old
      · exact values w (List.mem_of_mem_drop old)
    · exact small

/-- A window clear leaves an empty window (R21). -/
theorem WindowOk.clear (e : StationEval) : WindowOk e.clear := by
  simp [WindowOk, StationEval.clear]

/-- A change of health leaves the last accepted excess values. -/
theorem setHealth_lastExcess (i j : Fin 6) (new : Health) (s : State) :
    (setHealth i new s).siu[j].lastExcess = s.siu[j].lastExcess := by
  rw [setHealth_siu]
  by_cases here : i = j
  · subst here
    rw [vector_set_self]
  · rw [vector_set_other _ _ _ _ here]

/-- The windows within their bounds, with the excess values that a filler may carry, are a property of what the sensors have brought. -/
theorem motionOk_sensed : SensedInvariant MotionOk where
  same same h i := by
    obtain ⟨window, last⟩ := h i
    exact ⟨window.of_held (held_of_windowsOf same.windows i), by rwa [same.siu]⟩
  start siu mev := by
    unfold MotionOk
    rw [siu, mev]
    unfold WindowOk
    decide
  elapse {s} h i := by
    obtain ⟨window, last⟩ := h i
    refine ⟨window, ?_⟩
    rw [(elapse_items s).1 i]
    exact last
  setHealth {s} i new h j := by
    obtain ⟨window, last⟩ := h j
    exact ⟨window.of_held (held_of_windowsOf (setHealth_windows i new s) j), by rwa [setHealth_lastExcess]⟩
  channel {s} i f _ excess h j := by
    obtain ⟨window, last⟩ := h j
    refine ⟨window, ?_⟩
    rw [State.modChannel_get]
    split
    · next here =>
      subst here
      rcases excess s.siu[i] with kept | small
      · rwa [kept]
      · exact small
    · exact last
  enter {s} i stand v bound h j := by
    obtain ⟨window, last⟩ := h j
    refine ⟨?_, last⟩
    rw [State.modEval_get]
    split
    · next here =>
      subst here
      rcases bound with small | rfl
      · exact window.enter stand small
      · exact window.enter stand last
    · exact window
  clear {s} i h j := by
    obtain ⟨window, last⟩ := h j
    refine ⟨?_, last⟩
    rw [State.modEval_get]
    split
    · exact .clear _
    · exact window

/-- The sum and the index of a window within its bounds: 100 values of 6000 mg (R18, R21). -/
theorem WindowOk.sum_le {e : StationEval} (h : WindowOk e) : e.sum ≤ 600000 ∧ e.index ≤ 60000 := by
  obtain ⟨length, values, sum, index⟩ := h
  have total : e.window.sum ≤ e.window.length * 6000 := by simpa using List.sum_le_card_nsmul e.window 6000 values
  omega

/-- Settles O10: the windows are a property of what the sensors have brought, and every way to change that keeps it. -/
theorem windowsKept : Obligations.WindowsKept :=
  ⟨fun _ _ h ran => motionOk_sensed.step_keeps h ran, fun _ h i => (h i).1.sum_le⟩

/-- Settles O16: the window and its sum by whether the window is full, the other items by definition. -/
theorem windowArrivalAndClear : Obligations.WindowArrivalAndClear := by
  intro e stand v h t
  obtain ⟨window, sum, total⟩ := StationEval.enter_window h stand v
  exact ⟨window, sum, total, rfl, rfl, rfl, rfl, rfl, rfl⟩

/-! ### A sample and an arrival (O15) -/

/-- The peak healthy index after it has been raised by a station (R27; log 48). -/
theorem raisePeakHealthy_eq (i : Fin 6) (s : State) :
    raisePeakHealthy i s = { s with mev := { s.mev with
      peakHealthy := if s.siu[i].health = .healthy ∧ s.mev.peaksStand = false
        then max s.mev.peakHealthy s.mev.evals[i].index else s.mev.peakHealthy } } := by
  by_cases healthy : s.siu[i].health = .healthy
  · simp only [raisePeakHealthy, healthy, true_and]
    cases stand : s.mev.peaksStand <;> rfl
  · simp only [raisePeakHealthy, healthy, false_and, if_false]

/-- Two changes of one record, with the peak healthy index raised between them. -/
theorem modEval_raisePeakHealthy_modEval (s : State) (i : Fin 6) (f g : StationEval → StationEval) :
    (raisePeakHealthy i (s.modEval i f)).modEval i g = { s with mev := { s.mev with
      evals := s.mev.evals.set i (g (f s.mev.evals[i]))
      peakHealthy := if s.siu[i].health = .healthy ∧ s.mev.peaksStand = false
        then max s.mev.peakHealthy (f s.mev.evals[i]).index else s.mev.peakHealthy } } := by
  rw [raisePeakHealthy_eq]
  simp [State.modEval]

/-- The state after an arrival and before its vote: the window, the peak healthy index of a HEALTHY station, and the level (R21 to R24,
R26, R27; logs 20, 48). -/
def State.entered (s : State) (i : Fin 6) (v : Nat) : State :=
  { s with mev := { s.mev with
    evals := s.mev.evals.set i ((s.mev.evals[i].enter s.mev.peaksStand v).evaluate s.pls.active.params)
    peakHealthy := if s.siu[i].health = .healthy ∧ s.mev.peaksStand = false
      then max s.mev.peakHealthy (s.mev.evals[i].enter s.mev.peaksStand v).index else s.mev.peakHealthy } }

/-- An arrival, and the vote if the level of a HEALTHY station has changed (R30). -/
theorem enterArrival_eq (s : State) (i : Fin 6) (v : Nat) :
    enterArrival i v s = if s.siu[i].health = .healthy
        ∧ ((s.mev.evals[i].enter s.mev.peaksStand v).evaluate s.pls.active.params).level ≠ s.mev.evals[i].level
      then recompute (s.entered i v) else s.entered i v := by
  have judged : (raisePeakHealthy i (s.modEval i (StationEval.enter s.mev.peaksStand v))).modEval i
      (StationEval.evaluate s.pls.active.params) = s.entered i v := modEval_raisePeakHealthy_modEval ..
  have before : (raisePeakHealthy i (s.modEval i (StationEval.enter s.mev.peaksStand v))).mev.evals[i].level
      = s.mev.evals[i].level := by
    simp only [raisePeakHealthy_mev, Fin.getElem_fin, State.modEval_get_same]
    rfl
  have after : (s.entered i v).mev.evals[i]
      = (s.mev.evals[i].enter s.mev.peaksStand v).evaluate s.pls.active.params := vector_set_self ..
  have plan : (raisePeakHealthy i (s.modEval i (StationEval.enter s.mev.peaksStand v))).pls = s.pls := by simp
  unfold enterArrival revote
  dsimp only
  rw [before, plan, judged, after]
  rfl

/-- The settle count after an arrival in SETTLING, to 100, where the station becomes HEALTHY (R11). -/
theorem settleArrival_of_settling {s : State} {i : Fin 6} (settling : s.siu[i].health = .settling) :
    settleArrival i s = if min (s.siu[i].settle + 1) 100 = 100
      then setHealth i .healthy (s.modChannel i (fun c => { c with settle := min (s.siu[i].settle + 1) 100 }))
      else s.modChannel i (fun c => { c with settle := min (s.siu[i].settle + 1) 100 }) := by
  unfold settleArrival
  rw [if_pos settling]
  simp only [Fin.getElem_fin, State.modChannel_get_same]
  rfl

/-- Settles O15: the sample step by step, the arrival with its vote, and the settle count below 100 and at 100. -/
theorem sampleArithmetic : Obligations.SampleArithmetic := by
  refine ⟨clampAxis_eq, fun _ _ => rfl, fun s i a => ?_, fun s i v => ?_,
    fun s i => ⟨fun other => if_neg other, fun settling below => ?_, fun settling full => ?_⟩⟩
  · have returned : max 0 (shaking a.clamp - s.pls.active.stations[i].floor) = a.excessAt i s := Nat.max_eq_right (Nat.zero_le _)
    have small := shaking_clamp_le a
    have below := excess_le (shaking a.clamp) s.pls.active.stations[i].floor
    refine ⟨horizontal_clamped_le a.x a.y, small, ?_, ?_, ?_, fun _ => rfl⟩
    · exact returned.trans_le (below.trans small)
    · exact returned.trans_le below
    · rw [takeSample_eq, ← returned]
      rfl
  · exact ⟨fun healthy moved => (enterArrival_eq s i v).trans (if_pos ⟨healthy, moved⟩),
      fun still => (enterArrival_eq s i v).trans (if_neg (by tauto))⟩
  · rw [settleArrival_of_settling settling, Nat.min_eq_left (by omega), if_neg (by omega)]
    rfl
  · rw [settleArrival_of_settling settling, Nat.min_eq_right full, if_pos rfl]
    rfl

/-! ### The station level (O17) -/

/-- The four levels that an index can reach (R22). -/
theorem levelOf_cases (p : Params) (index : Nat) :
    (p.levelOf index = .severe ∧ p.t3 ≤ index) ∨ (p.levelOf index = .strong ∧ p.t2 ≤ index ∧ index < p.t3)
      ∨ (p.levelOf index = .tremor ∧ p.t1 ≤ index ∧ index < p.t2) ∨ (p.levelOf index = .quiet ∧ index < p.t1) := by
  unfold Params.levelOf
  split
  · next severe => exact .inl ⟨rfl, severe⟩
  · split
    · next below strong => exact .inr (.inl ⟨rfl, strong, by omega⟩)
    · split
      · next below tremor => exact .inr (.inr (.inl ⟨rfl, tremor, by omega⟩))
      · next below => exact .inr (.inr (.inr ⟨rfl, by omega⟩))

/-- Which level an index reaches, the thresholds being in order (R22). -/
theorem levelOf_iff {p : Params} (index : Nat) (low : p.t1 < p.t2) (high : p.t2 < p.t3) :
    (p.levelOf index = .severe ↔ p.t3 ≤ index) ∧ (p.levelOf index = .strong ↔ p.t2 ≤ index ∧ index < p.t3)
      ∧ (p.levelOf index = .tremor ↔ p.t1 ≤ index ∧ index < p.t2) := by
  rcases levelOf_cases p index with ⟨level, h⟩ | ⟨level, h⟩ | ⟨level, h⟩ | ⟨level, h⟩ <;> simp [level] <;> omega

/-- One step down is one rank down above QUIET (R23). -/
theorem Level.rank_down {l : Level} (above : l ≠ .quiet) : l.down.rank + 1 = l.rank := by
  cases l with
  | quiet => exact absurd rfl above
  | tremor | strong | severe => rfl

/-- Settles O17: the thresholds by the level an index reaches, and the evaluation by its branches. -/
theorem stationLevelRule : Obligations.StationLevelRule := by
  intro p e low high
  obtain ⟨severe, strong, tremor⟩ := levelOf_iff e.index low high
  refine ⟨severe, strong, tremor, fun rises => if_pos rises, fun stays => ?_⟩
  have noRise : ¬ e.level.rank < (p.levelOf e.index).rank := Nat.not_lt.mpr stays
  refine ⟨fun quiet => ?_, fun above held => ?_, fun above below counting => ?_, fun above below reached => ?_⟩
  · rw [StationEval.evaluate, if_neg noRise, if_pos quiet]
  · rw [StationEval.evaluate, Params.fallPoint, if_neg noRise, if_neg above, if_pos held]
  · rw [StationEval.evaluate, Params.fallPoint, if_neg noRise, if_neg above, if_neg (Nat.not_le.mpr below),
      if_neg (Nat.not_le.mpr counting)]
  · rw [StationEval.evaluate, Params.fallPoint, if_neg noRise, if_neg above, if_neg (Nat.not_le.mpr below), if_pos reached]
    exact ⟨Level.rank_down above, rfl, rfl, rfl, rfl, rfl, rfl⟩

/-! ### The vote (O18) -/

/-- The voted level is supported by as many levels as are needed (R29). -/
theorem vote_supported (k : Nat) (levels : List Level) :
    min k levels.length ≤ levels.countP (fun m => m.atLeast (vote k levels)) := by
  unfold vote
  dsimp only
  split
  · assumption
  · split
    · assumption
    · split
      · assumption
      · have all : levels.countP (fun m => m.atLeast .quiet) = levels.length :=
          List.countP_eq_length.mpr (fun _ _ => decide_eq_true (Nat.zero_le _))
        exact (Nat.min_le_right ..).trans_eq all.symm

/-- A level supported by as many levels as are needed is no higher than the voted one (R29). -/
theorem rank_le_vote {k : Nat} {levels : List Level} {l : Level}
    (enough : min k levels.length ≤ levels.countP (fun m => m.atLeast l)) : l.rank ≤ (vote k levels).rank := by
  unfold vote
  dsimp only
  split
  · cases l <;> decide
  · next severe =>
    cases l with
    | severe => exact absurd enough severe
    | strong => rw [if_pos enough]
    | tremor =>
      split
      · decide
      · exact le_rfl
    | quiet => exact Nat.zero_le _

/-- The HEALTHY stations at or above a level are counted by their levels. -/
theorem countP_levels (s : State) (l : Level) :
    s.healthyStations.countP (fun i => decide (l.rank ≤ s.mev.evals[i].level.rank))
      = (s.healthyStations.map (fun i => s.mev.evals[i].level)).countP (fun m => m.atLeast l) := by
  rw [List.countP_map]
  rfl

/-- Settles O18: the voted level is supported, none above it is, and at least one station supports it. -/
theorem voteIsHighestSupported : Obligations.VoteIsHighestSupported := by
  intro s some_healthy k_pos need atLeast
  have supported : need ≤ atLeast s.votedLevel := by
    have h := vote_supported s.pls.active.params.voteCount (s.healthyStations.map (fun i => s.mev.evals[i].level))
    rw [List.length_map] at h
    exact h.trans_eq (countP_levels s _).symm
  refine ⟨supported, fun l above => ?_, ?_⟩
  · by_contra supported
    have enough := (Nat.not_lt.mp supported).trans_eq (countP_levels s l)
    exact absurd above (Nat.not_lt.mpr (rank_le_vote (by rwa [List.length_map])))
  · have needed : 0 < need := Nat.lt_min.mpr ⟨k_pos, List.length_pos_iff.mpr some_healthy⟩
    obtain ⟨i, healthy, stands⟩ := List.countP_pos_iff.mp (needed.trans_le supported)
    exact ⟨i, healthy, of_decide_eq_true stands⟩

/-! ### What a change of level leaves, and the DT lines (O19) -/

/-- States that agree block by block are equal. -/
theorem State.ext_blocks {s t : State} (siu : s.siu = t.siu) (mev : s.mev = t.mev) (dtu : s.dtu = t.dtu) (pls : s.pls = t.pls)
    (ptm : s.ptm = t.ptm) (seq : s.seq = t.seq) (ctk : s.ctk = t.ctk) (flc : s.flc = t.flc) (spu : s.spu = t.spu)
    (jrn : s.jrn = t.jrn) (fmn : s.fmn = t.fmn) (iml : s.iml = t.iml) (free : s.free = t.free) (pending : s.pending = t.pending) :
    s = t := by
  obtain ⟨⟩ := s
  obtain ⟨⟩ := t
  simp_all only

/-- The opening of an event leaves the device level. -/
@[simp] theorem openEvent_level (s : State) : (openEvent s).mev.level = s.mev.level := by
  simp [openEvent, resetPeaks]

/-- The close of an event leaves the device level. -/
@[simp] theorem closeEvent_level (s : State) : (closeEvent s).mev.level = s.mev.level := by
  simp only [closeEvent]
  split <;> simp

/-- What follows of itself leaves the device level. -/
@[simp] theorem settle_level (s : State) : (settle s).mev.level = s.mev.level := by
  refine settleFor_keeps (fun t => t.mev.level = s.mev.level) (fun t t' kept follows => ?_) settleFuel s rfl
  rcases settleOnce_cases follows with next | next | next | ⟨p, next⟩ <;> simpa [next, completeRestart] using kept

/-- The Sequencer at a change of level leaves the device level. -/
@[simp] theorem sequencerAtLevel_level (s : State) : (sequencerAtLevel s).mev.level = s.mev.level := by
  simp only [sequencerAtLevel, eventAtLevel]
  (repeat' split) <;> simp

/-- Quiet time set to 0 leaves the device level. -/
@[simp] theorem clearQuiet_level (s : State) : (clearQuiet s).mev.level = s.mev.level := by
  simp only [clearQuiet]
  split <;> simp

/-- A change of the device level ends at the new one (R31). -/
theorem changeLevel_level (new : Level) (s : State) : (changeLevel new s).mev.level = new := by
  simp only [changeLevel]
  (repeat' split) <;> simp

/-- The peak level raised where a greater one may stand (R27; log 48). -/
theorem raisePeakLevel_eq (new : Level) (s : State) :
    (if s.mev.peaksStand = false ∧ s.mev.peakLevel.rank < new.rank then { s with mev.peakLevel := new } else s)
      = { s with mev := { s.mev with
          peakLevel := if s.mev.peaksStand = false ∧ s.mev.peakLevel.rank < new.rank then new else s.mev.peakLevel } } := by
  split <;> rfl

/-- A change of the device level: the record with its notice, the peak level, quiet time above QUIET, and then the DTU, the Sequencer and
the FLC (R31; log 6). -/
theorem changeLevel_eq (new : Level) (s : State) :
    let told := raiseAll .level (post (.level s.mev.level new s.mev.healthy s.greatestIndex)
      { s with mev := { s.mev with level := new } })
    let peaked := { told with mev := { told.mev with
      peakLevel := if told.mev.peaksStand = false ∧ told.mev.peakLevel.rank < new.rank then new else told.mev.peakLevel } }
    changeLevel new s = noPlanTrip (sequencerAtLevel (assertLines (if new = .quiet then peaked else clearQuiet peaked))) := by
  intro told peaked
  unfold changeLevel
  dsimp only
  rw [raisePeakLevel_eq]
  rfl

/-- Whether a line's assigned level is not NONE and is met by the device level (R40). -/
def State.meetsLine (s : State) (l : Fin 4) : Bool :=
  decide (s.pls.active.params.dtLevels[l] ≠ .quiet) && decide (s.pls.active.params.dtLevels[l].rank ≤ s.mev.level.rank)

/-- A RELEASED line whose level is met is asserted, with its record (R40). -/
theorem assertLine_of_met {s : State} {l : Fin 4} (released : s.dtu.lines[l] = false) (met : s.meetsLine l = true) :
    assertLine l s = post (.dt l true) { s with dtu := ⟨s.dtu.lines.set l true⟩ } := by
  unfold State.meetsLine at met
  rw [Bool.and_eq_true, decide_eq_true_eq] at met
  exact if_pos ⟨released, met⟩

/-- Any other line stands (R40). -/
theorem assertLine_of_not_met {s : State} {l : Fin 4} (h : ¬ (s.dtu.lines[l] = false ∧ s.meetsLine l = true)) :
    assertLine l s = s := by
  unfold State.meetsLine at h
  rw [Bool.and_eq_true, decide_eq_true_eq] at h
  exact if_neg h

/-- The lines after one is compared with the device level (R40). -/
theorem assertLine_line (l j : Fin 4) (s : State) :
    (assertLine l s).dtu.lines[j] = (s.dtu.lines[j] || (decide (l = j) && s.meetsLine j)) := by
  by_cases met : s.dtu.lines[l] = false ∧ s.meetsLine l = true
  · obtain ⟨released, meets⟩ := met
    simp only [assertLine_of_met released meets, post_frame]
    by_cases here : l = j
    · subst here
      simp [meets]
    · rw [vector_set_other _ _ _ _ here]
      simp [here]
  · rw [assertLine_of_not_met met]
    by_cases here : l = j
    · subst here
      cases asserted : s.dtu.lines[l] <;> simp_all
    · simp [here]

/-- Whether a line is met stands while the lines are compared. -/
@[simp] theorem assertLine_meetsLine (l j : Fin 4) (s : State) : (assertLine l s).meetsLine j = s.meetsLine j := by
  simp only [State.meetsLine, assertLine_frame]

/-- Every line after the comparison: asserted before, or met (R40). -/
theorem assertLines_line (j : Fin 4) (s : State) : (assertLines s).dtu.lines[j] = (s.dtu.lines[j] || s.meetsLine j) := by
  simp only [assertLines, assertLine_line, assertLine_meetsLine]
  have one : j = 0 ∨ j = 1 ∨ j = 2 ∨ j = 3 := by omega
  rcases one with rfl | rfl | rfl | rfl <;> simp

/-- Quiet time set to 0 where it stood above 0: the tracker hears of it (R34, R35). -/
theorem clearQuiet_of_pos {s : State} (running : 0 < s.mev.quiet) :
    clearQuiet s = trackerQuietCleared { s with mev := { s.mev with quiet := 0, quietHanded := false } } := if_pos running

/-- Quiet cleared at a tracker in OPEN (R132). -/
theorem trackerQuietCleared_of_open {s : State} (isOpen : s.ctk.state = .openState) :
    trackerQuietCleared s = raiseAll .consent { s with ctk := { s.ctk with state := .waitQuiet } } := by
  simp [trackerQuietCleared, setTracker, isOpen]

/-- Quiet cleared at a tracker in ONE: the held consent is discarded first (R132). -/
theorem trackerQuietCleared_of_one {s : State} {q : Fin 3} (one : s.ctk.state = .one) (held : s.ctk.held = some q) :
    let v := post (.consent q .discarded) { s with ctk := { s.ctk with held := none, window := none } }
    trackerQuietCleared s = raiseAll .consent { v with ctk := { v.ctk with state := .waitQuiet } } := by
  intro v
  have still : v.ctk.state = .one := by simpa [v] using one
  have dropped : dropConsent .discarded s = v := by
    unfold dropConsent
    rw [held]
  unfold trackerQuietCleared
  rw [one]
  dsimp only
  rw [dropped, setTracker, if_neg (by rw [still]; decide)]

/-- Quiet cleared at any other tracker (R132). -/
theorem trackerQuietCleared_of_other {s : State} (other : s.ctk.state = .inactive ∨ s.ctk.state = .waitQuiet) :
    trackerQuietCleared s = s := by
  unfold trackerQuietCleared
  rcases other with other | other <;> rw [other]

/-- Settles O19: the vote, the lines one by one, the change of level, the NO_PLAN trip, and quiet cleared by the tracker's state. -/
theorem levelRecomputedAndLinesAsserted : Obligations.LevelRecomputedAndLinesAsserted := by
  refine ⟨fun s => ⟨fun none_healthy => if_pos none_healthy, fun healthy same => ?_, fun healthy differs => ?_⟩,
    fun s l => ⟨assertLines_line l s, ?_⟩, fun s new => changeLevel_eq new s,
    fun s => ⟨fun first => if_pos first, fun other => if_neg other⟩,
    fun s => ⟨fun stood => ?_, fun running => ⟨fun other => ?_, fun isOpen => ?_, fun q one held => ?_⟩⟩,
    fun s l => ⟨rfl, fun met => if_pos ?_, fun not_met => if_neg ?_⟩⟩
  · rw [recompute, if_neg healthy, if_pos same]
  · have voted : recompute s = changeLevel s.votedLevel s := by rw [recompute, if_neg healthy, if_neg differs]
    exact ⟨voted, by rw [voted, changeLevel_level]⟩
  · apply State.ext_blocks <;> simp
  · exact if_neg (by omega)
  · rw [clearQuiet_of_pos running]
    exact trackerQuietCleared_of_other other
  · rw [clearQuiet_of_pos running]
    exact trackerQuietCleared_of_open isOpen
  · rw [clearQuiet_of_pos running]
    exact trackerQuietCleared_of_one one held
  · simpa [Level.atLeast] using met
  · simpa [Level.atLeast] using not_met

/-! ### BLIND and quiet reached (O23) -/

/-- An offered fault leaves BLIND as it was last reported. -/
theorem offerFault_condBlind (k : FaultKind) (d : Detail) (s : State) : (offerFault k d s).fmn.condBlind = s.fmn.condBlind := by
  unfold offerFault
  split
  · rfl
  · cases s.fmn.pointer <;> simp

/-- A status set leaves BLIND as it was last reported. -/
theorem setStatus_condBlind (k : FaultKind) (d : Detail) (s : State) : (setStatus k d s).fmn.condBlind = s.fmn.condBlind := by
  rw [setStatus_eq, driveFault, offerFault_condBlind]
  simp

/-- A raised fault leaves BLIND as it was last reported. -/
theorem raiseFault_condBlind (k : FaultKind) (d : Detail) (s : State) : (raiseFault k d s).fmn.condBlind = s.fmn.condBlind := by
  unfold raiseFault raiseOverrun
  dsimp only
  (repeat' split) <;> simp only [setStatus_condBlind]

/-- The BLIND condition reported true: the value and the status (R33, R176). -/
theorem reportTrue_blind (d : Detail) (s : State) :
    (reportTrue .blind d s).fmn.condBlind = true ∧ (reportTrue .blind d s).fmn.status[FaultKind.blind.idx] = true :=
  ⟨raiseFault_condBlind .., raiseFault_sets ..⟩

/-- A line after it is released stands RELEASED, and the others stand (R41). -/
theorem releaseLine_line (l j : Fin 4) (s : State) : (releaseLine l s).dtu.lines[j] = (s.dtu.lines[j] && decide (l ≠ j)) := by
  unfold releaseLine
  by_cases here : l = j
  · subst here
    split <;> simp_all
  · split
    · simp only [post_frame, vector_set_other _ _ _ _ here]
      simp [here]
    · simp [here]

/-- Every line is RELEASED after the close of an event (R41). -/
theorem releaseLines_line (j : Fin 4) (s : State) : (releaseLines s).dtu.lines[j] = false := by
  simp only [releaseLines, releaseLine_line]
  have one : j = 0 ∨ j = 1 ∨ j = 2 ∨ j = 3 := by omega
  rcases one with rfl | rfl | rfl | rfl <;> simp

/-- The state in which an event has closed and, above QUIET, the next has not opened yet: the record with its notice, the event, the peaks
left standing, the lines, the TRIP_ALL flag (R118). -/
def State.shut (s : State) : State :=
  let told := raiseAll .sequence (post (.event false s.mev.peakLevel s.mev.peakHealthy) s)
  let released := releaseLines { told with
    seq.eventOpen := false, seq.depth := 0, seq.target := 0, mev.peaksStand := true }
  { released with flc.tripSent := false }

/-- The close of an event: above QUIET the next opens at once (R118). -/
theorem closeEvent_eq (s : State) :
    closeEvent s = if s.shut.mev.level = .quiet then s.shut else checkShedding (openEvent s.shut) := rfl

/-- What an event that has closed leaves (R118). -/
theorem State.shut_items (s : State) :
    s.shut.seq = { s.seq with eventOpen := false, depth := 0, target := 0 } ∧ s.shut.flc = { s.flc with tripSent := false }
      ∧ s.shut.mev = { s.mev with peaksStand := true } ∧ s.shut.ctk = s.ctk ∧ s.shut.ptm = s.ptm := by
  simp [State.shut]

/-- Every line is RELEASED after the close of an event (R41). -/
theorem State.shut_line (l : Fin 4) (s : State) : s.shut.dtu.lines[l] = false := by
  simp only [State.shut, releaseLines_line]

/-- At QUIET no event opens at the close of another (R118). -/
theorem closeEvent_of_quiet {s : State} (quiet : s.mev.level = .quiet) : closeEvent s = s.shut := by
  obtain ⟨_, _, mev, _⟩ := s.shut_items
  rw [closeEvent_eq, if_pos (by rw [mev]; exact quiet)]

/-- QUIET_REACHED while quiet time grows: the quiet rule, and then the tracker (R35, R117, R132; log 33). -/
theorem quietReached_of_growing {s : State} (quiet : s.mev.level = .quiet) (healthy : s.mev.healthy ≠ 0)
    (first : s.mev.quietHanded = false) :
    exec .quietReached s = .next (trackerQuietReached (quietRule { s with
      mev := { s.mev with quiet := max s.mev.quiet (s.pls.active.params.quietPeriod * 1000), quietHanded := true } })) := by
  have growing : s.quietGrowing = true := by simp [State.quietGrowing, quiet, healthy, first]
  exact congrArg Host.Outcome.next (if_pos growing)

/-- Quiet reached at a tracker in WAIT_QUIET (R132). -/
theorem trackerQuietReached_of_waiting {s : State} (waiting : s.ctk.state = .waitQuiet) :
    trackerQuietReached s = raiseAll .consent { s with ctk.state := .openState } := by
  simp [trackerQuietReached, setTracker, waiting]

/-- Quiet reached at any other tracker (R132). -/
theorem trackerQuietReached_of_not_waiting {s : State} (other : s.ctk.state ≠ .waitQuiet) : trackerQuietReached s = s := by
  unfold trackerQuietReached
  split
  · next waiting => exact absurd waiting other
  all_goals rfl

/-- Settles O23: BLIND through the fault it raises, and quiet reached by the quiet rule and the tracker's state. -/
theorem blindAndQuietReached : Obligations.BlindAndQuietReached := by
  refine ⟨fun s runs seeing => ?_, fun s quiet healthy first => ?_⟩
  · obtain ⟨value, status⟩ := reportTrue_blind .none { s with mev := { s.mev with blindTimer := some 2000, blind := true } }
    exact ⟨_, congrArg Host.Outcome.next (if_pos ⟨runs, seeing⟩), by simp, value, status, by apply State.ext_blocks <;> simp⟩
  · intro reached closes
    have run := quietReached_of_growing quiet healthy first
    have stays (not_closing : ¬ closes) : quietRule reached = reached := if_neg (by tauto)
    refine ⟨fun closing other => ?_, fun not_closing waiting => ?_, fun not_closing other => ?_⟩
    · have closed : quietRule reached = closeEvent reached := if_pos (by tauto)
      have shut : closeEvent reached = reached.shut := closeEvent_of_quiet quiet
      obtain ⟨seq, flc, mev, ctk, ptm⟩ := reached.shut_items
      have tracker : trackerQuietReached reached.shut = reached.shut :=
        trackerQuietReached_of_not_waiting (by rw [ctk]; exact other)
      refine ⟨reached.shut, by rw [run, closed, shut, tracker], shut.symm, by rw [seq], by rw [seq], by rw [seq],
        fun l => reached.shut_line l, flc, by rw [seq], by rw [seq], mev, ctk, ?_⟩
      rw [← shut]
      exact ⟨by simp [reached], by simp [reached], by rw [shut, ptm], by simp [reached]⟩
    · rw [run, stays not_closing, trackerQuietReached_of_waiting (s := reached) waiting]
    · rw [run, stays not_closing, trackerQuietReached_of_not_waiting (s := reached) other]

end Sys2Proof.Machine

/-! PROOFS of the family 03_the_response_plan. -/

namespace Sys2Proof.Machine

/-! ### A request at a free port (R158 to R160) -/

/-- A request that finds its port free is served in the state that takes it into service. -/
theorem exec_taken {c : Instr} {p : Fin 3} {code : Byte} {payload : List Byte} {serve : State → State} {s : State}
    (ready : Ready s p) (fits : payload.length ≤ 120) (runs : exec c s = .next (takeFrame p code payload serve s)) :
    exec c s = .next (serve (s.taken p code)) := by
  rw [runs, takeFrame_ready ready code payload fits]

/-- Check 2 of R160 for a caller with the right. -/
theorem withRight_of_held {p : Fin 3} {holds : Bool} (held : holds = true) (s taken : State) :
    withRight p holds s taken = taken := if_pos held

/-- A reply joins the queue with the code of the request in service, also behind a notice on every port. -/
theorem reply_raiseAll {s : State} {p : Fin 3} {code : Byte} (serving : s.spu.ports[p].service = some code) (n : Notice)
    (status : ReplyStatus) (payload : List Byte) :
    reply p status payload (raiseAll n s) = (raiseAll n s).replied p code status payload :=
  reply_replied p code status payload _ (by simpa using serving)

/-! ### CLAIM and RELEASE (O48) -/

/-- CLAIM at a free port that holds the EDIT right. -/
theorem exec_claim {s : State} {p : Fin 3} (ready : Ready s p) (right : s.pls.active.rights[p].edit = true) :
    exec (.claim p []) s = .next (ownerClaim p (s.taken p 0x10)) := by
  rw [exec_taken ready (Nat.zero_le _) rfl]
  exact congrArg _ (withRight_of_held right _ _)

/-- RELEASE at a free port. -/
theorem exec_release {s : State} {p : Fin 3} (ready : Ready s p) :
    exec (.release p []) s = .next
      (if s.holdsClaim p then reply p .ok [] (dropClaim (s.taken p 0x11)) else s.answered p 0x11 .notClaimed []) := by
  rw [exec_taken ready (Nat.zero_le _) rfl, ← reply_answered]
  rfl

/-- Settles O48: CLAIM by who holds the claim, and RELEASE by whether the caller does. -/
theorem claimAndRelease : Obligations.ClaimAndRelease := by
  refine fun s p ready => ⟨fun right => ⟨fun free => ?_, fun c claimed => ⟨fun own => ?_, fun other => ?_⟩⟩,
    fun held => ?_, fun other => ?_⟩
  · rw [exec_claim ready right]
    simp only [ownerClaim, State.taken_frame, free]
    exact congrArg _ (reply_raiseAll (by simp) .claim .ok [])
  · rw [exec_claim ready right]
    simp [ownerClaim, claimed, own]
  · rw [exec_claim ready right]
    simp [ownerClaim, claimed, other]
  · rw [exec_release ready, if_pos (by simp [State.holdsClaim, held])]
    exact congrArg _ (reply_raiseAll (by simp) .claim .ok [])
  · rw [exec_release ready, if_neg (by simp [State.holdsClaim, other])]

end Sys2Proof.Machine

namespace Sys2Proof.Machine

/-! ### Which requests change the plan, the channels and the store (O13) -/

/-- What changes of a port leave and a request in service leaves, the frame that brings the request leaves. -/
theorem takeFrame_leaves {α : Type} (item : State → α) (ports : ∀ s i f, item (State.modPort s i f) = item s) (p : Fin 3)
    (code : Byte) (payload : List Byte) {serve : State → State} (serves : ∀ s, item (serve s) = item s) (s : State) :
    item (takeFrame p code payload serve s) = item s := by
  rcases takeFrame_cases p code payload serve s with ⟨_, long⟩ | ⟨_, _, busy⟩ | ⟨_, _, free⟩
  · rw [long]
    exact ports ..
  · rw [busy, answerBusy]
    split
    · exact (ports ..).trans (ports ..)
    · exact (ports ..).trans (ports ..)
  · rw [free, serves]
    exact ports ..

/-- Which items each request leaves: COMMIT alone can change a channel; it, CLAIM, RELEASE and PLAN_WRITE the plan; it and SAVE the
store link. -/
theorem serveCode_frame (p : Fin 3) (code : Byte) (payload : List Byte) (s : State) :
    (code ≠ 0x14 → (serveCode p code payload s).siu = s.siu)
      ∧ (code ∉ [0x10, 0x11, 0x12, 0x14] → (serveCode p code payload s).pls = s.pls)
      ∧ (code ∉ [0x14, 0x15] → (serveCode p code payload s).iml = s.iml) := by
  unfold serveCode
  split
  -- Cases 8 to 10, 12 and 13 are CLAIM, RELEASE, PLAN_WRITE, COMMIT and SAVE, and case 20 is a code of no row.
  case h_8 is | h_9 is | h_10 is =>
    refine ⟨fun _ => ?_, fun other => absurd (by simp [← BitVec.toNat_inj, is]) other, fun _ => ?_⟩ <;>
    · simp only [serveClaim, serveRelease, servePlanWrite, withRight, withNoParam]
      (repeat' split) <;> simp
  case h_12 is =>
    have commit : code = 0x14 := BitVec.eq_of_toNat_eq is
    exact ⟨absurd commit, fun other => absurd (by simp [commit]) other, fun other => absurd (by simp [commit]) other⟩
  case h_13 is =>
    refine ⟨fun _ => ?_, fun _ => ?_, fun other => absurd (by simp [← BitVec.toNat_inj, is]) other⟩ <;>
    · simp only [serveSave, withRight, withNoParam]
      (repeat' split) <;> simp
  case h_20 => exact ⟨fun _ => by simp, fun _ => by simp, fun _ => by simp⟩
  all_goals
    refine ⟨fun _ => ?_, fun _ => ?_, fun _ => ?_⟩ <;>
    · simp only [serveStatus, serveIdent, serveStationDetail, servePointDetail, serveSequenceDetail, serveJournalRead,
        serveNoticeMask, servePlanRead, serveConsent, serveVeto, serveVetoClear, serveFaultClear, serveManualShed,
        serveManualRestore, withRight, withNoParam, withPoint]
      (repeat' split) <;> simp

/-- The state after a command keeps the items that the lists of Safety.lean do not give it (R3, R42, R182). -/
def KeepsOwners (c : Instr) (s t : State) : Prop :=
  (c.touchesPlan = false → t.pls = s.pls) ∧ (c.touchesChannels = false → t.siu = s.siu)
    ∧ (c.touchesStore = false → t.iml = s.iml)

/-- A request keeps the items that the lists do not give it. -/
theorem request_keepsOwners {c : Instr} {p : Fin 3} {code : Byte} {payload : List Byte} {s t : State}
    (brings : c.request = some (p, code, payload)) (ran : exec c s = .next t) : KeepsOwners c s t := by
  rw [exec_request brings] at ran
  cases ran
  have frame := serveCode_frame p code payload
  refine ⟨fun unlisted => ?_, fun unlisted => ?_, fun unlisted => ?_⟩
  · refine takeFrame_leaves State.pls (fun _ _ _ => rfl) p code payload (fun u => (frame u).2.1 ?_) s
    cases c <;> cases brings <;> simp_all [Instr.touchesPlan]
  · refine takeFrame_leaves State.siu (fun _ _ _ => rfl) p code payload (fun u => (frame u).1 ?_) s
    cases c <;> cases brings <;> simp_all [Instr.touchesChannels]
  · refine takeFrame_leaves State.iml (fun _ _ _ => rfl) p code payload (fun u => (frame u).2.2 ?_) s
    cases c <;> cases brings <;> simp_all [Instr.touchesStore]

/-- A state that keeps all of them. -/
theorem KeepsOwners.of_same {c : Instr} {s t u : State} (pls : u.pls = s.pls) (siu : u.siu = s.siu) (iml : u.iml = s.iml)
    (ran : (.next u : Host.Outcome State Fault Refusal) = .next t) : KeepsOwners c s t := by
  cases ran
  exact ⟨fun _ => pls, fun _ => siu, fun _ => iml⟩

/-- A command keeps the items that the lists do not give it. -/
theorem exec_keepsOwners {c : Instr} {s t : State} (ran : exec c s = .next t) : KeepsOwners c s t := by
  cases c with
  | status p l | ident p l | stationDetail p l | pointDetail p l | sequenceDetail p l | journalRead p l | noticeMask p l
  | claim p l | release p l | planWrite p l | planRead p l | commit p l | save p l | consent p l | veto p l | vetoClear p l
  | faultClear p l | manualShed p l | manualRestore p l =>
    exact request_keepsOwners rfl ran
  | requestWhileBusy | unknownRequest | requestFrameInvalid | requestIdleAbandon | coldReset | warmReset | imageLoadEnd =>
    exact ⟨nofun, nofun, nofun⟩
  | saveEnd failedAt =>
    cases ran
    refine ⟨fun _ => ?_, fun _ => ?_, nofun⟩ <;> ((repeat' split) <;> simp)
  | sensorFrame i bytes => cases ran; exact ⟨fun _ => by simp, nofun, fun _ => by simp⟩
  | sensorIdleAbandon i b =>
    cases ran
    refine ⟨fun _ => ?_, nofun, fun _ => ?_⟩ <;> (split <;> simp)
  | gapTimerExpiry i => cases ran; exact ⟨fun _ => by simp, nofun, fun _ => by simp⟩
  | linkTimeout p =>
    cases ran
    refine ⟨nofun, fun _ => ?_, nofun⟩
    split <;> simp
  | orderFrameEnd | tripAllFrameEnd | loopReplyFrame | loopIdleAbandon | replyTimeout =>
    exact .of_same (by simp) (by simp) (by simp) ran
  | graceTimerExpiry | settleTimerExpiry | replySent => exact .of_same (by simp) (by simp) (by simp) ran
  | blindTimerExpiry | quietReached | pollTimerExpiry | restoreSpacingExpiry | shedDelayExpiry | shedStepTimeout
  | restartDelayExpiry | restartStepTimeout | consentWindowExpiry =>
    refine .of_same ?_ ?_ ?_ ran <;> (split <;> simp)

/-- Settles O13: command by command, by what each request and each expiry leaves. -/
theorem ownersStateChangesOnlyBy : Obligations.OwnersStateChangesOnlyBy :=
  ⟨fun _ _ _ unlisted ran => (exec_keepsOwners ran).1 unlisted, fun _ _ _ unlisted ran => (exec_keepsOwners ran).2.1 unlisted,
    fun _ _ _ unlisted ran => (exec_keepsOwners ran).2.2 unlisted⟩

end Sys2Proof.Machine

namespace Sys2Proof.Machine

/-! ### The writes of a save and what they leave (R189) -/

/-- The offset at which page `k` of a save begins: the first follows the signature (log 15). -/
def pageStart (k : Nat) : Nat := max 2 (32 * k)

/-- Page `k` of the writes of an image. -/
def pageOf (image : List Byte) (k : Nat) : StoreWrite :=
  ⟨pageStart k, (image.drop (pageStart k)).take (32 * (k + 1) - pageStart k)⟩

/-- A page begins where the page before it is full. -/
theorem pageStart_succ (k : Nat) : pageStart k + (32 * (k + 1) - pageStart k) = pageStart (k + 1)
    ∧ 32 * (k + 2) - pageStart (k + 1) = 32 := by
  unfold pageStart
  omega

/-- The pages of an image from page `k` on. -/
theorem pagesFrom_eq (image : List Byte) (signed : 2 < image.length) (fuel k : Nat) (enough : image.length < fuel + pageStart k) :
    pagesFrom fuel (pageStart k) (32 * (k + 1) - pageStart k) (image.drop (pageStart k))
      = (List.range' k ((image.length + 31) / 32 - k)).map (pageOf image) := by
  induction fuel generalizing k with
  | zero =>
    have past : (image.length + 31) / 32 - k = 0 := by unfold pageStart at enough; omega
    rw [past]
    rfl
  | succ fuel ih =>
    obtain ⟨next, room⟩ := pageStart_succ k
    by_cases more : pageStart k < image.length
    · have count : (image.length + 31) / 32 - k = (image.length + 31) / 32 - (k + 1) + 1 := by
        unfold pageStart at more; omega
      have rest := ih (k + 1) (by unfold pageStart at enough ⊢; omega)
      rw [room] at rest
      rw [count, List.range'_succ, List.map_cons, ← rest, List.drop_eq_getElem_cons more]
      simp only [pagesFrom]
      rw [← List.drop_eq_getElem_cons more, List.drop_drop, next]
      rfl
    · have past : (image.length + 31) / 32 - k = 0 := by unfold pageStart at more; omega
      rw [past, List.drop_eq_nil_of_le (Nat.not_lt.mp more)]
      rfl

/-- A write of no bytes changes nothing. -/
theorem applied_nil (store : List Byte) (offset : Nat) : StoreWrite.applied store ⟨offset, []⟩ = store := by
  simp [StoreWrite.applied]

/-- Two writes, the second where the first ends, are one write of both. -/
theorem applied_append {store : List Byte} {offset : Nat} (inside : offset ≤ store.length) (a b : List Byte) :
    StoreWrite.applied (StoreWrite.applied store ⟨offset, a⟩) ⟨offset + a.length, b⟩
      = StoreWrite.applied store ⟨offset, a ++ b⟩ := by
  have start : (store.take offset).length = offset := List.length_take_of_le inside
  have front : (store.take offset ++ a).length = offset + a.length := by rw [List.length_append, start]
  simp only [StoreWrite.applied]
  rw [List.take_left' front, ← front, List.drop_append, front, List.drop_drop, List.drop_eq_nil_of_le (by omega)]
  simp [Nat.add_assoc]

/-- Pages of no bytes are none. -/
theorem pagesFrom_nil (fuel offset room : Nat) : pagesFrom fuel offset room [] = [] := by
  cases fuel <;> rfl

/-- The store after a write reaches at least to its end. -/
theorem le_length_applied {store : List Byte} {offset : Nat} (inside : offset ≤ store.length) (a : List Byte) :
    offset + a.length ≤ (StoreWrite.applied store ⟨offset, a⟩).length := by
  simp only [StoreWrite.applied, List.length_append, List.length_take_of_le inside]
  omega

/-- The pages, written one after another, are one write of all their bytes (R189). -/
theorem foldl_applied_pagesFrom (fuel offset room : Nat) (bytes store : List Byte) (inside : offset ≤ store.length)
    (enough : bytes.length < fuel) (some_room : 0 < room) :
    (pagesFrom fuel offset room bytes).foldl StoreWrite.applied store = StoreWrite.applied store ⟨offset, bytes⟩ := by
  induction fuel generalizing offset room bytes store with
  | zero => omega
  | succ fuel ih =>
    match bytes with
    | [] => rw [applied_nil]; rfl
    | b :: rest =>
      rw [pagesFrom, List.foldl_cons]
      by_cases full : room ≤ (b :: rest).length
      · have taken : ((b :: rest).take room).length = room := List.length_take_of_le full
        have reached := le_length_applied inside ((b :: rest).take room)
        rw [taken] at reached
        rw [ih (offset + room) 32 ((b :: rest).drop room) _ reached (by rw [List.length_drop]; omega) (by decide)]
        have joined := applied_append inside ((b :: rest).take room) ((b :: rest).drop room)
        rwa [taken, List.take_append_drop] at joined
      · rw [List.drop_eq_nil_of_le (by omega), pagesFrom_nil, List.foldl_nil, List.take_of_length_le (by omega)]

/-- The bytes of a save end at the end byte, and follow the signature. -/
theorem Plan.image_eq (p : Plan) : p.image.drop 2 = p.blocks ∧ p.image.length = p.blocks.length + 2
    ∧ 0 < p.blocks.length := by
  refine ⟨rfl, rfl, ?_⟩
  simp [Plan.blocks]

/-- The pages of a save (R189; log 15). -/
theorem saveWrites_eq (p : Plan) : saveWrites p
    = [⟨0, [0]⟩] ++ (List.range ((p.image.length + 31) / 32)).map (pageOf p.image) ++ [⟨0, [0x54]⟩, ⟨1, [0x51]⟩] := by
  obtain ⟨_, length, some_blocks⟩ := p.image_eq
  have pages := pagesFrom_eq p.image (by omega) (p.blocks.length + 1) 0 (by rw [length]; unfold pageStart; omega)
  rw [List.range_eq_range']
  exact congrArg (fun pages => [⟨0, [0]⟩] ++ pages ++ [⟨0, [0x54]⟩, ⟨1, [0x51]⟩]) pages

/-- The writes of a save leave the image at the front of the store, and the rest as it was (R189). -/
theorem foldl_applied_saveWrites (p : Plan) (store : List Byte) (room : p.image.length ≤ store.length) :
    (saveWrites p).foldl StoreWrite.applied store = p.image ++ store.drop p.image.length := by
  obtain ⟨_, length, _⟩ := p.image_eq
  match store, room with
  | a :: b :: rest, room =>
    have inside : 2 ≤ (StoreWrite.applied (a :: b :: rest) ⟨0, [0]⟩).length := by simp [StoreWrite.applied]
    rw [saveWrites, List.cons_append, List.foldl_cons, List.foldl_append,
      foldl_applied_pagesFrom _ 2 30 p.blocks _ inside (Nat.lt_succ_self _) (by decide), length]
    simp [StoreWrite.applied, Plan.image, Nat.add_comm 2]

/-! ### SAVE and SAVE_END (O54) -/

/-- SAVE at a free port that holds the EDIT right. -/
theorem exec_save {s : State} {p : Fin 3} (ready : Ready s p) (right : s.pls.active.rights[p].edit = true) :
    exec (.save p []) s = .next (ownerSave p (s.taken p 0x15)) := by
  rw [exec_taken ready (Nat.zero_le _) rfl]
  exact congrArg _ (withRight_of_held right _ _)

/-- SAVE_END of a save in flight. -/
theorem exec_saveEnd {s : State} {f : SaveFlight} (saving : s.iml.save = some f) (failedAt : Option Nat) :
    exec (.saveEnd failedAt) s = .next (if failedAt.isSome then saveFails f s else saveSucceeds f s) := by
  simp only [exec, execSaveEnd, saving]

/-- The reply of a save that is still owed to the request in service. -/
theorem saveReply_owed {f : SaveFlight} {code : Byte} {s : State} (owed : f.replyOwed = true)
    (serving : s.spu.ports[f.port].service = some code) (status : ReplyStatus) (payload : List Byte) :
    saveReply f status payload s = s.replied f.port code status payload := by
  rw [saveReply, if_pos owed, reply_replied _ code _ _ _ serving]

/-- A save that owes no reply sends none (R158). -/
theorem saveReply_not_owed {f : SaveFlight} (owed : f.replyOwed = false) (s : State) (status : ReplyStatus)
    (payload : List Byte) : saveReply f status payload s = s := by
  simp [saveReply, owed]

/-- Settles O54: SAVE by its conditions, SAVE_END by whether the reply is owed, and the writes by their pages. -/
theorem saveAndItsEnd : Obligations.SaveAndItsEnd := by
  refine ⟨fun s p ready right => ⟨fun no_plan => ?_, fun planned busy => ?_, fun planned idle => ?_⟩,
    fun s f saving => ⟨fun code owed serving => ⟨?_, fun n => ?_⟩, fun owed => ⟨?_, fun n => ?_⟩⟩,
    fun p => ⟨saveWrites_eq p, foldl_applied_saveWrites p⟩⟩
  · rw [exec_save ready right]
    simp [ownerSave, no_plan]
  · rw [exec_save ready right]
    simp [ownerSave, planned, busy]
  · rw [exec_save ready right]
    simp [ownerSave, planned, idle, beginSave]
  · rw [exec_saveEnd saving]
    exact congrArg _ (saveReply_owed owed (by simpa using serving) _ _)
  · rw [exec_saveEnd saving]
    exact congrArg _ (saveReply_owed owed (by simpa using serving) _ _)
  · rw [exec_saveEnd saving]
    exact congrArg _ (saveReply_not_owed owed _ _ _)
  · rw [exec_saveEnd saving]
    exact congrArg _ (saveReply_not_owed owed _ _ _)

end Sys2Proof.Machine

namespace Sys2Proof.Machine

/-! ### Decoders and encodings (R43 to R48, R193) -/

/-- A decoder takes from the front of the bytes exactly the encodings of the values for which `ok` holds. -/
def Decodes {α : Type} (d : Decoder α) (encode : α → List Byte) (ok : α → Prop) : Prop :=
  ∀ bytes v rest, d bytes = some (v, rest) ↔ ok v ∧ bytes = encode v ++ rest

/-- Such a decoder that must use every byte. -/
theorem Decodes.exactly_iff {α : Type} {d : Decoder α} {encode : α → List Byte} {ok : α → Prop} (h : Decodes d encode ok)
    (bytes : List Byte) (v : α) : exactly d bytes = some v ↔ ok v ∧ bytes = encode v := by
  have whole := h bytes v []
  rw [List.append_nil] at whole
  rw [← whole, exactly]
  split
  · next w decoded => simp [decoded]
  · next other => exact ⟨nofun, fun decoded => absurd decoded (other v)⟩

/-- A field of a record, and then the rest of the record. -/
theorem Decodes.bind_iff {α β : Type} {d : Decoder α} {encode : α → List Byte} {ok : α → Prop} (h : Decodes d encode ok)
    (bytes : List Byte) (k : α × List Byte → Option β) (b : β) :
    d bytes >>= k = some b ↔ ∃ v rest, (ok v ∧ bytes = encode v ++ rest) ∧ k (v, rest) = some b := by
  simp only [Option.bind_eq_bind, Option.bind_eq_some_iff, Prod.exists, h bytes]

/-- The number of a byte made from a number below 256. -/
theorem toNat_byteOf {n : Nat} (small : n ≤ 255) : (byteOf n).toNat = n := by
  rw [byteOf, BitVec.toNat_ofNat]
  omega

/-- A byte is the byte of its number. -/
theorem byteOf_toNat (b : Byte) : byteOf b.toNat = b := BitVec.ofNat_toNat ..

/-- A one-byte quantity. -/
theorem decodes_nat8 {lo hi : Nat} (small : hi ≤ 255) :
    Decodes (takeNat8 lo hi) (fun n => [byteOf n]) (fun n => lo ≤ n ∧ n ≤ hi) := by
  intro bytes v rest
  match bytes with
  | [] => simp [takeNat8]
  | b :: more =>
    simp only [takeNat8, Option.ite_none_right_eq_some, Option.some.injEq, Prod.mk.injEq, List.cons_append, List.nil_append,
      List.cons.injEq]
    constructor
    · rintro ⟨range, rfl, rfl⟩
      exact ⟨range, (byteOf_toNat b).symm, rfl⟩
    · rintro ⟨range, rfl, rfl⟩
      rw [toNat_byteOf (by omega)]
      exact ⟨range, rfl, rfl⟩

/-- The value of the two bytes of a number below 65536. -/
theorem halfValue_halfBytes {n : Nat} (small : n ≤ 65535) : halfValue (byteOf n) (byteOf (n / 256)) = n := by
  simp only [halfValue, byteOf, BitVec.toNat_ofNat]
  omega

/-- Two bytes are the bytes of their value. -/
theorem halfBytes_halfValue (lo hi : Byte) : halfBytes (halfValue lo hi) = [lo, hi] := by
  have := lo.isLt
  have := hi.isLt
  have l : byteOf (halfValue lo hi) = lo := by
    apply BitVec.eq_of_toNat_eq
    simp only [halfValue, byteOf, BitVec.toNat_ofNat]
    omega
  have h : byteOf (halfValue lo hi / 256) = hi := by
    apply BitVec.eq_of_toNat_eq
    simp only [halfValue, byteOf, BitVec.toNat_ofNat]
    omega
  rw [halfBytes, l, h]

/-- A two-byte quantity, low byte first. -/
theorem decodes_nat16 {lo hi : Nat} (small : hi ≤ 65535) :
    Decodes (takeNat16 lo hi) halfBytes (fun n => lo ≤ n ∧ n ≤ hi) := by
  intro bytes v rest
  match bytes with
  | [] => simp [takeNat16, halfBytes]
  | [a] => simp [takeNat16, halfBytes]
  | a :: b :: more =>
    simp only [takeNat16, Option.ite_none_right_eq_some, Option.some.injEq, Prod.mk.injEq]
    constructor
    · rintro ⟨range, rfl, rfl⟩
      exact ⟨range, by rw [halfBytes_halfValue]; rfl⟩
    · simp only [halfBytes, List.cons_append, List.nil_append, List.cons.injEq]
      rintro ⟨range, rfl, rfl, rfl⟩
      rw [halfValue_halfBytes (by omega)]
      exact ⟨range, rfl, rfl⟩

/-- A field of a code: the decoder's list gives each value its code, and only those. -/
theorem decodes_code {α : Type} {codes : List (Byte × α)} {code : α → Byte} {ok : α → Prop}
    (coded : ∀ v, ok v → codes.lookup (code v) = some v) (listed : ∀ e ∈ codes, ok e.2 ∧ e.1 = code e.2) :
    Decodes (takeCode codes) (fun v => [code v]) ok := by
  intro bytes v rest
  match bytes with
  | [] => simp [takeCode]
  | b :: more =>
    simp only [takeCode, Option.map_eq_some_iff, Prod.mk.injEq, List.cons_append, List.nil_append, List.cons.injEq]
    constructor
    · rintro ⟨w, found, rfl, rfl⟩
      obtain ⟨before, after, split, _⟩ := List.lookup_eq_some_iff.mp found
      obtain ⟨good, same⟩ := listed (b, w) (by rw [split]; simp)
      exact ⟨good, same, rfl⟩
    · rintro ⟨good, rfl, rfl⟩
      exact ⟨v, coded v good, rfl, rfl⟩

/-- A yes/no field. -/
theorem decodes_bool : Decodes takeBool (fun b => [boolCode b]) (fun _ => True) :=
  decodes_code (fun b => by cases b <;> decide) (by simp [boolCode])

/-- A level from TREMOR up. -/
theorem decodes_shakingLevel : Decodes takeShakingLevel (fun l => [l.code]) (fun l => l ≠ .quiet) :=
  decodes_code (fun l => by cases l <;> decide) (by decide)

/-- A DT line level. -/
theorem decodes_dtLevel : Decodes takeDtLevel (fun l => [l.code]) (fun _ => True) :=
  decodes_code (fun l => by cases l <;> decide) (by decide)

/-- A wait kind. -/
theorem decodes_wait : Decodes takeWait (fun w => [w.code]) (fun _ => True) :=
  decodes_code (fun w => by cases w <;> decide) (by decide)

/-- So many values in a row, as a list. -/
theorem decodes_list {α : Type} {d : Decoder α} {encode : α → List Byte} {ok : α → Prop} (h : Decodes d encode ok) (n : Nat) :
    Decodes (takeList d n) (fun l => l.flatMap encode) (fun l => l.length = n ∧ ∀ x ∈ l, ok x) := by
  induction n with
  | zero =>
    intro bytes l rest
    simp only [takeList, Option.some.injEq, Prod.mk.injEq, List.length_eq_zero_iff]
    constructor
    · rintro ⟨rfl, rfl⟩
      simp
    · rintro ⟨⟨rfl, _⟩, rfl⟩
      simp
  | succ n ih =>
    intro bytes l rest
    simp only [takeList, h.bind_iff, ih.bind_iff, pure, Option.some.injEq, Prod.mk.injEq]
    constructor
    · rintro ⟨x, _, ⟨good, rfl⟩, tail, _, ⟨⟨length, all⟩, rfl⟩, rfl, rfl⟩
      simp_all
    · rintro ⟨⟨length, all⟩, rfl⟩
      match l with
      | x :: tail =>
        obtain ⟨good, all⟩ := List.forall_mem_cons.mp all
        exact ⟨x, tail.flatMap encode ++ rest, ⟨good, by simp⟩, tail, rest, ⟨⟨Nat.succ.inj length, all⟩, rfl⟩, rfl, rfl⟩

/-- So many values in a row, as a vector. -/
theorem decodes_vector {α : Type} {d : Decoder α} {encode : α → List Byte} {ok : α → Prop} (h : Decodes d encode ok) (n : Nat) :
    Decodes (takeVector d n) (fun v => v.toList.flatMap encode) (fun v => ∀ x ∈ v.toList, ok x) := by
  induction n with
  | zero =>
    intro bytes v rest
    simp only [takeVector, Option.some.injEq, Prod.mk.injEq]
    constructor
    · rintro ⟨rfl, rfl⟩
      simp
    · rintro ⟨_, rfl⟩
      have none : v = #v[] := Vector.toList_inj.mp (List.length_eq_zero_iff.mp v.length_toList)
      exact ⟨none.symm, by rw [none]; rfl⟩
  | succ n ih =>
    intro bytes v rest
    simp only [takeVector, h.bind_iff, ih.bind_iff, pure, Option.some.injEq, Prod.mk.injEq]
    constructor
    · rintro ⟨front, _, ⟨all, rfl⟩, x, _, ⟨good, rfl⟩, rfl, rfl⟩
      rw [Vector.toList_push]
      exact ⟨List.forall_mem_append.mpr ⟨all, List.forall_mem_singleton.mpr good⟩, by simp⟩
    · rintro ⟨all, rfl⟩
      have parts : v.pop.push v.back = v := Vector.push_pop_back v
      rw [← parts, Vector.toList_push] at all ⊢
      simp only [List.forall_mem_append, List.forall_mem_singleton] at all
      exact ⟨v.pop, encode v.back ++ rest, ⟨all.1, by simp⟩, v.back, rest, ⟨all.2, rfl⟩, rfl, rfl⟩

/-- A point number. -/
theorem decodes_point : Decodes takePoint (fun p => [byteOf p.val]) (fun _ => True) := by
  intro bytes v rest
  match bytes with
  | [] => simp [takePoint]
  | b :: more =>
    simp only [takePoint, Option.dite_none_right_eq_some, Option.some.injEq, Prod.mk.injEq, true_and, List.cons_append,
      List.nil_append, List.cons.injEq]
    constructor
    · rintro ⟨_, rfl, rfl⟩
      exact ⟨(byteOf_toNat b).symm, rfl⟩
    · rintro ⟨rfl, rfl⟩
      have number : (byteOf v.val).toNat = v.val := toNat_byteOf (by omega)
      exact ⟨by omega, Fin.ext number, rfl⟩

/-- A point list (R46). -/
theorem decodes_pointList : Decodes takePointList pointListBytes (fun l => l.length ≤ 8 ∧ l.Nodup) := by
  intro bytes l rest
  simp only [takePointList, (decodes_nat8 (show 8 ≤ 255 by decide)).bind_iff, (decodes_list decodes_point _).bind_iff,
    Option.ite_none_right_eq_some, Option.some.injEq, Prod.mk.injEq]
  constructor
  · rintro ⟨n, _, ⟨⟨_, few⟩, rfl⟩, l, _, ⟨⟨rfl, _⟩, rfl⟩, once, rfl, rfl⟩
    exact ⟨⟨few, once⟩, by simp [pointListBytes, List.map_eq_flatMap]⟩
  · rintro ⟨⟨few, once⟩, rfl⟩
    exact ⟨l.length, _, ⟨⟨Nat.zero_le _, few⟩, rfl⟩, l, rest, ⟨⟨rfl, by simp⟩, by simp [List.map_eq_flatMap]⟩, once, rfl, rfl⟩


/-- A one-byte quantity as a field of a record. -/
theorem nat8_bind {β : Type} {lo hi : Nat} (small : hi ≤ 255) (bytes : List Byte) (k : Nat × List Byte → Option β) (b : β) :
    takeNat8 lo hi bytes >>= k = some b
      ↔ ∃ n rest, ((lo ≤ n ∧ n ≤ hi) ∧ bytes = [byteOf n] ++ rest) ∧ k (n, rest) = some b :=
  (decodes_nat8 small).bind_iff bytes k b

/-- A two-byte quantity as a field of a record. -/
theorem nat16_bind {β : Type} {lo hi : Nat} (small : hi ≤ 65535) (bytes : List Byte) (k : Nat × List Byte → Option β) (b : β) :
    takeNat16 lo hi bytes >>= k = some b
      ↔ ∃ n rest, ((lo ≤ n ∧ n ≤ hi) ∧ bytes = halfBytes n ++ rest) ∧ k (n, rest) = some b :=
  (decodes_nat16 small).bind_iff bytes k b

/-- A shed mode. -/
theorem decodes_shedMode : Decodes (takeCode [((0 : Byte), ShedMode.openOnly), (1, .warnThenOpen)]) (fun m => [m.code])
    (fun _ => True) :=
  decodes_code (fun m => by cases m <;> decide) (by decide)

/-- The code of a severity, as a FAULT POLICY record carries it (R193). -/
def Severity.code : Severity → Byte
  | .advisory => 0
  | .degrading => 1

/-- The bytes of a FAULT POLICY record. -/
theorem Policy.bytes_eq (q : Policy) : q.bytes = [boolCode q.masked, q.severity.code] := by
  cases h : q.severity <;> simp [Policy.bytes, Severity.code, h]

/-- A severity. -/
theorem decodes_severity : Decodes (takeCode [((0 : Byte), Severity.advisory), (1, .degrading)]) (fun m => [m.code])
    (fun _ => True) :=
  decodes_code (fun m => by cases m <;> decide) (by decide)

/-- A STATION record (R45). -/
theorem decodes_station : Decodes takeStation StationRec.bytes StationRec.inRange := by
  intro bytes ⟨enabled, floor⟩ rest
  simp only [takeStation, nat8_bind, decodes_bool.bind_iff, pure, Option.some.injEq, Prod.mk.injEq, existsAndEq,
    StationRec.mk.injEq, Nat.reduceLeDiff]
  simp [StationRec.inRange, StationRec.bytes, and_comm]

/-- A POINT record (R45). -/
theorem decodes_pointRec : Decodes takePointRec PointRec.bytes PointRec.inRange := by
  intro bytes ⟨inUse, mode, grace, weight, settle⟩ rest
  simp only [takePointRec, nat8_bind, nat16_bind, decodes_bool.bind_iff, decodes_shedMode.bind_iff, pure, Option.some.injEq,
    Prod.mk.injEq, existsAndEq, PointRec.mk.injEq, Nat.reduceLeDiff]
  simp [PointRec.inRange, PointRec.bytes, and_comm]

/-- A SHED STEP record (R46). -/
theorem decodes_shedStep : Decodes takeShedStep ShedStep.bytes ShedStep.inRange := by
  intro bytes ⟨points, trigger, wait, delay, timeout⟩ rest
  simp only [takeShedStep, nat16_bind, decodes_pointList.bind_iff, decodes_shakingLevel.bind_iff, decodes_wait.bind_iff, pure,
    Option.some.injEq, Prod.mk.injEq, existsAndEq, ShedStep.mk.injEq, Nat.reduceLeDiff]
  simp [ShedStep.inRange, ShedStep.bytes]
  tauto

/-- A RESTART STEP record (R46). -/
theorem decodes_restartStep : Decodes takeRestartStep RestartStep.bytes RestartStep.inRange := by
  intro bytes ⟨points, wait, delay, timeout, button⟩ rest
  simp only [takeRestartStep, nat16_bind, decodes_pointList.bind_iff, decodes_wait.bind_iff, decodes_bool.bind_iff, pure,
    Option.some.injEq, Prod.mk.injEq, existsAndEq, RestartStep.mk.injEq, Nat.reduceLeDiff]
  simp [RestartStep.inRange, RestartStep.bytes]
  tauto

/-- A FAULT POLICY record (R48). -/
theorem decodes_policy : Decodes takePolicy Policy.bytes (fun _ => True) := by
  intro bytes ⟨masked, severity⟩ rest
  simp only [takePolicy, decodes_bool.bind_iff, decodes_severity.bind_iff, pure,
    Option.some.injEq, Prod.mk.injEq, existsAndEq, Policy.mk.injEq]
  simp [Policy.bytes_eq]

/-- The flags of a RIGHTS byte in its range, and the byte of its flags (R47). -/
theorem rights_flags : ∀ n < 16, ∀ edit consent veto operate : Bool,
    (n.testBit 0 = edit ∧ n.testBit 1 = consent ∧ n.testBit 2 = veto ∧ n.testBit 3 = operate)
      ↔ n = flagBits [edit, consent, veto, operate] := by
  decide

/-- The byte of a RIGHTS record is in its range (R47). -/
theorem flagBits_rights (edit consent veto operate : Bool) : flagBits [edit, consent, veto, operate] < 16 := by
  revert edit consent veto operate
  decide

/-- A RIGHTS record (R47; log 14). -/
theorem decodes_rights : Decodes takeRights Rights.bytes (fun _ => True) := by
  intro bytes ⟨edit, consent, veto, operate⟩ rest
  simp only [takeRights, nat8_bind, pure,
    Option.some.injEq, Prod.mk.injEq, existsAndEq, Rights.mk.injEq, Nat.reduceLeDiff]
  constructor
  · rintro ⟨n, ⟨range, rfl⟩, flags, _⟩
    rw [(rights_flags n (by omega) edit consent veto operate).mp flags]
    exact ⟨trivial, rfl⟩
  · rintro ⟨_, rfl⟩
    have small := flagBits_rights edit consent veto operate
    exact ⟨_, ⟨⟨Nat.zero_le _, Nat.le_of_lt_succ small⟩, rfl⟩, (rights_flags _ small edit consent veto operate).mpr rfl, trivial⟩

/-- A character of a label (R48). -/
theorem decodes_labelChar : Decodes takeLabelChar (fun b => [b]) (fun b => 0x20 ≤ b.toNat ∧ b.toNat ≤ 0x7e) := by
  intro bytes b rest
  match bytes with
  | [] => simp [takeLabelChar]
  | c :: more =>
    simp only [takeLabelChar, Option.ite_none_right_eq_some, Option.some.injEq, Prod.mk.injEq, List.cons_append,
      List.nil_append, List.cons.injEq]
    grind

/-- A LABEL record (R48). -/
theorem decodes_label : Decodes takeLabel labelBytes labelInRange := by
  intro bytes l rest
  simp only [takeLabel, nat8_bind, Nat.reduceLeDiff, decodes_list decodes_labelChar _ _ _ rest, existsAndEq]
  simp [labelInRange, labelBytes]
  tauto

/-- A vector of four, item by item. -/
theorem vector_four {α : Type} (v : Vector α 4) : v.toList = [v[0], v[1], v[2], v[3]] :=
  List.ext_getElem (by simp) (fun i _ _ => by
    match i with
    | 0 | 1 | 2 | 3 => simp
    | i + 4 => exact absurd ‹i + 4 < v.toList.length› (by simp))

/-- A PARAMETERS record (R44). -/
theorem decodes_params : Decodes takeParams Params.bytes Params.inRange := by
  intro bytes v rest
  obtain ⟨⟩ := v
  simp only [takeParams, nat8_bind, nat16_bind, decodes_shakingLevel.bind_iff, (decodes_vector decodes_dtLevel 4).bind_iff, pure,
    Option.some.injEq, Prod.mk.injEq, existsAndEq, Params.mk.injEq, Nat.reduceLeDiff]
  simp [Params.inRange, Params.bytes, vector_four]
  tauto

/-! ### Records at their addresses (O49, O50) -/

/-- An index of a kind is the byte of its number. -/
theorem indexIn_iff {n : Nat} (small : n ≤ 256) (b : Byte) (i : Fin n) : indexIn n b = some i ↔ b = byteOf i.val := by
  simp only [indexIn, Option.dite_none_right_eq_some, Option.some.injEq]
  constructor
  · rintro ⟨_, rfl⟩
    exact (byteOf_toNat b).symm
  · rintro rfl
    have number : (byteOf i.val).toNat = i.val := toNat_byteOf (by omega)
    exact ⟨by omega, Fin.ext number⟩

/-- The kind byte and the index byte of an address (R43). -/
def RecordAddr.bytes : RecordAddr → Byte × Byte
  | .params => (0, 0)
  | .station i => (1, byteOf i.val)
  | .point i => (2, byteOf i.val)
  | .shedStep i => (3, byteOf i.val)
  | .restartStep i => (4, byteOf i.val)
  | .rights i => (5, byteOf i.val)
  | .policy i => (6, byteOf i.val)
  | .label i => (7, byteOf i.val)

/-- A record is addressed by its kind and its index (R43). -/
theorem recordAddr_iff (kind index : Byte) (a : RecordAddr) :
    recordAddr kind index = some a ↔ kind = a.bytes.1 ∧ index = a.bytes.2 := by
  unfold recordAddr
  split
  -- Case 9 is a kind byte of no kind.
  case h_1 is =>
    obtain rfl : kind = 0 := BitVec.eq_of_toNat_eq is
    have zero : index.toNat = 0 ↔ index = 0 := by bv_omega
    cases a <;> simp [RecordAddr.bytes, zero]
  case h_9 k0 k1 k2 k3 k4 k5 k6 k7 =>
    refine iff_of_false nofun ?_
    rintro ⟨rfl, _⟩
    cases a <;> simp_all [RecordAddr.bytes]
  case h_2 is | h_3 is | h_4 is | h_5 is | h_6 is | h_7 is | h_8 is =>
    have kind_is := BitVec.eq_of_toNat_eq (is.trans (toNat_byteOf (by decide)).symm)
    cases a <;> simp [RecordAddr.bytes, indexIn_iff, kind_is, byteOf]

/-- The address of a record. -/
def PlanRecord.addr : PlanRecord → RecordAddr
  | .params _ => .params
  | .station i _ => .station i
  | .point i _ => .point i
  | .shedStep i _ => .shedStep i
  | .restartStep i _ => .restartStep i
  | .rights i _ => .rights i
  | .policy i _ => .policy i
  | .label i _ => .label i

/-- The bytes of a record's content. -/
def PlanRecord.content : PlanRecord → List Byte
  | .params q => q.bytes
  | .station _ q => q.bytes
  | .point _ q => q.bytes
  | .shedStep _ q => q.bytes
  | .restartStep _ q => q.bytes
  | .rights _ q => q.bytes
  | .policy _ q => q.bytes
  | .label _ l => labelBytes l

/-- A record whose fields are all in their ranges (R44 to R48). -/
def PlanRecord.inRange : PlanRecord → Prop
  | .params q => q.inRange
  | .station _ q => q.inRange
  | .point _ q => q.inRange
  | .shedStep _ q => q.inRange
  | .restartStep _ q => q.inRange
  | .rights _ _ => True
  | .policy _ _ => True
  | .label _ l => labelInRange l

/-- The content of a PLAN_WRITE stands for a record in range at its address (R52). -/
theorem recordContent_iff (a : RecordAddr) (content : List Byte) (r : PlanRecord) :
    recordContent a content = some r ↔ a = r.addr ∧ content = r.content ∧ r.inRange := by
  cases a <;> cases r <;>
    simp [recordContent, PlanRecord.addr, PlanRecord.content, PlanRecord.inRange, decodes_params.exactly_iff,
      decodes_station.exactly_iff, decodes_pointRec.exactly_iff, decodes_shedStep.exactly_iff, decodes_restartStep.exactly_iff,
      decodes_rights.exactly_iff, decodes_policy.exactly_iff, decodes_label.exactly_iff, eq_comm, and_comm]

/-- A PLAN_WRITE payload stands for a record in range (R52). -/
theorem planWriteRecord_iff (kind index : Byte) (content : List Byte) (r : PlanRecord) :
    planWriteRecord (kind :: index :: content) = some r
      ↔ (kind = r.addr.bytes.1 ∧ index = r.addr.bytes.2) ∧ content = r.content ∧ r.inRange := by
  simp only [planWriteRecord, Option.bind_eq_some_iff, recordAddr_iff, recordContent_iff]
  constructor
  · rintro ⟨a, named, rfl, given⟩
    exact ⟨named, given⟩
  · rintro ⟨named, given⟩
    exact ⟨r.addr, named, rfl, given⟩

end Sys2Proof.Machine

namespace Sys2Proof.Machine

/-! ### PLAN_WRITE and PLAN_READ (O49) -/

/-- PLAN_WRITE at a free port that holds the EDIT right. -/
theorem exec_planWrite {s : State} {p : Fin 3} {payload : List Byte} (ready : Ready s p) (fits : payload.length ≤ 120)
    (right : s.pls.active.rights[p].edit = true) :
    exec (.planWrite p payload) s = .next (match planWriteRecord payload with
      | none => reply p .badParam (namedRecord s.free payload) (s.taken p 0x12)
      | some r => ownerPlanWrite p r (s.taken p 0x12)) := by
  rw [exec_taken ready fits rfl]
  exact congrArg _ (withRight_of_held right _ _)

/-- PLAN_READ at a free port. -/
theorem exec_planRead {s : State} {p : Fin 3} (ready : Ready s p) (sel kind index : Byte) :
    exec (.planRead p [sel, kind, index]) s = .next (servePlanRead p [sel, kind, index] (s.taken p 0x13)) :=
  exec_taken ready (by simp) rfl

/-- PLAN_WRITE of a record by the port that holds the claim (R53). -/
theorem ownerPlanWrite_of_holder {s : State} {p : Fin 3} {c : Claim} (claimed : s.pls.claim = some c) (own : c.holder = p)
    (r : PlanRecord) : ownerPlanWrite p r s
      = reply p .ok [] { s with pls := { s.pls with claim := some { c with shadow := c.shadow.write r } } } := by
  simp only [ownerPlanWrite, claimed]
  exact if_pos own

/-- PLAN_WRITE of a record by a port that does not hold the claim (R53). -/
theorem ownerPlanWrite_of_other {s : State} {p : Fin 3} (other : s.pls.holder ≠ some p) (r : PlanRecord) :
    ownerPlanWrite p r s = reply p .notClaimed [] s := by
  unfold ownerPlanWrite
  split
  · rfl
  · next c claimed => exact if_neg (fun own => other (by simp [Pls.holder, claimed, own]))

/-- PLAN_READ of a kind, an index or a selector out of range (R54). -/
theorem servePlanRead_of_bad {sel kind index : Byte} (bad : recordAddr kind index = none ∨ 1 < sel.toNat) (p : Fin 3)
    (s : State) : servePlanRead p [sel, kind, index] s = refuse p .badParam s := by
  simp only [servePlanRead]
  split
  · rfl
  · next a named =>
    have above : 1 < sel.toNat := bad.resolve_left (by simp [named])
    rw [if_neg (by bv_omega), if_neg (by bv_omega)]

/-- A write never takes the generation (R44, R53). -/
theorem Plan.write_generation (q : Plan) (r : PlanRecord) : (q.write r).params.generation = q.params.generation := by
  cases r <;> rfl

/-- Settles O49: the replies by the claim, and the payloads by the codec of each kind. -/
theorem planWriteAndRead : Obligations.PlanWriteAndRead := by
  refine ⟨fun s p kind index content ready fits right => ?_, fun s p sel kind index ready => ⟨fun a named => ?_, fun bad => ?_⟩,
    fun kind index content r => ?_⟩
  · have run := exec_planWrite (payload := kind :: index :: content) ready (by simp; omega) right
    refine ⟨fun bad => ?_, fun r good => ⟨fun c claimed own => ?_, fun other => ?_, fun q => q.write_generation r⟩⟩
    · rw [run, bad]
      exact congrArg _ (reply_answered s p 0x12 .badParam [kind, index])
    · rw [run, good]
      exact congrArg _ ((ownerPlanWrite_of_holder (s := s.taken p 0x12) claimed own r).trans
        (reply_answered { s with pls := { s.pls with claim := some { c with shadow := c.shadow.write r } } } p 0x12 .ok []))
    · rw [run, good]
      exact congrArg _ ((ownerPlanWrite_of_other (by simpa using other) r).trans (reply_answered s p 0x12 .notClaimed []))
  · refine ⟨?_, fun c claimed => ?_, fun free => ?_⟩ <;> rw [exec_planRead ready]
    · simp [servePlanRead, named]
    · simp [servePlanRead, named, Pls.shadow, claimed]
    · simp [servePlanRead, named, Pls.shadow, free]
  · rw [exec_planRead ready, servePlanRead_of_bad bad, refuse_answered]
  · rw [planWriteRecord_iff, and_assoc]
    cases r <;> simp [PlanRecord.addr, RecordAddr.bytes, PlanRecord.content, PlanRecord.inRange]

/-! ### Records of a plan (O50) -/

/-- The record of a plan at an address. -/
def Plan.recordAt (p : Plan) : RecordAddr → PlanRecord
  | .params => .params p.params
  | .station i => .station i p.stations[i]
  | .point i => .point i p.points[i]
  | .shedStep i => .shedStep i p.shed[i]
  | .restartStep i => .restartStep i p.restart[i]
  | .rights i => .rights i p.rights[i]
  | .policy i => .policy i p.policy[i]
  | .label i => .label i p.labels[i]

/-- The record at an address has that address and the content that a read gives. -/
theorem Plan.recordAt_items (p : Plan) (a : RecordAddr) :
    (p.recordAt a).addr = a ∧ (p.recordAt a).content = p.read a := by
  cases a <;> exact ⟨rfl, rfl⟩

/-- The records of a plan in range are in range. -/
theorem Plan.recordAt_inRange {p : Plan} (good : p.inRange) (a : RecordAddr) : (p.recordAt a).inRange := by
  obtain ⟨params, stations, points, shed, restart, labels⟩ := good
  cases a with
  | params => exact params
  | station i => exact stations i
  | point i => exact points i
  | shedStep i => exact shed i
  | restartStep i => exact restart i
  | rights i | policy i => trivial
  | label i => exact labels i

/-- A record written back where it was read changes nothing. -/
theorem Plan.write_recordAt (p : Plan) (a : RecordAddr) : p.write (p.recordAt a) = p := by
  cases a <;> simp [Plan.recordAt, Plan.write]

/-- Every record of a plan in range survives PLAN_READ followed by PLAN_WRITE. -/
theorem planWriteRecord_read {p : Plan} (good : p.inRange) {kind index : Byte} {a : RecordAddr}
    (named : recordAddr kind index = some a) :
    planWriteRecord (kind :: index :: p.read a) = some (p.recordAt a) := by
  obtain ⟨addr, content⟩ := p.recordAt_items a
  rw [planWriteRecord_iff, addr, content]
  exact ⟨(recordAddr_iff kind index a).mp named, rfl, p.recordAt_inRange good a⟩

/-- A record as a plan takes it: a PARAMETERS record but for its generation (R53). -/
def PlanRecord.takenBy (p : Plan) : PlanRecord → PlanRecord
  | .params q => .params { q with generation := p.params.generation }
  | r => r

/-- The record at the address of a write, after it. -/
theorem Plan.read_write_same (p : Plan) (r : PlanRecord) : (p.write r).read r.addr = (r.takenBy p).content := by
  cases r <;> simp [Plan.write, Plan.read, PlanRecord.addr, PlanRecord.takenBy, PlanRecord.content]

/-- Every other record, after a write. -/
theorem Plan.read_write_other (p : Plan) (r : PlanRecord) {a : RecordAddr} (other : a ≠ r.addr) :
    (p.write r).read a = p.read a := by
  cases r <;> cases a <;> simp_all [Plan.write, Plan.read, PlanRecord.addr, Fin.val_inj, eq_comm]

/-- The byte of a RIGHTS record as a sum (R47). -/
theorem rights_byte (q : Rights) : flagBits [q.edit, q.consent, q.veto, q.operate]
    = (if q.edit then 1 else 0) + (if q.consent then 2 else 0) + (if q.veto then 4 else 0) + if q.operate then 8 else 0 := by
  simp only [flagBits]
  (repeat' split) <;> rfl

/-- Settles O50: the round trip by the codec of each kind, the addresses and layouts, and a write's effect record by record. -/
theorem planRecordRoundTrip : Obligations.PlanRecordRoundTrip := by
  refine ⟨fun p kind index a good named => ⟨_, planWriteRecord_read good named, p.write_recordAt a⟩, fun q => ?_,
    fun q => rfl, fun q => ?_, fun q => rfl, fun q => rfl, fun q => ?_, fun q => ?_, fun l => rfl, fun kind index a => ?_,
    fun p a => ?_, fun p r => ?_, fun p r => ?_⟩
  · have levels : q.dtLevels.toList.map Level.code
        = [q.dtLevels[0].code, q.dtLevels[1].code, q.dtLevels[2].code, q.dtLevels[3].code] := by rw [vector_four]; rfl
    rw [levels]
    exact ⟨rfl, by simp [Params.bytes, halfBytes]⟩
  · cases h : q.mode <;> simp [PointRec.bytes, ShedMode.code, h]
  · exact congrArg (fun n => [byteOf n]) (rights_byte q)
  · cases h : q.severity <;> simp [Policy.bytes, h]
  · rw [recordAddr_iff]
    cases a <;> rfl
  · cases a <;> rfl
  · cases r <;> rfl
  · have same := p.read_write_same r
    have other := fun a => p.read_write_other r (a := a)
    cases r <;> exact ⟨same, other⟩

end Sys2Proof.Machine

namespace Sys2Proof.Machine

/-! ### Searches for the first failure (R55) -/

/-- A search answers the first place that is bad, and none when no place is. -/
def FindsFirst (found : Option Nat) (bad : Nat → Prop) : Prop :=
  match found with
  | none => ∀ k, ¬ bad k
  | some i => bad i ∧ ∀ j, j < i → ¬ bad j

/-- The answer none. -/
theorem FindsFirst.eq_none_iff {found : Option Nat} {bad : Nat → Prop} (h : FindsFirst found bad) :
    found = none ↔ ∀ k, ¬ bad k := by
  cases found with
  | none => exact iff_of_true rfl h
  | some i => exact iff_of_false nofun (fun never => never i h.1)

/-- The answer of a place. -/
theorem FindsFirst.eq_some_iff {found : Option Nat} {bad : Nat → Prop} (h : FindsFirst found bad) (i : Nat) :
    found = some i ↔ bad i ∧ ∀ j, j < i → ¬ bad j := by
  cases found with
  | none => exact iff_of_false nofun (fun first => h i first.1)
  | some k =>
    obtain ⟨bad_k, before_k⟩ := h
    constructor
    · rintro ⟨⟩
      exact ⟨bad_k, before_k⟩
    · rintro ⟨bad_i, before_i⟩
      have := before_i k
      have := before_k i
      have : k = i := by by_contra; grind
      rw [this]

/-- The search goes on past a first place that is not bad. -/
theorem FindsFirst.past {found : Option Nat} {bad : Nat → Prop} (good : ¬ bad 0) (h : FindsFirst found (fun i => bad (i + 1))) :
    FindsFirst (found.map (· + 1)) bad := by
  cases found with
  | none =>
    intro k
    cases k with
    | zero => exact good
    | succ k => exact h k
  | some i =>
    obtain ⟨bad_i, before⟩ := h
    refine ⟨bad_i, fun j below => ?_⟩
    cases j with
    | zero => exact good
    | succ j => exact before j (Nat.lt_of_succ_lt_succ below)

/-- The search ends at a first place that is bad. -/
theorem FindsFirst.here {bad : Nat → Prop} (h : bad 0) : FindsFirst (some 0) bad := ⟨h, nofun⟩

/-- A search for the same places. -/
theorem FindsFirst.congr {found : Option Nat} {bad bad' : Nat → Prop} (h : FindsFirst found bad) (same : ∀ k, bad k ↔ bad' k) :
    FindsFirst found bad' := by
  rwa [← show bad = bad' from funext (fun k => propext (same k))]

/-- The first entry of which a test holds, by place. -/
theorem placeFrom_succ {α : Type} (test : α → Bool) (k : Nat) (l : List α) :
    placeFrom test (k + 1) l = (placeFrom test k l).map (· + 1) := by
  induction l generalizing k with
  | nil => rfl
  | cons x l ih =>
    simp only [placeFrom]
    split
    · rfl
    · exact ih (k + 1)

/-- `placeFrom` finds the first entry of which its test holds. -/
theorem placeFrom_first {α : Type} (test : α → Bool) (l : List α) :
    FindsFirst (placeFrom test 0 l) (fun k => ∃ x, l[k]? = some x ∧ test x = true) := by
  induction l with
  | nil => intro k; simp
  | cons x l ih =>
    by_cases holds : test x = true
    · rw [placeFrom, if_pos holds]
      exact .here ⟨x, rfl, holds⟩
    · rw [placeFrom, if_neg holds, placeFrom_succ]
      exact .past (by simpa using holds) ih

/-- The place of a gap, counted from a place further on. -/
theorem gapFrom_succ (k : Nat) (seen : Bool) (l : List Bool) : gapFrom (k + 1) seen l = (gapFrom k seen l).map (· + 1) := by
  induction l generalizing k seen with
  | nil => rfl
  | cons b l ih =>
    cases b with
    | false => exact ih (k + 1) true
    | true =>
      simp only [gapFrom]
      split
      · rfl
      · exact ih (k + 1) seen

/-- `gapFrom` finds the first present step that follows an absent one. -/
theorem gapFrom_first (seen : Bool) (l : List Bool) :
    FindsFirst (gapFrom 0 seen l) (fun k => l[k]? = some true ∧ (seen = true ∨ ∃ j, j < k ∧ l[j]? = some false)) := by
  induction l generalizing seen with
  | nil => intro k; simp
  | cons b l ih =>
    cases b with
    | false =>
      rw [gapFrom, gapFrom_succ]
      refine .past (by simp) ((ih true).congr (fun k => ?_))
      simp
      intro _
      exact .inr ⟨0, by omega, rfl⟩
    | true =>
      cases seen with
      | true => exact .here (by simp)
      | false =>
        have on : gapFrom 0 false (true :: l) = (gapFrom 0 false l).map (· + 1) := gapFrom_succ 0 false l
        rw [on]
        refine .past (by simp) ((ih false).congr (fun k => ?_))
        simp only [Bool.false_eq_true, false_or, List.getElem?_cons_succ, and_congr_right_iff]
        intro _
        constructor
        · rintro ⟨j, below, absent⟩
          exact ⟨j + 1, by omega, absent⟩
        · rintro ⟨j, below, absent⟩
          cases j with
          | zero => simp at absent
          | succ j => exact ⟨j, by omega, absent⟩

/-- The place of a fall, counted from a place further on. -/
theorem fallFrom_succ (k : Nat) (last : Level) (l : List Level) :
    fallFrom (k + 1) last l = (fallFrom k last l).map (· + 1) := by
  induction l generalizing k last with
  | nil => rfl
  | cons x l ih =>
    simp only [fallFrom]
    split
    · rfl
    · exact ih (k + 1) x

/-- `fallFrom` finds the first level that is below the one before it. -/
theorem fallFrom_first (last : Level) (l : List Level) :
    FindsFirst (fallFrom 0 last l) (fun k => ∃ a b, (last :: l)[k]? = some a ∧ l[k]? = some b ∧ b.rank < a.rank) := by
  induction l generalizing last with
  | nil => intro k; simp
  | cons x l ih =>
    by_cases falls : x.rank < last.rank
    · rw [fallFrom, if_pos falls]
      exact .here ⟨last, x, rfl, rfl, falls⟩
    · rw [fallFrom, if_neg falls, fallFrom_succ]
      refine .past ?_ (ih x)
      rintro ⟨a, b, ha, hb, below⟩
      cases ha
      cases hb
      exact falls below

/-- Entries that have not been seen and do not repeat are passed over. -/
theorem firstRepeat_append (seen a l : List (Fin 64)) (fresh : ∀ q ∈ a, q ∉ seen) (once : a.Nodup) :
    firstRepeat seen (a ++ l) = firstRepeat (a.reverse ++ seen) l := by
  induction a generalizing seen with
  | nil => rfl
  | cons q a ih =>
    obtain ⟨new, once⟩ := List.nodup_cons.mp once
    obtain ⟨unseen, fresh⟩ := List.forall_mem_cons.mp fresh
    rw [List.cons_append, firstRepeat, if_neg (by simpa using unseen), ih _ _ once, List.reverse_cons, List.append_assoc]
    · rfl
    · intro x mem
      simp only [List.mem_cons, not_or]
      exact ⟨fun same => new (same ▸ mem), fresh x mem⟩

/-- A list without repeats has no first repeat. -/
theorem firstRepeat_of_nodup {l : List (Fin 64)} (once : l.Nodup) : firstRepeat [] l = none := by
  have whole := firstRepeat_append [] l [] (by simp) once
  rwa [List.append_nil] at whole

/-- The first repeat of a list is the entry that has stood once before. -/
theorem firstRepeat_of_repeat {a b : List (Fin 64)} {q : Fin 64} (before : q ∈ a) (once : a.Nodup) :
    firstRepeat [] (a ++ q :: b) = some q := by
  rw [firstRepeat_append [] a _ (by simp) once, firstRepeat, if_pos (by simpa using before)]

/-- A list with a repeat has a first one. -/
theorem exists_repeat {l : List (Fin 64)} (repeats : ¬ l.Nodup) : ∃ a q b, l = a ++ q :: b ∧ q ∈ a ∧ a.Nodup := by
  induction l using List.reverseRecOn with
  | nil => exact absurd List.nodup_nil repeats
  | append_singleton l x ih =>
    by_cases once : l.Nodup
    · have before : x ∈ l := by
        by_contra new
        exact repeats (List.nodup_append.mpr ⟨once, List.nodup_singleton x, fun y mem z same => by
          rw [List.mem_singleton.mp same]
          exact fun equal => new (equal ▸ mem)⟩)
      exact ⟨l, x, [], rfl, before, once⟩
    · obtain ⟨a, q, b, rfl, before, once⟩ := ih once
      exact ⟨a, q, b ++ [x], by simp, before, once⟩

/-- The list has no first repeat exactly when it has no repeat. -/
theorem firstRepeat_eq_none_iff (l : List (Fin 64)) : firstRepeat [] l = none ↔ l.Nodup := by
  refine ⟨fun none => ?_, firstRepeat_of_nodup⟩
  by_contra repeats
  obtain ⟨a, q, b, rfl, before, once⟩ := exists_repeat repeats
  rw [firstRepeat_of_repeat before once] at none
  cases none

/-- The first repeat of a list is the entry whose second appearance is the first of all. -/
theorem firstRepeat_eq_some_iff (l : List (Fin 64)) (q : Fin 64) :
    firstRepeat [] l = some q ↔ ∃ a b, l = a ++ q :: b ∧ q ∈ a ∧ a.Nodup := by
  constructor
  · intro found
    have repeats : ¬ l.Nodup := fun once => by simp [firstRepeat_of_nodup once] at found
    obtain ⟨a, r, b, rfl, before, once⟩ := exists_repeat repeats
    rw [firstRepeat_of_repeat before once] at found
    cases found
    exact ⟨a, b, rfl, before, once⟩
  · rintro ⟨a, b, rfl, before, once⟩
    exact firstRepeat_of_repeat before once

/-! ### The parts of a validation (R55) -/

namespace Plan

/-- Whether step `k` of a chain is present. -/
def presentAt (p : Plan) (chain k : Nat) : Prop :=
  k < 48 ∧ if chain = 1 then (p.shedStep k).points ≠ [] else (p.restartStep k).points ≠ []

/-- The points of a chain in the order of its lists. -/
def listed (p : Plan) (chain : Nat) : List (Fin 64) :=
  if chain = 1 then p.shed.toList.flatMap ShedStep.points else p.restart.toList.flatMap RestartStep.points

/-- A present step that follows an absent one. -/
def gap (p : Plan) (chain k : Nat) : Prop := p.presentAt chain k ∧ ∃ j, j < k ∧ ¬ p.presentAt chain j

/-- A present shed step whose successor, present too, has a lower trigger. -/
def falls (p : Plan) (k : Nat) : Prop :=
  p.presentAt 1 (k + 1) ∧ (p.shedStep (k + 1)).trigger.rank < (p.shedStep k).trigger.rank

/-- A present TIMER step whose delay is not below its timeout. -/
def late (p : Plan) (chain k : Nat) : Prop :=
  p.presentAt chain k ∧ if chain = 1
    then (p.shedStep k).wait = .timer ∧ (p.shedStep k).timeout ≤ (p.shedStep k).delay
    else (p.restartStep k).wait = .timer ∧ (p.restartStep k).timeout ≤ (p.restartStep k).delay

/-- A point not in use. -/
def unused (p : Plan) (q : Fin 64) : Prop := p.points[q].inUse = false

/-- A point above the inrush budget. -/
def heavy (p : Plan) (q : Fin 64) : Prop := p.params.inrushBudget < p.points[q].weight

end Plan

/-- The first step that is bad. -/
def firstStep (bad : Nat → Prop) (k : Nat) : Prop := bad k ∧ ∀ j, j < k → ¬ bad j

/-- The number of the first point of a list that is bad. -/
def firstPoint (bad : Fin 64 → Prop) (l : List (Fin 64)) (n : Nat) : Prop :=
  ∃ a q b, l = a ++ q :: b ∧ bad q ∧ (∀ x ∈ a, ¬ bad x) ∧ q.val = n

/-- The number of the first point of a list at its second appearance. -/
def repeated (l : List (Fin 64)) (n : Nat) : Prop := ∃ a q b, l = a ++ q :: b ∧ q ∈ a ∧ a.Nodup ∧ q.val = n

/-- Check `n` passes (R55). -/
def Plan.passes (p : Plan) (n : Nat) : Prop := match n with
  | 1 => p.params.t1 < p.params.t2 ∧ p.params.t2 < p.params.t3
  | 2 => 1 ≤ p.enabledCount ∧ p.params.voteCount ≤ p.enabledCount
  | 3 => p.presentAt 1 0
  | 4 => ∀ chain k, (chain = 1 ∨ chain = 2) → ¬ p.gap chain k
  | 5 => ∀ k, ¬ p.falls k
  | 6 => ∀ q, q ∈ p.listed 1 ∨ q ∈ p.listed 2 → ¬ p.unused q
  | 7 => (p.listed 1).Nodup ∧ (p.listed 2).Nodup
  | 8 => ∀ chain k, (chain = 1 ∨ chain = 2) → ¬ p.late chain k
  | 9 => ∀ q, q ∈ p.listed 2 → ¬ p.heavy q
  | 10 => 1 ≤ p.rights.toList.countP Rights.edit
  | _ => 2 ≤ p.rights.toList.countP Rights.consent

/-- A report names the check that fails, the chain and the item (R55). -/
def Plan.reports (p : Plan) (v : Invalid) : Prop := match v.reason with
  | 1 => v.chain = 0 ∧ (p.params.t2 ≤ p.params.t1 ∧ v.item = 1
      ∨ p.params.t1 < p.params.t2 ∧ p.params.t3 ≤ p.params.t2 ∧ v.item = 2)
  | 2 => v.chain = 0 ∧ v.item = p.enabledCount ∧ (p.enabledCount = 0 ∨ p.enabledCount < p.params.voteCount)
  | 3 => v.chain = 1 ∧ v.item = 0 ∧ ¬ p.presentAt 1 0
  | 4 => v.chain = 1 ∧ firstStep (p.gap 1) v.item ∨ v.chain = 2 ∧ (∀ k, ¬ p.gap 1 k) ∧ firstStep (p.gap 2) v.item
  | 5 => v.chain = 1 ∧ ∃ k, v.item = k + 1 ∧ firstStep p.falls k
  | 6 => v.chain = 1 ∧ firstPoint p.unused (p.listed 1) v.item
      ∨ v.chain = 2 ∧ (∀ q ∈ p.listed 1, ¬ p.unused q) ∧ firstPoint p.unused (p.listed 2) v.item
  | 7 => v.chain = 1 ∧ repeated (p.listed 1) v.item ∨ v.chain = 2 ∧ (p.listed 1).Nodup ∧ repeated (p.listed 2) v.item
  | 8 => v.chain = 1 ∧ firstStep (p.late 1) v.item ∨ v.chain = 2 ∧ (∀ k, ¬ p.late 1 k) ∧ firstStep (p.late 2) v.item
  | 9 => v.chain = 2 ∧ firstPoint p.heavy (p.listed 2) v.item
  | 10 => v.chain = 0 ∧ v.item = 0 ∧ p.rights.toList.countP Rights.edit = 0
  | 11 => v.chain = 0 ∧ v.item = p.rights.toList.countP Rights.consent ∧ p.rights.toList.countP Rights.consent < 2
  | _ => False

/-- What a check answers: none exactly when it passes, and else a report of its number. -/
structure Answers (answer : Option Invalid) (n : Nat) (p : Plan) : Prop where
  none_iff : answer = none ↔ p.passes n
  some_iff : ∀ reason chain item, answer = some ⟨reason, chain, item⟩ ↔ reason = n ∧ p.reports ⟨n, chain, item⟩

/-- Checks answer by their numbers from `k` on, each once those before it have passed. -/
def AnswerInOrder (p : Plan) : Nat → List (Plan → Option Invalid) → Prop
  | _, [] => True
  | k, check :: rest => Answers (check p) k p ∧ (p.passes k → AnswerInOrder p (k + 1) rest)

/-- Checks in order answer none exactly when all pass, and else the report of the first that fails (R55). -/
theorem AnswerInOrder.findSome {p : Plan} {checks : List (Plan → Option Invalid)} {k : Nat} (h : AnswerInOrder p k checks) :
    (checks.findSome? (fun check => check p) = none ↔ ∀ n, k ≤ n → n < k + checks.length → p.passes n)
      ∧ ∀ v, checks.findSome? (fun check => check p) = some v
        ↔ (k ≤ v.reason ∧ v.reason < k + checks.length) ∧ (∀ n, k ≤ n → n < v.reason → p.passes n) ∧ p.reports v := by
  induction checks generalizing k with
  | nil => exact ⟨iff_of_true rfl (fun n above below => absurd above (Nat.not_le.mpr below)),
      fun v => iff_of_false nofun (fun given => absurd given.1.1 (Nat.not_le.mpr given.1.2))⟩
  | cons check rest ih =>
    obtain ⟨answers, later⟩ := h
    rw [List.length_cons]
    cases answer : check p with
    | none =>
      have passed := answers.none_iff.mp answer
      obtain ⟨none_iff, some_iff⟩ := ih (later passed)
      have from_k (m : Nat) : (∀ n, k ≤ n → n < m → p.passes n) ↔ ∀ n, k + 1 ≤ n → n < m → p.passes n :=
        ⟨fun all n above below => all n (by omega) below, fun all n above below => by
          rcases Nat.eq_or_lt_of_le above with rfl | above
          · exact passed
          · exact all n above below⟩
      rw [List.findSome?_cons, answer]
      refine ⟨by rw [none_iff, from_k, Nat.add_right_comm k 1, Nat.add_assoc], fun v => ?_⟩
      rw [some_iff, from_k]
      constructor
      · rintro ⟨range, given⟩
        exact ⟨by omega, given⟩
      · rintro ⟨range, given⟩
        refine ⟨⟨?_, by omega⟩, given⟩
        by_contra first
        have same : v.reason = k := by omega
        have found := (answers.some_iff v.reason v.chain v.item).mpr ⟨same, same ▸ given.2⟩
        rw [answer] at found
        cases found
    | some w =>
      have failed : ¬ p.passes k := fun passed => by simp [answers.none_iff.mpr passed] at answer
      obtain ⟨reason, reported⟩ := (answers.some_iff w.reason w.chain w.item).mp answer
      rw [List.findSome?_cons, answer]
      refine ⟨iff_of_false nofun (fun all => failed (all k (Nat.le_refl k) (by omega))), fun v => ?_⟩
      constructor
      · rintro ⟨⟩
        subst reason
        exact ⟨by omega, fun n _ _ => by omega, reported⟩
      · rintro ⟨range, passed, given⟩
        have same : v.reason = k := by
          by_contra other
          exact failed (passed k (Nat.le_refl k) (by omega))
        have found := (answers.some_iff v.reason v.chain v.item).mpr ⟨same, same ▸ given⟩
        exact answer.symm.trans found

/-- A report, item by item. -/
theorem some_invalid_iff (r c i reason chain item : Nat) :
    (some ⟨r, c, i⟩ : Option Invalid) = some ⟨reason, chain, item⟩ ↔ reason = r ∧ chain = c ∧ item = i := by
  simp [eq_comm]

/-- The report of a check of both chains: the shed chain before the restart chain. -/
theorem byChain_iff (r : Nat) (shed restart : Option Nat) :
    (byChain r shed restart = none ↔ shed = none ∧ restart = none)
      ∧ ∀ reason chain item, byChain r shed restart = some ⟨reason, chain, item⟩
        ↔ reason = r ∧ (chain = 1 ∧ shed = some item ∨ chain = 2 ∧ shed = none ∧ restart = some item) := by
  cases shed with
  | some i => simp [byChain, eq_comm]
  | none =>
    cases restart with
    | some i => simp [byChain, eq_comm]
    | none => simp [byChain]

/-- Check 1, THRESHOLD_ORDER. -/
theorem checkThresholds_answers (p : Plan) : Answers (checkThresholds p) 1 p := by
  unfold checkThresholds
  split
  · next low => exact ⟨iff_of_false nofun (fun passed => by have := passed.1; omega), fun _ _ _ => by
      rw [some_invalid_iff]; simp only [Plan.reports]; omega⟩
  · split
    · next high => exact ⟨iff_of_false nofun (fun passed => by have := passed.2; omega), fun _ _ _ => by
        rw [some_invalid_iff]; simp only [Plan.reports]; omega⟩
    · exact ⟨iff_of_true rfl ⟨by omega, by omega⟩, fun _ _ _ => iff_of_false nofun (by simp only [Plan.reports]; omega)⟩

/-- Check 2, VOTE_COUNT. -/
theorem checkVoteCount_answers (p : Plan) : Answers (checkVoteCount p) 2 p := by
  unfold checkVoteCount
  split
  · next short => exact ⟨iff_of_false nofun (fun passed => by have := passed.1; have := passed.2; omega), fun _ _ _ => by
      rw [some_invalid_iff]; simp only [Plan.reports]; omega⟩
  · exact ⟨iff_of_true rfl ⟨by omega, by omega⟩, fun _ _ _ => iff_of_false nofun (by simp only [Plan.reports]; omega)⟩

/-- A shed step is present when its list is not empty (R46). -/
theorem ShedStep.present_iff (h : ShedStep) : h.present = true ↔ h.points ≠ [] := by
  simp [ShedStep.present]

/-- A restart step is present when its list is not empty (R46). -/
theorem RestartStep.present_iff (k : RestartStep) : k.present = true ↔ k.points ≠ [] := by
  simp [RestartStep.present]

/-- The entry of a list of 48 at a place, read with a default. -/
theorem getElem?_getD_iff {α : Type} (v : Vector α 48) (k : Nat) (d x : α) :
    v.toList[k]? = some x ↔ k < 48 ∧ v.toList.getD k d = x := by
  by_cases inside : k < 48
  · simp [inside, List.getD_eq_getElem?_getD]
  · simp [inside]

/-- The shed steps by number. -/
theorem Plan.shedSteps_iff (p : Plan) (k : Nat) (h : ShedStep) : p.shedSteps[k]? = some h ↔ k < 48 ∧ p.shedStep k = h :=
  getElem?_getD_iff p.shed k _ h

/-- The restart steps by number. -/
theorem Plan.restartSteps_iff (p : Plan) (k : Nat) (r : RestartStep) :
    p.restartSteps[k]? = some r ↔ k < 48 ∧ p.restartStep k = r :=
  getElem?_getD_iff p.restart k _ r

/-- The present steps of each chain, by number. -/
theorem Plan.present_iff (p : Plan) (k : Nat) :
    ((p.shedSteps.map ShedStep.present)[k]? = some true ↔ p.presentAt 1 k)
      ∧ ((p.restartSteps.map RestartStep.present)[k]? = some true ↔ p.presentAt 2 k) := by
  simp [List.getElem?_map, Option.map_eq_some_iff, Plan.shedSteps_iff, Plan.restartSteps_iff, ShedStep.present_iff,
    RestartStep.present_iff, Plan.presentAt]

/-- Check 3, SHED_EMPTY. -/
theorem checkShedEmpty_answers (p : Plan) : Answers (checkShedEmpty p) 3 p := by
  have present : (p.shedStep 0).present = true ↔ p.presentAt 1 0 := by
    simp [ShedStep.present_iff, Plan.presentAt]
  unfold checkShedEmpty
  split
  · next is => exact ⟨iff_of_true rfl (present.mp is), fun _ _ _ => iff_of_false nofun (fun h => h.2.2.2 (present.mp is))⟩
  · next not =>
    have absent := mt present.mpr not
    refine ⟨iff_of_false nofun absent, fun _ _ _ => ?_⟩
    rw [some_invalid_iff]
    simp only [Plan.reports]
    tauto

/-- No step of either chain is bad. -/
theorem both_chains (bad : Nat → Nat → Prop) :
    (∀ chain k, (chain = 1 ∨ chain = 2) → ¬ bad chain k) ↔ (∀ k, ¬ bad 1 k) ∧ ∀ k, ¬ bad 2 k := by
  constructor
  · exact fun never => ⟨fun k => never 1 k (.inl rfl), fun k => never 2 k (.inr rfl)⟩
  · rintro ⟨shed, restart⟩ chain k (rfl | rfl)
    · exact shed k
    · exact restart k

/-- A check that searches both chains for the first bad step. -/
theorem byChain_steps {r : Nat} {shed restart : Option Nat} {bad : Nat → Nat → Prop} (shed_first : FindsFirst shed (bad 1))
    (restart_first : FindsFirst restart (bad 2)) :
    (byChain r shed restart = none ↔ ∀ chain k, (chain = 1 ∨ chain = 2) → ¬ bad chain k)
      ∧ ∀ reason chain item, byChain r shed restart = some ⟨reason, chain, item⟩ ↔ reason = r
        ∧ (chain = 1 ∧ firstStep (bad 1) item ∨ chain = 2 ∧ (∀ k, ¬ bad 1 k) ∧ firstStep (bad 2) item) := by
  obtain ⟨none_iff, some_iff⟩ := byChain_iff r shed restart
  refine ⟨?_, fun reason chain item => ?_⟩
  · rw [none_iff, shed_first.eq_none_iff, restart_first.eq_none_iff, both_chains]
  · rw [some_iff, shed_first.eq_some_iff, shed_first.eq_none_iff, restart_first.eq_some_iff]
    rfl

/-- `gapFrom` finds the first step, present, that follows one not present. -/
theorem gapFrom_present {l : List Bool} {present : Nat → Prop} (present_iff : ∀ k, l[k]? = some true ↔ present k) :
    FindsFirst (gapFrom 0 false l) (fun k => present k ∧ ∃ j, j < k ∧ ¬ present j) := by
  refine (gapFrom_first false l).congr (fun k => ?_)
  simp only [← present_iff, Bool.false_eq_true, false_or]
  refine and_congr_right (fun here => exists_congr (fun j => and_congr_right (fun below => ?_)))
  have inside : j < l.length := below.trans (List.getElem?_eq_some_iff.mp here).1
  simp [List.getElem?_eq_getElem inside]

/-- Check 4, CHAIN_GAP. -/
theorem checkGap_answers (p : Plan) : Answers (checkGap p) 4 p := by
  obtain ⟨none_iff, some_iff⟩ := byChain_steps (r := 4) (bad := p.gap) (gapFrom_present (fun k => (p.present_iff k).1))
    (gapFrom_present (fun k => (p.present_iff k).2))
  exact ⟨none_iff, some_iff⟩

/-- Without a gap, the present entries stand at their own places. -/
theorem filter_gapless {α : Type} {present : α → Bool} {l : List α}
    (gapless : l.Pairwise (fun a b => present b = true → present a = true)) (k : Nat) (x : α) :
    (l.filter present)[k]? = some x ↔ l[k]? = some x ∧ present x = true := by
  induction l generalizing k with
  | nil => simp
  | cons a l ih =>
    obtain ⟨first, rest⟩ := List.pairwise_cons.mp gapless
    by_cases here : present a = true
    · rw [List.filter_cons_of_pos here]
      cases k with
      | zero => simp only [List.getElem?_cons_zero, Option.some.injEq]; grind
      | succ k => exact ih rest k
    · have none_left : (a :: l).filter present = [] := by
        rw [List.filter_eq_nil_iff]
        intro b mem is
        rcases List.mem_cons.mp mem with rfl | mem
        · exact here is
        · exact here (first b mem is)
      rw [none_left]
      refine iff_of_false (by simp) ?_
      rintro ⟨stands, is⟩
      have mem := List.mem_filter.mpr ⟨List.mem_of_getElem? stands, is⟩
      rw [none_left] at mem
      cases mem

/-- A present step of a shed chain without a gap follows present ones. -/
theorem Plan.presentAt_of_gapless {p : Plan} {chain : Nat} (gapless : ∀ k, ¬ p.gap chain k) {j k : Nat} (below : j < k)
    (present : p.presentAt chain k) : p.presentAt chain j := by
  by_contra absent
  exact gapless k ⟨present, j, below, absent⟩

/-- The present shed steps of a chain without a gap stand at their own places. -/
theorem Plan.presentSteps_iff {p : Plan} (gapless : ∀ k, ¬ p.gap 1 k) (k : Nat) (l : Level) :
    ((p.shedSteps.filter ShedStep.present).map ShedStep.trigger)[k]? = some l
      ↔ p.presentAt 1 k ∧ (p.shedStep k).trigger = l := by
  have ordered : p.shedSteps.Pairwise (fun a b => b.present = true → a.present = true) := by
    rw [List.pairwise_iff_getElem]
    intro i j hi hj below is
    have at_j : p.presentAt 1 j := (p.present_iff j).1.mp (by simp [List.getElem?_eq_getElem hj, is])
    have at_i := (p.present_iff i).1.mpr (p.presentAt_of_gapless gapless below at_j)
    simpa [List.getElem?_eq_getElem hi] using at_i
  simp only [List.getElem?_map, Option.map_eq_some_iff, filter_gapless ordered, Plan.shedSteps_iff, Plan.presentAt, if_true,
    ShedStep.present_iff]
  constructor
  · rintro ⟨h, ⟨⟨inside, rfl⟩, some_points⟩, trigger⟩
    exact ⟨⟨inside, some_points⟩, trigger⟩
  · rintro ⟨⟨inside, some_points⟩, trigger⟩
    exact ⟨_, ⟨⟨inside, rfl⟩, some_points⟩, trigger⟩

/-- The search of check 5 finds the step after the first fall. -/
theorem Plan.triggers_first {p : Plan} (gapless : ∀ k, ¬ p.gap 1 k) :
    FindsFirst (fallFrom 0 .quiet ((p.shedSteps.filter ShedStep.present).map ShedStep.trigger))
      (fun i => ∃ k, i = k + 1 ∧ p.falls k) := by
  refine (fallFrom_first .quiet _).congr (fun i => ?_)
  cases i with
  | zero =>
    refine iff_of_false ?_ (fun ⟨k, first, _⟩ => nomatch first)
    rintro ⟨a, b, first, _, below⟩
    cases first
    exact absurd below (Nat.not_lt_zero _)
  | succ k =>
    simp only [List.getElem?_cons_succ, p.presentSteps_iff gapless, Nat.add_right_cancel_iff, exists_eq_left', Plan.falls]
    constructor
    · rintro ⟨a, b, ⟨_, rfl⟩, ⟨present, rfl⟩, below⟩
      exact ⟨present, below⟩
    · rintro ⟨present, below⟩
      exact ⟨_, _, ⟨p.presentAt_of_gapless gapless (Nat.lt_succ_self k) present, rfl⟩, ⟨present, rfl⟩, below⟩

/-- Check 5, TRIGGER_ORDER, of a chain without a gap. -/
theorem checkTriggers_answers {p : Plan} (gapless : ∀ k, ¬ p.gap 1 k) : Answers (checkTriggers p) 5 p := by
  have first := p.triggers_first gapless
  obtain ⟨none_iff, some_iff⟩ := byChain_iff 5
    (fallFrom 0 .quiet ((p.shedSteps.filter ShedStep.present).map ShedStep.trigger)) none
  refine ⟨none_iff.trans ?_, fun reason chain item => (some_iff reason chain item).trans ?_⟩
  · rw [first.eq_none_iff, and_iff_left rfl]
    exact ⟨fun never k falls => never (k + 1) ⟨k, rfl, falls⟩, fun never i ⟨k, _, falls⟩ => never k falls⟩
  · rw [first.eq_some_iff]
    simp only [reduceCtorEq, and_false, or_false, Plan.reports]
    refine and_congr_right (fun _ => and_congr_right (fun _ => ?_))
    constructor
    · rintro ⟨⟨k, rfl, falls⟩, before⟩
      exact ⟨k, rfl, falls, fun j below other => before (j + 1) (by omega) ⟨j, rfl, other⟩⟩
    · rintro ⟨k, rfl, falls, before⟩
      exact ⟨⟨k, rfl, falls⟩, fun i below ⟨j, place, other⟩ => before j (by omega) other⟩

/-- Check 8, TIMER_EXCEEDS_TIMEOUT. -/
theorem checkTimers_answers (p : Plan) : Answers (checkTimers p) 8 p := by
  have shed : FindsFirst (placeFrom ShedStep.lateTimer 0 p.shedSteps) (p.late 1) :=
    (placeFrom_first _ _).congr (fun k => by
      simp [Plan.shedSteps_iff, ShedStep.lateTimer, ShedStep.present_iff, Plan.late, Plan.presentAt, and_assoc])
  have restart : FindsFirst (placeFrom RestartStep.lateTimer 0 p.restartSteps) (p.late 2) :=
    (placeFrom_first _ _).congr (fun k => by
      simp [Plan.restartSteps_iff, RestartStep.lateTimer, RestartStep.present_iff, Plan.late, Plan.presentAt, and_assoc])
  obtain ⟨none_iff, some_iff⟩ := byChain_steps (r := 8) shed restart
  exact ⟨none_iff, some_iff⟩

/-- The first point of a list of which a test holds. -/
theorem find_point {test : Fin 64 → Bool} {bad : Fin 64 → Prop} (same : ∀ q, test q = true ↔ bad q) (l : List (Fin 64)) :
    ((l.find? test).map Fin.val = none ↔ ∀ q ∈ l, ¬ bad q)
      ∧ ∀ n, (l.find? test).map Fin.val = some n ↔ firstPoint bad l n := by
  refine ⟨?_, fun n => ?_⟩
  · simp only [Option.map_eq_none_iff, List.find?_eq_none, same]
  · simp only [Option.map_eq_some_iff, List.find?_eq_some_iff_append, Bool.not_eq_true', ← Bool.not_eq_true, same, firstPoint]
    constructor
    · rintro ⟨q, ⟨is, a, b, split, before⟩, number⟩
      exact ⟨a, q, b, split, is, before, number⟩
    · rintro ⟨a, q, b, split, is, before, number⟩
      exact ⟨q, ⟨is, a, b, split, before⟩, number⟩

/-- Check 6, POINT_NOT_IN_USE. -/
theorem checkInUse_answers (p : Plan) : Answers (checkInUse p) 6 p := by
  have unused (q : Fin 64) : (!p.points[q].inUse) = true ↔ p.unused q := by simp [Plan.unused]
  obtain ⟨shed_none, shed_some⟩ := find_point unused (p.listed 1)
  obtain ⟨restart_none, restart_some⟩ := find_point unused (p.listed 2)
  obtain ⟨none_iff, some_iff⟩ := byChain_iff 6 (((p.listed 1).find? (fun i => !p.points[i].inUse)).map Fin.val)
    (((p.listed 2).find? (fun i => !p.points[i].inUse)).map Fin.val)
  refine ⟨none_iff.trans ?_, fun reason chain item => (some_iff reason chain item).trans ?_⟩
  · rw [shed_none, restart_none]
    exact ⟨fun h q mem => mem.elim (h.1 q) (h.2 q), fun h => ⟨fun q mem => h q (.inl mem), fun q mem => h q (.inr mem)⟩⟩
  · rw [shed_some, shed_none, restart_some]
    rfl

/-- The first repeat of a list, by its number. -/
theorem repeat_point (l : List (Fin 64)) :
    ((firstRepeat [] l).map Fin.val = none ↔ l.Nodup) ∧ ∀ n, (firstRepeat [] l).map Fin.val = some n ↔ repeated l n := by
  refine ⟨by rw [Option.map_eq_none_iff, firstRepeat_eq_none_iff], fun n => ?_⟩
  simp only [Option.map_eq_some_iff, firstRepeat_eq_some_iff, repeated]
  constructor
  · rintro ⟨q, ⟨a, b, split, before, once⟩, number⟩
    exact ⟨a, q, b, split, before, once, number⟩
  · rintro ⟨a, q, b, split, before, once, number⟩
    exact ⟨q, ⟨a, b, split, before, once⟩, number⟩

/-- Check 7, POINT_REPEATED. -/
theorem checkRepeated_answers (p : Plan) : Answers (checkRepeated p) 7 p := by
  obtain ⟨shed_none, shed_some⟩ := repeat_point (p.listed 1)
  obtain ⟨restart_none, restart_some⟩ := repeat_point (p.listed 2)
  obtain ⟨none_iff, some_iff⟩ := byChain_iff 7 ((firstRepeat [] (p.listed 1)).map Fin.val)
    ((firstRepeat [] (p.listed 2)).map Fin.val)
  refine ⟨none_iff.trans ?_, fun reason chain item => (some_iff reason chain item).trans ?_⟩
  · rw [shed_none, restart_none]
    rfl
  · rw [shed_some, shed_none, restart_some]
    rfl

/-- Check 9, WEIGHT_OVER_BUDGET. -/
theorem checkWeights_answers (p : Plan) : Answers (checkWeights p) 9 p := by
  have heavy (q : Fin 64) : decide (p.params.inrushBudget < p.points[q].weight) = true ↔ p.heavy q := by simp [Plan.heavy]
  obtain ⟨restart_none, restart_some⟩ := find_point heavy (p.listed 2)
  obtain ⟨none_iff, some_iff⟩ := byChain_iff 9 none
    (((p.listed 2).find? (fun i => decide (p.params.inrushBudget < p.points[i].weight))).map Fin.val)
  refine ⟨none_iff.trans ?_, fun reason chain item => (some_iff reason chain item).trans ?_⟩
  · rw [restart_none, eq_self, true_and]
    rfl
  · rw [restart_some]
    simp [Plan.reports]

/-- Check 10, EDIT_RIGHT_MISSING. -/
theorem checkEditRight_answers (p : Plan) : Answers (checkEditRight p) 10 p := by
  have held : p.rights.toList.any Rights.edit = true ↔ 1 ≤ p.rights.toList.countP Rights.edit := by
    rw [Nat.one_le_iff_ne_zero, ← Nat.pos_iff_ne_zero, List.countP_pos_iff, List.any_eq_true]
  unfold checkEditRight
  split
  · next is =>
    exact ⟨iff_of_true rfl (held.mp is), fun _ _ _ => iff_of_false nofun (by have := held.mp is; simp only [Plan.reports]; omega)⟩
  · next not =>
    have missing := mt held.mpr not
    refine ⟨iff_of_false nofun missing, fun _ _ _ => ?_⟩
    rw [some_invalid_iff]
    simp only [Plan.reports]
    omega

/-- Check 11, CONSENT_RIGHTS_MISSING. -/
theorem checkConsentRights_answers (p : Plan) : Answers (checkConsentRights p) 11 p := by
  unfold checkConsentRights
  dsimp only
  split
  · next held => exact ⟨iff_of_true rfl held, fun _ _ _ => iff_of_false nofun (by simp only [Plan.reports]; omega)⟩
  · next missing =>
    refine ⟨iff_of_false nofun missing, fun _ _ _ => ?_⟩
    rw [some_invalid_iff]
    simp only [Plan.reports]
    omega

/-- The eleven checks answer in order (R55). -/
theorem validate_answers (p : Plan) : AnswerInOrder p 1
    [checkThresholds, checkVoteCount, checkShedEmpty, checkGap, checkTriggers, checkInUse, checkRepeated, checkTimers,
      checkWeights, checkEditRight, checkConsentRights] :=
  ⟨checkThresholds_answers p, fun _ => ⟨checkVoteCount_answers p, fun _ => ⟨checkShedEmpty_answers p, fun _ =>
    ⟨checkGap_answers p, fun gapless => ⟨checkTriggers_answers (fun k => gapless 1 k (.inl rfl)), fun _ =>
      ⟨checkInUse_answers p, fun _ => ⟨checkRepeated_answers p, fun _ => ⟨checkTimers_answers p, fun _ =>
        ⟨checkWeights_answers p, fun _ => ⟨checkEditRight_answers p, fun _ => ⟨checkConsentRights_answers p,
          fun _ => trivial⟩⟩⟩⟩⟩⟩⟩⟩⟩⟩⟩

/-- Validation passes exactly when every check does (R55). -/
theorem validate_eq_none_iff (p : Plan) : p.validate = none ↔ ∀ n, 1 ≤ n → n < 12 → p.passes n :=
  (validate_answers p).findSome.1

/-- Only the reasons of the eleven checks are reported (R55). -/
theorem Plan.reports_reason {p : Plan} {v : Invalid} (h : p.reports v) : 1 ≤ v.reason ∧ v.reason < 12 := by
  unfold Plan.reports at h
  split at h <;> simp_all

/-- Validation fails with the report of the first check that fails (R55). -/
theorem validate_eq_some_iff (p : Plan) (v : Invalid) :
    p.validate = some v ↔ (∀ n, 1 ≤ n → n < v.reason → p.passes n) ∧ p.reports v := by
  refine ((validate_answers p).findSome.2 v).trans ⟨And.right, fun given => ⟨?_, given⟩⟩
  exact Plan.reports_reason given.2

/-- Every check passes, check by check. -/
theorem Plan.passes_all (p : Plan) : (∀ n, 1 ≤ n → n < 12 → p.passes n)
    ↔ p.passes 1 ∧ p.passes 2 ∧ p.passes 3 ∧ p.passes 4 ∧ p.passes 5 ∧ p.passes 6 ∧ p.passes 7 ∧ p.passes 8 ∧ p.passes 9
      ∧ p.passes 10 ∧ p.passes 11 := by
  constructor
  · intro all
    have at_number (n : Nat) (above : 1 ≤ n) (below : n < 12) := all n above below
    simp_all
  · rintro ⟨_, _, _, _, _, _, _, _, _, _, _⟩ n above below
    interval_cases n <;> assumption

/-! ### The checks in the words of R55 (O51) -/

/-- The steps of a plan by their numbers. -/
theorem Plan.step_eq (p : Plan) (k : Fin 48) : p.shedStep k.val = p.shed[k] ∧ p.restartStep k.val = p.restart[k] := by
  simp [Plan.shedStep, Plan.shedSteps, Plan.restartStep, Plan.restartSteps, List.getD_eq_getElem?_getD]

/-- The present steps of a plan by their numbers. -/
theorem Plan.presentAt_iff (p : Plan) (k : Fin 48) :
    (p.presentAt 1 k.val ↔ p.shed[k].points ≠ []) ∧ (p.presentAt 2 k.val ↔ p.restart[k].points ≠ []) := by
  simp [Plan.presentAt, p.step_eq k, k.isLt]

/-- A step that is present has a number below 48. -/
theorem Plan.presentAt_lt {p : Plan} {chain k : Nat} (present : p.presentAt chain k) : k < 48 := present.1

/-- A chain has no gap exactly when each step before a present one is present. -/
theorem Plan.gapless_iff (p : Plan) (chain : Nat) : (∀ k, ¬ p.gap chain k)
    ↔ ∀ i j : Fin 48, i < j → p.presentAt chain j.val → p.presentAt chain i.val := by
  refine ⟨fun gapless i j below present => p.presentAt_of_gapless gapless below present, ?_⟩
  rintro follows k ⟨present, j, below, absent⟩
  have inside := p.presentAt_lt present
  exact absent (follows ⟨j, by omega⟩ ⟨k, inside⟩ below present)

/-- Check 4 in the words of R55. -/
theorem Plan.passes_gap_iff (p : Plan) : p.passes 4
    ↔ (∀ i j : Fin 48, i < j → p.shed[j].points ≠ [] → p.shed[i].points ≠ [])
      ∧ ∀ i j : Fin 48, i < j → p.restart[j].points ≠ [] → p.restart[i].points ≠ [] := by
  refine (both_chains p.gap).trans ?_
  simp only [Plan.gapless_iff, Plan.presentAt_iff]

/-- Check 5 in the words of R55, for a chain without a gap. -/
theorem Plan.passes_triggers_iff {p : Plan} (gapless : ∀ k, ¬ p.gap 1 k) : p.passes 5
    ↔ ∀ i j : Fin 48, i < j → p.shed[i].points ≠ [] → p.shed[j].points ≠ [] →
      p.shed[i].trigger.rank ≤ p.shed[j].trigger.rank := by
  constructor
  · intro rising i j below _ present
    have climbs (d : Nat) : ∀ k, k + d < 48 → p.presentAt 1 (k + d) →
        (p.shedStep k).trigger.rank ≤ (p.shedStep (k + d)).trigger.rank := by
      intro k
      induction d with
      | zero => exact fun _ _ => Nat.le_refl _
      | succ d ih =>
        intro inside here
        have one_before := ih (by omega) (p.presentAt_of_gapless gapless (Nat.lt_succ_self _) here)
        have step := rising (k + d)
        simp only [Plan.falls, not_and, Nat.not_lt] at step
        exact one_before.trans (step here)
    have split : i.val + (j.val - i.val) = j.val := by omega
    have climb := climbs (j.val - i.val) i.val (by omega) (by rw [split]; exact (p.presentAt_iff j).1.mpr present)
    rwa [split, (p.step_eq i).1, (p.step_eq j).1] at climb
  · rintro rising k ⟨present, falls⟩
    have inside := p.presentAt_lt present
    have before := p.presentAt_of_gapless gapless (Nat.lt_succ_self k) present
    have climb := rising ⟨k, by omega⟩ ⟨k + 1, inside⟩ (Nat.lt_succ_self k) ((p.presentAt_iff ⟨k, by omega⟩).1.mp before)
      ((p.presentAt_iff ⟨k + 1, inside⟩).1.mp present)
    rw [← (p.step_eq ⟨k, by omega⟩).1, ← (p.step_eq ⟨k + 1, inside⟩).1] at climb
    exact absurd falls (Nat.not_lt.mpr climb)

/-- The points that the chains list. -/
theorem Plan.mem_listed (p : Plan) (q : Fin 64) :
    (q ∈ p.listed 1 ↔ ∃ k : Fin 48, q ∈ p.shed[k].points) ∧ (q ∈ p.listed 2 ↔ ∃ k : Fin 48, q ∈ p.restart[k].points) := by
  simp [Plan.listed, List.mem_flatMap, Vector.mem_iff_getElem, Fin.exists_iff]

/-- Check 6 in the words of R55. -/
theorem Plan.passes_inUse_iff (p : Plan) : p.passes 6
    ↔ ∀ (k : Fin 48) (q : Fin 64), q ∈ p.shed[k].points ∨ q ∈ p.restart[k].points → p.points[q].inUse = true := by
  simp only [Plan.passes, Plan.mem_listed, Plan.unused, Bool.not_eq_false, ← exists_or]
  exact ⟨fun h k q mem => h q ⟨k, mem⟩, fun h q ⟨k, mem⟩ => h k q mem⟩

/-- Check 8 in the words of R55. -/
theorem Plan.passes_timers_iff (p : Plan) : p.passes 8
    ↔ (∀ k : Fin 48, p.shed[k].points ≠ [] → p.shed[k].wait = .timer → p.shed[k].delay < p.shed[k].timeout)
      ∧ ∀ k : Fin 48, p.restart[k].points ≠ [] → p.restart[k].wait = .timer → p.restart[k].delay < p.restart[k].timeout := by
  have by_fin (chain : Nat) : (∀ k, ¬ p.late chain k) ↔ ∀ k : Fin 48, ¬ p.late chain k.val :=
    ⟨fun never k => never k.val, fun never k late => never ⟨k, p.presentAt_lt late.1⟩ late⟩
  refine (both_chains p.late).trans ?_
  rw [by_fin 1, by_fin 2]
  simp [Plan.late, Plan.presentAt_iff, p.step_eq]

/-- Check 9 in the words of R55. -/
theorem Plan.passes_weights_iff (p : Plan) : p.passes 9
    ↔ ∀ (k : Fin 48) (q : Fin 64), q ∈ p.restart[k].points → p.points[q].weight ≤ p.params.inrushBudget := by
  simp only [Plan.passes, Plan.mem_listed, Plan.heavy, Nat.not_lt]
  exact ⟨fun h k q mem => h q ⟨k, mem⟩, fun h q ⟨k, mem⟩ => h k q mem⟩

/-- A vector of three, item by item. -/
theorem vector_three {α : Type} (v : Vector α 3) : v.toList = [v[0], v[1], v[2]] :=
  List.ext_getElem (by simp) (fun i _ _ => by
    match i with
    | 0 | 1 | 2 => simp
    | i + 3 => exact absurd ‹i + 3 < v.toList.length› (by simp))

/-- Check 10 in the words of R55. -/
theorem Plan.passes_edit_iff (p : Plan) : p.passes 10 ↔ ∃ i : Fin 3, p.rights[i].edit = true := by
  simp only [Plan.passes, Nat.one_le_iff_ne_zero, ← Nat.pos_iff_ne_zero, List.countP_pos_iff, vector_three]
  simp [Fin.exists_fin_succ]

/-- Check 11 in the words of R55. -/
theorem Plan.passes_consent_iff (p : Plan) :
    p.passes 11 ↔ ∃ i j : Fin 3, i ≠ j ∧ p.rights[i].consent = true ∧ p.rights[j].consent = true := by
  simp only [Plan.passes, vector_three, List.countP_cons, List.countP_nil]
  cases h0 : p.rights[0].consent <;> cases h1 : p.rights[1].consent <;> cases h2 : p.rights[2].consent <;>
    simp [Fin.exists_fin_succ, h0, h1, h2]

/-- Settles O51: each check answers by its rule, and validation reports the first that fails. -/
theorem validationPasses : Obligations.ValidationPasses := by
  refine ⟨fun p => (validate_eq_none_iff p).trans (p.passes_all.trans ?_), validate_eq_some_iff⟩
  have h0 := (p.presentAt_iff 0).1
  rw [p.passes_gap_iff, p.passes_inUse_iff, p.passes_timers_iff, p.passes_weights_iff, p.passes_edit_iff, p.passes_consent_iff]
  constructor
  · rintro ⟨thresholds, votes, first, ⟨shed, restart⟩, triggers, used, ⟨shed_once, restart_once⟩, ⟨shed_timers, restart_timers⟩,
      weights, edit, consent⟩
    have gapless := ((both_chains p.gap).mp (p.passes_gap_iff.mpr ⟨shed, restart⟩)).1
    exact ⟨thresholds, votes, h0.mp first, shed, restart, (p.passes_triggers_iff gapless).mp triggers, used, shed_once,
      restart_once, shed_timers, restart_timers, weights, edit, consent⟩
  · rintro ⟨thresholds, votes, first, shed, restart, triggers, used, shed_once, restart_once, shed_timers, restart_timers,
      weights, edit, consent⟩
    have gapless := ((both_chains p.gap).mp (p.passes_gap_iff.mpr ⟨shed, restart⟩)).1
    exact ⟨thresholds, votes, h0.mpr first, ⟨shed, restart⟩, (p.passes_triggers_iff gapless).mpr triggers, used,
      ⟨shed_once, restart_once⟩, ⟨shed_timers, restart_timers⟩, weights, edit, consent⟩

end Sys2Proof.Machine

namespace Sys2Proof.Machine

/-! ### COMMIT (O52) -/

/-- Conditions 2 to 5 of R57 in their words. -/
theorem State.mayCommit_iff (s : State) : s.mayCommit = true ↔
    (s.seq.state = .watch ∨ s.seq.state = .noPlan) ∧ s.mev.level = .quiet
      ∧ (∀ q : Fin 64, s.pointState q ≠ .closing ∧ s.pointState q ≠ .settling) ∧ s.iml.link ≠ .saving := by
  have rests (e : PointState) : e.counts = false ↔ e ≠ .closing ∧ e ≠ .settling := by cases e <;> simp [PointState.counts]
  simp [State.mayCommit, State.anyRestoring, allPoints, rests, and_assoc]

/-- The claim of another port, or none, is not this port's. -/
theorem Pls.holder_ne_iff (u : Pls) (p : Fin 3) : u.holder ≠ some p ↔ ∀ c, u.claim = some c → c.holder ≠ p := by
  simp [Pls.holder]

/-- COMMIT by a port that does not hold the claim (R57). -/
theorem ownerCommit_of_other {s : State} {p : Fin 3} (other : s.pls.holder ≠ some p) (save : Bool) :
    ownerCommit p save s = reply p .notClaimed [] s := by
  rw [Pls.holder_ne_iff] at other
  unfold ownerCommit
  split
  · rfl
  · next c claimed => rw [if_pos (other c claimed)]

/-- COMMIT by the port that holds the claim while the part may not commit (R57). -/
theorem ownerCommit_of_busy {s : State} {p : Fin 3} {c : Claim} (claimed : s.pls.claim = some c) (own : c.holder = p)
    (busy : s.mayCommit = false) (save : Bool) : ownerCommit p save s = reply p .busy [] s := by
  simp [ownerCommit, claimed, own, busy]

/-- COMMIT of a shadow that validation refuses (R57). -/
theorem ownerCommit_of_invalid {s : State} {p : Fin 3} {c : Claim} {v : Invalid} (claimed : s.pls.claim = some c)
    (own : c.holder = p) (may : s.mayCommit = true) (fails : c.shadow.validate = some v) (save : Bool) :
    ownerCommit p save s = reply p .invalid v.bytes s := by
  simp [ownerCommit, claimed, own, may, fails]

/-- COMMIT that passes its conditions (R57, R58). -/
theorem ownerCommit_of_valid {s : State} {p : Fin 3} {c : Claim} (claimed : s.pls.claim = some c) (own : c.holder = p)
    (may : s.mayCommit = true) (passes : c.shadow.validate = none) (save : Bool) :
    ownerCommit p save s = finishCommit p save (commitPlan p c.shadow s) := by
  simp [ownerCommit, claimed, own, may, passes]

/-- COMMIT at a free port that holds the EDIT right, by its save byte (R57, R62). -/
theorem exec_commit {s : State} {p : Fin 3} {b : Byte} (ready : Ready s p) (right : s.pls.active.rights[p].edit = true)
    (byte : b = 0 ∨ b = 1) : exec (.commit p [b]) s = .next (ownerCommit p (b == 1) (s.taken p 0x14)) := by
  rw [exec_taken ready (by simp) rfl]
  rcases byte with rfl | rfl <;> exact congrArg _ (withRight_of_held right _ _)

/-- The generation after a commit (R58). -/
theorem nextGeneration_eq (g : Nat) : nextGeneration g = if g < 65535 then g + 1 else 1 := by
  unfold nextGeneration
  split <;> split <;> omega

/-- Out of NO_PLAN a commit always goes (R61). -/
theorem leaveNoPlan_leaves (s : State) : (leaveNoPlan s).seq.state ≠ .noPlan := by
  unfold leaveNoPlan
  split
  · exact beginRound_awake _ (by simp [reportFalse])
  · assumption

/-- What a commit leaves: the new plan without a claim, the store, the request in service, and NO_PLAN behind it. -/
theorem commitPlan_leaves (p : Fin 3) (shadow : Plan) (s : State) :
    (commitPlan p shadow s).pls = ⟨committedPlan s.pls.active shadow, none⟩ ∧ (commitPlan p shadow s).iml = s.iml
      ∧ (commitPlan p shadow s).seq.state ≠ .noPlan :=
  ⟨by simp [commitPlan], by simp, by simp only [commitPlan]; exact settle_awake _ (leaveNoPlan_leaves _)⟩

/-- A fold of poll withdrawals touches nothing but the poll slots (R101). -/
theorem foldl_commitPoll_flc (l : List (Fin 16)) (s : State) :
    l.foldl commitPoll s = { s with flc := { s.flc with polls := (l.foldl commitPoll s).flc.polls } } := by
  induction l generalizing s with
  | nil => rfl
  | cons st l ih =>
    rw [List.foldl_cons, ih, commitPoll]
    split <;> rfl

/-- The poll slots after one station has been taken at a commit (R101). -/
theorem commitPoll_polls (s : State) (st : Fin 16) :
    (commitPoll s st).flc.polls = s.flc.polls.set st (s.flc.polls[st] && s.pls.active.configured st) := by
  unfold commitPoll
  split <;> simp_all

/-- The FLC's poll slots after a commit: pending only where the station is still configured (R101). -/
theorem foldl_commitPoll (s : State) : (List.finRange 16).foldl commitPoll s
    = { s with flc := { s.flc with polls := Vector.ofFn (fun st => s.flc.polls[st] && s.pls.active.configured st) } } := by
  have slots : ((List.finRange 16).foldl commitPoll s).flc.polls
      = Vector.ofFn (fun st => s.flc.polls[st] && s.pls.active.configured st) :=
    Vector.ext fun i hi => by
      rw [Vector.getElem_ofFn]
      exact foldl_items_all (fun s => s.flc.polls) commitPoll (fun pl st poll => poll && pl.configured st)
        (fun s st => by simp) commitPoll_polls s ⟨i, hi⟩
  rw [foldl_commitPoll_flc, slots]

/-- The close of an event at QUIET leaves the tracker (R118). -/
theorem closeEvent_ctk_of_quiet {s : State} (quiet : s.mev.level = .quiet) : (closeEvent s).ctk = s.ctk := by
  obtain ⟨_, _, _, ctk, _⟩ := s.shut_items
  rw [closeEvent_of_quiet quiet, ctk]

/-- Quiet reached by the new quiet period closes an event that stands in WATCH at depth 0, while the tracker does not wait
for it (R36, R117). -/
theorem commitQuiet_of_closing {s : State} (quiet : s.mev.level = .quiet) (healthy : s.mev.healthy ≠ 0)
    (long : s.quietLongEnough = true) (other : s.ctk.state ≠ .waitQuiet) (watching : s.seq.state = .watch)
    (isOpen : s.seq.eventOpen = true) (top : s.seq.depth = 0) :
    commitQuiet s = closeEvent { s with mev := { s.mev with quietHanded := true } } := by
  rw [commitQuiet, if_pos ⟨quiet, healthy, long⟩]
  simp only [watching, if_true]
  rw [quietRule, if_pos ⟨.inl watching, isOpen, top, quiet⟩]
  have ctk := closeEvent_ctk_of_quiet (s := { s with mev := { s.mev with quietHanded := true } }) quiet
  exact trackerQuietReached_of_not_waiting (by rw [ctk]; exact other)

/-- Quiet reached by the new quiet period, with no event to close and a tracker that does not wait for it (R36, R61). -/
theorem commitQuiet_of_standing {s : State} (quiet : s.mev.level = .quiet) (healthy : s.mev.healthy ≠ 0)
    (long : s.quietLongEnough = true) (other : s.ctk.state ≠ .waitQuiet)
    (stands : ¬ (s.seq.state = .watch ∧ s.seq.eventOpen = true ∧ s.seq.depth = 0)) :
    commitQuiet s = { s with mev := { s.mev with quietHanded := true } } := by
  have no_rule : (if s.seq.state = .watch then quietRule { s with mev := { s.mev with quietHanded := true } }
      else { s with mev := { s.mev with quietHanded := true } }) = { s with mev := { s.mev with quietHanded := true } } := by
    split
    · next watching => exact if_neg fun ⟨_, isOpen, top, _⟩ => stands ⟨watching, isOpen, top⟩
    · rfl
  rw [commitQuiet, if_pos ⟨quiet, healthy, long⟩]
  exact (congrArg trackerQuietReached no_rule).trans (trackerQuietReached_of_not_waiting other)

/-- Whether quiet time stands at the quiet period, in milliseconds (R132). -/
theorem State.quietLongEnough_iff (s : State) :
    s.quietLongEnough = true ↔ s.pls.active.params.quietPeriod * 1000 ≤ s.mev.quiet :=
  decide_eq_true_iff

/-- The end of a commit that does not save (R58). -/
theorem finishCommit_reply {p : Fin 3} {s : State} {code : Byte} (serving : s.spu.ports[p].service = some code) :
    finishCommit p false s = s.replied p code .ok (halfBytes s.pls.active.params.generation) :=
  reply_replied p code _ _ s serving

/-- The end of a commit that saves (R62, R189). -/
theorem finishCommit_save (p : Fin 3) (s : State) : finishCommit p true s
    = { s with iml := { s.iml with link := .saving, save := some ⟨p, s.pls.active, true, saveWrites s.pls.active⟩ } } := rfl

/-- A commit as R58 orders it: the claim's end and its notice, the record and its notice, the blocks, and out of NO_PLAN. -/
theorem commitPlan_eq (p : Fin 3) (shadow : Plan) (s : State) :
    commitPlan p shadow s = settle (leaveNoPlan (commitHandOver s.pls.active
      (raiseAll .plan (post (.plan (some p) (committedPlan s.pls.active shadow).params.generation .committed .none)
        (raiseAll .claim { s with pls := ⟨committedPlan s.pls.active shadow, none⟩ }))))) := rfl

/-- Settles O52: the conditions of R57 one by one, and the commit block by block. -/
theorem commitConditionsAndEffect : Obligations.CommitConditionsAndEffect := by
  refine ⟨fun s p b ready right byte => ?_, fun p shadow s => ?_, fun old s => ?_, fun s => ?_, fun s => ?_⟩
  · have may := s.mayCommit_iff
    rw [exec_commit ready right byte]
    refine ⟨fun other => ?_, fun c claimed own => ⟨fun busy => ?_, fun v free fails => ?_, fun free passes => ?_⟩⟩
    · rw [ownerCommit_of_other (s := s.taken p 0x14) other, reply_answered]
    · rw [ownerCommit_of_busy (s := s.taken p 0x14) claimed own (Bool.eq_false_iff.mpr fun h => busy (may.mp h)),
        reply_answered]
    · rw [ownerCommit_of_invalid (s := s.taken p 0x14) claimed own (may.mpr free) fails, reply_answered]
      rfl
    · rw [ownerCommit_of_valid (s := s.taken p 0x14) claimed own (may.mpr free) passes]
      obtain ⟨pls, iml, left⟩ := commitPlan_leaves p c.shadow (s.taken p 0x14)
      simp only [committedPlan, nextGeneration_eq] at pls
      refine ⟨_, rfl, pls, iml, left, fun no => ?_, fun yes => ?_⟩
      · rw [show (b == 1) = false by simp [no], finishCommit_reply (code := 0x14) (by simp), pls]
        rfl
      · rw [show (b == 1) = true by simp [yes], finishCommit_save, pls]
        rfl
  · simp only [commitPlan_eq, committedPlan, nextGeneration_eq]
  · simp only [commitHandOver, commitLoop, foldl_commitPoll]
    rfl
  · intro reached handed closes
    have long := s.quietLongEnough_iff
    refine ⟨fun early => ?_, fun ⟨quiet, healthy, late⟩ other ⟨watching, isOpen, top⟩ => ?_,
      fun ⟨quiet, healthy, late⟩ other stands => ?_⟩
    · exact if_neg fun ⟨quiet, healthy, late⟩ => early ⟨quiet, healthy, long.mp late⟩
    · exact commitQuiet_of_closing quiet healthy (long.mpr late) other watching isOpen top
    · exact commitQuiet_of_standing quiet healthy (long.mpr late) other stands
  · refine ⟨fun loaded => if_neg loaded, fun unloaded => ?_⟩
    rw [leaveNoPlan, if_pos unloaded]
    simp only [setSequence, unloaded]
    rfl

end Sys2Proof.Machine

/-! PROOFS of the family 04_load_points. -/

namespace Sys2Proof.Machine

/-! ### What the plant invariant reads (O60) -/

/-- What the plant's invariant reads of a state: the plan, the point states, the inrush in use, the motion slots, and the order in flight
with its mark. -/
def State.plant (s : State) :
    Plan × Vector PointState 64 × Nat × Vector MotionSlot 64 × Option (Order × Bool) :=
  (s.pls.active, s.ptm.points.map PointEntry.state, s.ptm.inrush, s.flc.motion, s.flc.inFlight.map (fun f => (f.order, f.voided)))

/-- The point states, from what the plant's invariant reads. -/
theorem pointState_of_plant {s t : State} (h : t.plant = s.plant) (p : Fin 64) : t.pointState p = s.pointState p := by
  simp only [State.plant, Prod.mk.injEq] at h
  obtain ⟨-, points, -⟩ := h
  simpa [State.pointState] using congrArg (fun v => v[p]) points

/-- States with the same plan, points and field loop have the same plant. -/
theorem plant_of_blocks {s t : State} (pls : t.pls.active = s.pls.active) (ptm : t.ptm = s.ptm) (flc : t.flc = s.flc) :
    t.plant = s.plant := by
  simp only [State.plant, pls, ptm, flc]

/-- A change of one entry that leaves its state leaves the plant. -/
theorem modPoint_plant (s : State) (p : Fin 64) (f : PointEntry → PointEntry) (same : (f s.ptm.points[p]).state = s.ptm.points[p].state) :
    (s.modPoint p f).plant = s.plant := by
  have states : (s.modPoint p f).ptm.points.map PointEntry.state = s.ptm.points.map PointEntry.state := by
    ext i hi : 1
    simp only [Vector.getElem_map, State.modPoint_at]
    split
    · next here => subst here; exact same
    · rfl
  simp only [State.plant, states, State.modPoint_frame, State.modPoint_inrush]

/-- A motion slot, the state of its point and the order in flight correspond (R65; log 19). -/
def SlotFits (slot : MotionSlot) (st : PointState) (flying : Option InFlight) : Prop :=
  (slot = .empty → st.still) ∧ (∀ k, slot = .pending k → st = k.moving)
    ∧ ∀ k f, slot = .inFlight k → flying = some f → (f.voided = false → st = k.moving) ∧ (f.voided = true → st.still)

/-- Every point's state corresponds to its slot, point by point. -/
theorem slotsOk_iff (s : State) : SlotsOk s ↔ ∀ p : Fin 64, SlotFits s.flc.motion[p] (s.pointState p) s.flc.inFlight := by
  refine forall_congr' fun p => ?_
  cases s.flc.motion[p] with
  | empty | pending => simp [SlotFits]
  | inFlight k => exact ⟨fun h => ⟨nofun, nofun, fun _ f own => by cases own; exact h f⟩, fun ⟨_, _, h⟩ f => h k f rfl⟩

/-- A state that waits for a motion order is not a still one. -/
theorem MotionKind.moving_not_still (k : MotionKind) : ¬ k.moving.still := by
  cases k <;> simp [MotionKind.moving, PointState.still]

/-- A state that waits for a motion order is one of a point in use. -/
theorem MotionKind.moving_ne_unused (k : MotionKind) : k.moving ≠ .unused := by
  cases k <;> simp [MotionKind.moving]

/-- A still state may follow a still one, whatever the slot. -/
theorem SlotFits.still {slot : MotionSlot} {st new : PointState} {flying : Option InFlight} (h : SlotFits slot st flying)
    (old : st.still) (still : new.still) : SlotFits slot new flying := by
  obtain ⟨empty, pending, inFlight⟩ := h
  refine ⟨fun _ => still, fun k waits => ?_, fun k f flies flying => ⟨fun live => ?_, fun _ => still⟩⟩
  · exact absurd (pending k waits ▸ old) k.moving_not_still
  · exact absurd ((inFlight k f flies flying).1 live ▸ old) k.moving_not_still

/-- Any still state fits an empty slot. -/
theorem slotFits_empty {st : PointState} (still : st.still) (flying : Option InFlight) : SlotFits .empty st flying :=
  ⟨fun _ => still, nofun, nofun⟩

/-- The moving state of an order fits the slot in which the order waits. -/
theorem slotFits_pending (k : MotionKind) (flying : Option InFlight) : SlotFits (.pending k) k.moving flying :=
  ⟨nofun, fun j h => by cases h; rfl, nofun⟩

/-! ### The plant's invariant (R65, R79, R87) -/

/-- The plant's invariant but for the slot of one point, or, with `none`, whole. `used` says which points are in use; `resolving`, that
the order in flight has left its slot and is being taken by the PTM (R68). -/
structure PlantBut (but : Option (Fin 64)) (used : Fin 64 → Bool) (resolving : Bool) (s : State) : Prop where
  use : ∀ p : Fin 64, used p = false ↔ s.pointState p = .unused
  flight : ∀ (p : Fin 64) (k : MotionKind), s.flc.motion[p] = .inFlight k
    ↔ resolving = false ∧ ∃ f, s.flc.inFlight = some f ∧ f.order = .motion k p
  busy : resolving = true → s.flc.inFlight.isSome = true
  slots : ∀ p : Fin 64, but ≠ some p → SlotFits s.flc.motion[p] (s.pointState p) s.flc.inFlight
  inrush : InrushOk s

/-- The plant's invariant, of the points in use that are given. -/
abbrev Plant (used : Fin 64 → Bool) (resolving : Bool) (s : State) : Prop := PlantBut none used resolving s

variable {but : Option (Fin 64)} {used : Fin 64 → Bool} {resolving : Bool} {s t : State} {p : Fin 64}

/-- The weights counted depend on the plant alone. -/
theorem inrushCounted_of_plant (h : t.plant = s.plant) : t.inrushCounted = s.inrushCounted := by
  have plan : t.pls.active = s.pls.active := congrArg Prod.fst h
  simp only [State.inrushCounted, pointState_of_plant h, plan]

/-- The invariant depends on the plant alone. -/
theorem PlantBut.same (same : t.plant = s.plant) (h : PlantBut but used resolving s) : PlantBut but used resolving t := by
  have states := pointState_of_plant same
  have counted := inrushCounted_of_plant same
  simp only [State.plant, Prod.mk.injEq] at same
  obtain ⟨plan, -, inrush, motion, flying⟩ := same
  have flies (o : Order) : (∃ f, t.flc.inFlight = some f ∧ f.order = o) ↔ ∃ f, s.flc.inFlight = some f ∧ f.order = o := by
    have reads (g : Option InFlight) : (∃ f, g = some f ∧ f.order = o)
        ↔ ((g.map (fun f => (f.order, f.voided))).map Prod.fst) = some o := by simp
    rw [reads, reads, flying]
  refine ⟨fun p => by rw [states]; exact h.use p, fun p k => by rw [motion, flies]; exact h.flight p k, fun r => ?_,
    fun p here => ?_, ?_⟩
  · have := congrArg Option.isSome flying
    rw [Option.isSome_map, Option.isSome_map] at this
    rw [this]
    exact h.busy r
  · obtain ⟨empty, pending, inFlight⟩ := h.slots p here
    rw [motion, states]
    refine ⟨empty, pending, fun k f flight tflies => ?_⟩
    rw [tflies, Option.map_some] at flying
    obtain ⟨g, sflies, eq⟩ := Option.map_eq_some_iff.mp flying.symm
    have := inFlight k g flight sflies
    rw [Prod.mk.injEq] at eq
    rwa [eq.2] at this
  · obtain ⟨sum, budget⟩ := h.inrush
    exact ⟨by rw [inrush, counted]; exact sum, by rw [inrush, plan]; exact budget⟩

/-- The invariant whole is the invariant but for any slot. -/
theorem PlantBut.apart (h : Plant used resolving s) (q : Option (Fin 64)) : PlantBut q used resolving s :=
  ⟨h.use, h.flight, h.busy, fun q _ => h.slots q nofun, h.inrush⟩

/-! ### The inrush in use (R79) -/

/-- A sum over the points of which one is changed. -/
theorem sum_points_change (f g : Fin 64 → Nat) (p : Fin 64) (same : ∀ q, q ≠ p → g q = f q) :
    (allPoints.map g).sum + f p = (allPoints.map f).sum + g p := by
  have split (u : Fin 64 → Nat) : (allPoints.map u).sum = u p + ∑ q ∈ Finset.univ.erase p, u q := by
    rw [Finset.add_sum_erase _ _ (Finset.mem_univ p), Fin.sum_univ_def, allPoints]
  have rest : ∑ q ∈ Finset.univ.erase p, g q = ∑ q ∈ Finset.univ.erase p, f q :=
    Finset.sum_congr rfl fun q other => same q (Finset.ne_of_mem_erase other)
  rw [split, split, rest]
  omega

/-- The states after a change of point state. -/
theorem changePoint_pointState (p : Fin 64) (new : PointState) (c : Cause) (s : State) (q : Fin 64) :
    (changePoint p new c s).pointState q = if q = p then new else s.pointState q := by
  simp only [State.pointState, changePoint_points]
  by_cases here : q = p
  · subst here
    simp [PointEntry.enter]
  · rw [if_neg here, vector_set_other _ _ _ _ (Ne.symm here)]

/-- The inrush in use after a change of point state (R79). -/
theorem changePoint_inrush (p : Fin 64) (new : PointState) (c : Cause) (s : State) :
    (changePoint p new c s).ptm.inrush = inrushAfter s.ptm.inrush s.pls.active.points[p].weight (s.pointState p) new := by
  simp [changePoint, State.pointState]

/-- The inrush in use stays the weights counted over a change of point state, within the budget if a weight that comes to count fits
(R79, R149). -/
theorem changePoint_inrushOk {new : PointState} (c : Cause) (h : InrushOk s)
    (fits : new.counts = true → (s.pointState p).counts = false →
      s.ptm.inrush + s.pls.active.points[p].weight ≤ s.pls.active.params.inrushBudget) :
    InrushOk (changePoint p new c s) := by
  obtain ⟨sum, budget⟩ := h
  have change := sum_points_change
    (fun q => if (s.pointState q).counts then s.pls.active.points[q].weight else 0)
    (fun q => if ((changePoint p new c s).pointState q).counts then s.pls.active.points[q].weight else 0) p
    (fun q other => by rw [changePoint_pointState, if_neg other])
  simp only [changePoint_pointState, if_true] at change
  simp only [InrushOk, State.inrushCounted, changePoint_inrush, changePoint_frame, changePoint_pointState] at sum ⊢
  unfold inrushAfter
  cases before : (s.pointState p).counts <;> cases after : new.counts <;> simp [before, after] at * <;> omega

/-! ### The invariant over the Point Manager's operations -/

/-- A change of point state that fits the point's slot, and with which the point may come into use or leave it (R59, R65, R79). -/
theorem PlantBut.enterAs {used' : Fin 64 → Bool} {new : PointState} (c : Cause) (h : PlantBut (some p) used resolving s)
    (others : ∀ q, q ≠ p → used' q = used q) (use : used' p = false ↔ new = .unused)
    (slot : SlotFits s.flc.motion[p] new s.flc.inFlight)
    (fits : new.counts = true → (s.pointState p).counts = false →
      s.ptm.inrush + s.pls.active.points[p].weight ≤ s.pls.active.params.inrushBudget) :
    Plant used' resolving (changePoint p new c s) := by
  refine ⟨fun q => ?_, by simpa using h.flight, by simpa using h.busy, fun q _ => ?_, changePoint_inrushOk c h.inrush fits⟩
  · rw [changePoint_pointState]
    split
    · next here => rw [here, use]
    · next other => rw [others q other, h.use]
  · rw [changePoint_pointState]
    simp only [changePoint_frame]
    split
    · next here => rw [here]; exact slot
    · next other => exact h.slots q (fun eq => other (Option.some.inj eq).symm)

/-- A change of point state that fits the point's slot (R65, R79). -/
theorem PlantBut.enter {new : PointState} (c : Cause) (h : PlantBut (some p) used resolving s)
    (use : new = .unused ↔ s.pointState p = .unused) (slot : SlotFits s.flc.motion[p] new s.flc.inFlight)
    (fits : new.counts = true → (s.pointState p).counts = false →
      s.ptm.inrush + s.pls.active.points[p].weight ≤ s.pls.active.params.inrushBudget) :
    Plant used resolving (changePoint p new c s) :=
  h.enterAs c (fun _ _ => rfl) ((h.use p).trans use.symm) slot fits

/-- A change from one still state to another (R65). -/
theorem PlantBut.stillChange {new : PointState} (c : Cause) (h : Plant used resolving s) (old : (s.pointState p).still)
    (inUse : s.pointState p ≠ .unused) (still : new.still) (stays : new ≠ .unused)
    (counts : new.counts = true → (s.pointState p).counts = true) : Plant used resolving (changePoint p new c s) :=
  (h.apart (some p)).enter c (by simp [stays, inUse]) ((h.slots p nofun).still old still)
    (fun rises low => by rw [counts rises] at low; cases low)

/-- The FLC's choice moves an order from its slot into flight (R91). -/
theorem PlantBut.choose_keeps (h : Plant used resolving s) : Plant used resolving (choose s) := by
  rcases s.flc.choose_cases with stays | ⟨o, idle, waits, chose⟩
  · exact h.same (plant_of_blocks (s := s) rfl rfl (by exact stays))
  have live : resolving = false := by
    cases resolving
    · rfl
    · simpa [idle] using h.busy rfl
  have none_flies (q : Fin 64) (k : MotionKind) : s.flc.motion[q] ≠ .inFlight k := fun flies => by
    obtain ⟨-, f, flying, -⟩ := (h.flight q k).mp flies
    rw [idle] at flying
    cases flying
  have flying : (choose s).flc.inFlight = some ⟨o, 1, s.flc.tag, none, false⟩ := by
    show s.flc.choose.inFlight = _
    rw [chose]
    cases o <;> rfl
  have slot (q : Fin 64) : (choose s).flc.motion[q] = s.flc.motion[q] ∧ (∀ k, o ≠ .motion k q)
      ∨ ∃ k, o = .motion k q ∧ s.flc.motion[q] = .pending k ∧ (choose s).flc.motion[q] = .inFlight k := by
    show s.flc.choose.motion[q] = _ ∧ _ ∨ ∃ k, _ ∧ _ ∧ s.flc.choose.motion[q] = _
    rw [chose]
    cases o with
    | motion k p =>
      by_cases here : p = q
      · subst here
        exact .inr ⟨k, rfl, waits, vector_set_self ..⟩
      · exact .inl ⟨vector_set_other _ _ _ _ here, fun j eq => here (by cases eq; rfl)⟩
    | lamp | poll | tripAll => exact .inl ⟨rfl, nofun⟩
  have state (q : Fin 64) : (choose s).pointState q = s.pointState q := rfl
  refine ⟨h.use, fun q k => ?_, fun _ => by rw [flying]; rfl, fun q _ => ?_, h.inrush⟩
  · rw [flying]
    rcases slot q with ⟨same, other⟩ | ⟨j, own, -, flies⟩
    · rw [same]
      exact iff_of_false (none_flies q k) (by simp [other])
    · rw [flies]
      simp [own, live]
  · obtain ⟨empty, pending, -⟩ := h.slots q nofun
    rw [state, flying]
    rcases slot q with ⟨same, -⟩ | ⟨j, -, waits, flies⟩
    · rw [same]
      exact ⟨empty, pending, fun k f flies _ => absurd flies (none_flies q k)⟩
    · rw [flies]
      refine ⟨nofun, nofun, fun k f flies eq => ?_⟩
      cases flies
      cases eq
      exact ⟨fun _ => pending j waits, nofun⟩

/-- The state with one motion slot written. -/
def State.setSlot (s : State) (p : Fin 64) (slot : MotionSlot) : State :=
  { s with flc.motion := s.flc.motion.set p slot }

/-- A slot with no order in flight written with none. -/
theorem PlantBut.setSlot {slot : MotionSlot} (h : PlantBut (some p) used resolving s) (free : ∀ k, s.flc.motion[p] ≠ .inFlight k)
    (still : ∀ k, slot ≠ .inFlight k) :
    PlantBut (some p) used resolving (s.setSlot p slot) := by
  refine ⟨h.use, fun q k => ?_, h.busy, fun q other => ?_, h.inrush⟩
  · by_cases here : p = q
    · subst here
      exact iff_of_false (by simp [State.setSlot, still]) (fun flies => free k ((h.flight _ k).mpr flies))
    · exact (iff_of_eq (congrArg (· = MotionSlot.inFlight k) (vector_set_other _ _ _ _ here))).trans (h.flight q k)
  · have here : p ≠ q := fun eq => other (congrArg some eq)
    have fits := h.slots q other
    rw [← vector_set_other s.flc.motion p q slot here] at fits
    exact fits

/-- An order placed in a slot from which none has gone into flight (R87, R92). -/
theorem placeMotion_free (k : MotionKind) (free : ∀ j, s.flc.motion[p] ≠ .inFlight j) :
    placeMotion k p s = choose (s.setSlot p (.pending k)) := by
  unfold placeMotion
  split
  · next j flies => exact absurd flies (free j)
  · rfl
  · rfl

/-- An order placed in a slot and the change of state that goes with it (R65, R66, R87). -/
theorem PlantBut.place (k : MotionKind) (c : Cause) (h : PlantBut (some p) used resolving s)
    (free : ∀ j, s.flc.motion[p] ≠ .inFlight j) (inUse : s.pointState p ≠ .unused)
    (fits : k.moving.counts = true → (s.pointState p).counts = false →
      s.ptm.inrush + s.pls.active.points[p].weight ≤ s.pls.active.params.inrushBudget) :
    Plant used resolving (changePoint p k.moving c (placeMotion k p s)) := by
  have placed := placeMotion_free k free
  have waits := h.setSlot (slot := .pending k) free nofun
  have entered : Plant used resolving (changePoint p k.moving c (s.setSlot p (.pending k))) :=
    waits.enter c (iff_of_false k.moving_ne_unused inUse) (by simpa [State.setSlot] using slotFits_pending k _) fits
  refine entered.choose_keeps.same (plant_of_blocks ?_ ?_ ?_)
  · simp [placed]
  · simp [placed, changePoint, State.modPoint]
  · simp [placed, choose]

/-- The withdrawal of a pending order (R90). -/
theorem PlantBut.withdraw_keeps (h : PlantBut (some p) used resolving s) : PlantBut (some p) used resolving (withdraw p s) := by
  unfold withdraw
  split
  · next k waits => exact h.setSlot (by simp [waits]) nofun
  · exact h
  · exact h

/-- A SHED wanted for a point in use (R66). -/
theorem PlantBut.wantShedBare_keeps (c : Cause) (h : Plant used resolving s) (inUse : s.pointState p ≠ .unused) :
    Plant used resolving (wantShedBare p c s) := by
  have opens (c : Cause) (free : ∀ j, s.flc.motion[p] ≠ .inFlight j) :
      Plant used resolving (changePoint p .opening c (placeMotion .shed p s)) := (h.apart _).place .shed c free inUse nofun
  unfold wantShedBare
  split
  · next slot => exact opens c (by simp [slot])
  · next slot => exact opens c (by simp [slot])
  · next slot => exact opens _ (by simp [slot])
  · exact h
  · exact h.same (modPoint_plant _ _ _ rfl)

/-- A lamp posted (R88). -/
theorem PlantBut.postLamp_keeps (m : Lamp) (h : Plant used resolving s) : Plant used resolving (postLamp m p s) :=
  PlantBut.choose_keeps (h.same (s := s) rfl)

/-- A lamp re-evaluated (R78). -/
theorem PlantBut.settleLamp_keeps (old : PointState) (h : Plant used resolving s) : Plant used resolving (settleLamp p old s) := by
  unfold settleLamp
  dsimp only
  split
  · exact (h.same (modPoint_plant s p _ rfl)).postLamp_keeps _
  · exact h

end Sys2Proof.Machine

namespace Sys2Proof.Machine

variable {s : State} {p : Fin 64} {c : Cause}

/-! ### A SHED wanted, and the commanded lamp (O25) -/

/-- The lowest point with a pending motion order of a kind is the one found (R91). -/
theorem Flc.firstMotion_lowest {f : Flc} {k : MotionKind} (waits : f.motion[p] = .pending k)
    (lowest : ∀ q : Fin 64, q < p → f.motion[q] ≠ .pending k) : f.firstMotion k = some p := by
  refine List.find?_eq_some_iff_getElem.mpr ⟨by simp [waits], p.val, by simp, by simp, fun j below => ?_⟩
  simpa using lowest ⟨j, below.trans p.isLt⟩ below

/-- A SHED that waits with no TRIP_ALL and no lower point's SHED is the order chosen (R91). -/
theorem Flc.choose_shed {f : Flc} (idle : f.inFlight = none) (quiet : f.broadcast = false)
    (waits : f.motion[p] = .pending .shed) (lowest : ∀ q : Fin 64, q < p → f.motion[q] ≠ .pending .shed) :
    f.choose = (f.leaveSlot (.motion .shed p)).attempt (.motion .shed p) 1 false := by
  simp [Flc.choose, Flc.nextOrder, idle, quiet, firstMotion_lowest waits lowest]

/-- A SHED wanted for a point with no order in its slot, or a WARN pending there (R66). -/
theorem wantShedBare_opens (c : Cause) (slot : s.flc.motion[p] = .empty ∨ s.flc.motion[p] = .pending .warn) :
    wantShedBare p c s = changePoint p .opening c (choose (s.setSlot p (.pending .shed))) := by
  rw [← placeMotion_free .shed (by rcases slot with slot | slot <;> simp [slot])]
  rcases slot with slot | slot <;> simp only [wantShedBare, slot]

/-- A SHED wanted for a point with a RESTORE pending cancels it (R66). -/
theorem wantShedBare_cancels (c : Cause) (slot : s.flc.motion[p] = .pending .restore) :
    wantShedBare p c s = changePoint p .opening .cancelled (choose (s.setSlot p (.pending .shed))) := by
  rw [← placeMotion_free .shed (by simp [slot])]
  simp only [wantShedBare, slot]

/-- A SHED wanted while one is pending (R66). -/
theorem wantShedBare_stands (c : Cause) (slot : s.flc.motion[p] = .pending .shed) : wantShedBare p c s = s := by
  simp only [wantShedBare, slot]

/-- A SHED wanted while an order of the point is in flight is deferred (R66, R67). -/
theorem wantShedBare_defers {k : MotionKind} (c : Cause) (slot : s.flc.motion[p] = .inFlight k) :
    wantShedBare p c s = s.modPoint p (fun e => { e with deferred := true }) := by
  simp only [wantShedBare, slot]

/-- The FLC does not choose while an order is in flight (R92). -/
theorem choose_busy (busy : s.flc.inFlight.isSome = true) : choose s = s := by
  obtain ⟨f, flying⟩ := Option.isSome_iff_exists.mp busy
  simp only [choose, Flc.choose_busy flying]

/-- The button is required of a point when the restart step that lists it says so (R78, R149). -/
theorem Plan.buttonRequired_iff (pl : Plan) (p : Fin 64) :
    pl.buttonRequired p = true ↔ ∃ k : Nat, pl.restartStepOf p = some k ∧ (pl.restartStep k).button = true := by
  unfold Plan.buttonRequired
  split
  · next k step => simp [step]
  · next none => simp [none]

/-- A lamp re-evaluated and found due is posted with its new value (R77, R78). -/
theorem settleLamp_due {old : PointState}
    (due : s.inUse p = true ∧ (commandedLamp s.pls.active p s.ptm.points[p] ≠ s.ptm.points[p].lamp
      ∨ (old = .unknown ∧ s.pointState p ≠ .unknown))) :
    settleLamp p old s = postLamp (commandedLamp s.pls.active p s.ptm.points[p]) p
      (s.modPoint p (fun e => { e with lamp := commandedLamp s.pls.active p s.ptm.points[p] })) :=
  if_pos (by simpa [State.inUse, State.pointState] using due)

/-- A lamp re-evaluated and not due leaves everything (R77, R78). -/
theorem settleLamp_idle {old : PointState}
    (idle : ¬ (s.inUse p = true ∧ (commandedLamp s.pls.active p s.ptm.points[p] ≠ s.ptm.points[p].lamp
      ∨ (old = .unknown ∧ s.pointState p ≠ .unknown)))) : settleLamp p old s = s :=
  if_neg (by simpa [State.inUse, State.pointState] using idle)

/-- Settles O25: a SHED wanted by the slot's content, the FLC's choice of it, and the lamp's cases. -/
theorem shedWantedBySlot : Obligations.ShedWantedBySlot := by
  refine ⟨fun s p c busy => ?_, fun s p c idle => ?_, fun pl p e => ?_, fun s p old => ⟨settleLamp_due, settleLamp_idle⟩,
    fun s p c => ⟨rfl, fun _ => rfl⟩⟩
  · have stands : choose (s.setSlot p (.pending .shed)) = s.setSlot p (.pending .shed) := choose_busy busy
    exact ⟨fun slot => by rw [wantShedBare_opens c slot, stands]; rfl,
      fun slot => by rw [wantShedBare_cancels c slot, stands]; rfl, wantShedBare_stands c,
      fun ⟨_, slot⟩ => wantShedBare_defers c slot⟩
  · refine ⟨wantShedBare_opens c, wantShedBare_cancels c, wantShedBare_stands c, fun quiet lowest => ?_⟩
    have waits : (s.setSlot p (.pending .shed)).flc.motion[p] = .pending .shed := vector_set_self ..
    have chosen := Flc.choose_shed (f := (s.setSlot p (.pending .shed)).flc) idle quiet waits fun q below => by
      have other := vector_set_other s.flc.motion p q (.pending .shed) (ne_of_gt below)
      exact fun waits => lowest q below (other ▸ waits)
    refine ⟨congrArg Flc.inFlight chosen, ?_, congrArg Flc.tx chosen⟩
    exact (congrArg (fun f : Flc => f.motion[p]) chosen).trans (vector_set_self ..)
  · have lamp : commandedLamp pl p e
        = if e.state = .await ∧ e.manual = false ∧ (∃ k : Nat, pl.restartStepOf p = some k ∧ (pl.restartStep k).button = true)
            ∧ e.buttonSeen = false then .blink else if e.state = .failed then .on else .off := by
      simp only [commandedLamp, Plan.buttonRequired_iff]
    refine ⟨fun ⟨await, manual, unseen, button⟩ => ?_, fun failed => ?_, fun other unfailed => ?_⟩
    · rw [lamp, if_pos ⟨await, manual, button, unseen⟩]
    · rw [lamp, if_neg (by simp [failed]), if_pos failed]
    · rw [lamp, if_neg (fun ⟨await, manual, button, unseen⟩ => other ⟨await, manual, unseen, button⟩), if_neg unfailed]

/-! ### A change of point state (O26) -/

/-- The entry of a point after a change of its state (R80). -/
theorem changePoint_entry (p : Fin 64) (new : PointState) (c : Cause) (s : State) :
    (changePoint p new c s).ptm.points[p] = s.ptm.points[p].enter new c := by
  rw [changePoint_points, vector_set_self]

/-- The entry of another point after a change of point state (R80). -/
theorem changePoint_entry_other (new : PointState) (c : Cause) (s : State) {q : Fin 64} (other : q ≠ p) :
    (changePoint p new c s).ptm.points[q] = s.ptm.points[q] := by
  rw [changePoint_points, vector_set_other _ _ _ _ other.symm]

/-- A change of point state is its record posted, with the new point table (R80). -/
theorem changePoint_eq (p : Fin 64) (new : PointState) (c : Cause) (s : State) :
    changePoint p new c s = post (.point p (s.pointState p) new c) { s with ptm := (changePoint p new c s).ptm } := by
  have table : (changePoint p new c s).ptm
      = { s.modPoint p (fun e => e.enter new c) with
          ptm.inrush := inrushAfter s.ptm.inrush s.pls.active.points[p].weight s.ptm.points[p].state new }.ptm := by
    simp [changePoint, State.modPoint]
  rw [table]
  rfl

/-- The manual flag stands only in the states that keep it (R82). -/
theorem PointState.keepsManual_iff (st : PointState) :
    st.keepsManual = true ↔ st = .await ∨ st = .closing ∨ st = .settling := by
  cases st <;> simp [PointState.keepsManual]

/-- Settles O26: the entry after `enter`, the inrush in use, and the record. -/
theorem pointChangeRecorded : Obligations.PointChangeRecorded := by
  intro s p new c t e
  have entry : e = s.ptm.points[p].enter new c := changePoint_entry p new c s
  rw [entry]
  refine ⟨rfl, rfl, fun other => if_neg other, fun other => if_neg other, fun manual => ?_, fun gone => ?_, fun await => ?_,
    rfl, rfl, rfl, rfl, fun q other => changePoint_entry_other new c s other, ?_, changePoint_eq p new c s⟩
  · simp only [PointEntry.enter, Bool.and_eq_true] at manual
    exact new.keepsManual_iff.mp manual.2
  · rcases gone with gone | gone <;> simp [PointEntry.enter, gone]
  · simp [PointEntry.enter, await]
  · show (changePoint p new c s).ptm.inrush = _
    rw [changePoint_inrush]
    simp only [inrushAfter, Bool.and_eq_true, Bool.not_eq_true']

end Sys2Proof.Machine

namespace Sys2Proof.Machine

variable {s : State} {p : Fin 64} {k : MotionKind}

/-! ### The results of a motion order (O27) -/

/-- The state of a point after a change of its state. -/
@[simp] theorem changePoint_pointState_same (p : Fin 64) (new : PointState) (c : Cause) (s : State) :
    (changePoint p new c s).pointState p = new := by
  rw [changePoint_pointState, if_pos rfl]

/-- A WARN DONE with a grace time: WARNED, the grace timer running (R69, R72). -/
theorem resultAt_warned (grace : s.pls.active.points[p].grace ≠ 0) : resultAt .warn p .done s
    = (changePoint p .warned .orderDone s).modPoint p
      (fun e => { e with grace := some (s.pls.active.points[p].grace * 1000) }) :=
  if_neg grace

/-- A RESTORE DONE with a settle time: SETTLING, the settle timer running (R69, R73). -/
theorem resultAt_settling (settle : s.pls.active.points[p].settle ≠ 0) : resultAt .restore p .done s
    = (changePoint p .settling .orderDone s).modPoint p
      (fun e => { e with settle := some (s.pls.active.points[p].settle * 1000) }) :=
  if_neg settle

/-- The result of the motion order of a point: none for an order whose point has left use (R69; log 19). -/
theorem applyResult_motion {f : InFlight} (own : f.order = .motion k p) (r : Result) (s : State) :
    applyResult f r s = if f.voided || s.pointState p == .unused then s else resultAt k p r s := by
  rw [applyResult, own]

/-- The deferred SHED of the point whose motion order resolved, by the state the point is left in (R67). -/
theorem takeDeferred_due {f : InFlight} (own : f.order = .motion k p) (r : Result) (waits : s.ptm.points[p].deferred = true) :
    takeDeferred f r s
      = match s.pointState p with
        | .locked | .unused => s.modPoint p (fun e => { e with deferred := false })
        | .shed => if s.abortPosts k r then wantShedBare p r.cause (s.modPoint p (fun e => { e with deferred := false }))
            else s.modPoint p (fun e => { e with deferred := false })
        | _ => wantShedBare p r.cause (s.modPoint p (fun e => { e with deferred := false })) := by
  have state : (s.modPoint p (fun e => { e with deferred := false })).pointState p = s.pointState p := by
    simp [State.pointState, State.modPoint]
  rw [takeDeferred, own]
  simp only [waits, state]
  cases s.pointState p <;> rfl

/-- When the SHED is posted even for a point shown OPEN (R152; log 38). -/
theorem State.abortPosts_iff (s : State) (k : MotionKind) (r : Result) :
    s.abortPosts k r = true ↔ k = .restore ∧ r = .outputFault ∧ s.flc.aborted = true := by
  simp [State.abortPosts, and_assoc]

/-- Settles O27: the tables of R69 and R70, then the steps of a resolution in their order. -/
theorem orderResultTables : Obligations.OrderResultTables := by
  intro s p k
  refine ⟨?shed, ?warned, fun none => if_pos none, ?settling, fun none => if_pos none, rfl, rfl, rfl, ?noReply, ?motion,
    ?other, fun f st r outs => rfl, fun st => ⟨rfl, fun v => rfl⟩, fun before => ⟨fun same => if_pos same, fun new => if_neg new⟩⟩
  case shed =>
    rintro t rfl
    exact ⟨changePoint_pointState_same .., by simp [resultAt, resultDone, changePoint_points, PointEntry.enter]⟩
  case warned =>
    rintro t rfl grace
    rw [resultAt_warned grace]
    simp [State.pointState, State.modPoint, changePoint_points, PointEntry.enter]
  case settling =>
    rintro t rfl settle
    rw [resultAt_settling settle]
    simp [State.pointState, State.modPoint, changePoint_points, PointEntry.enter]
  case noReply =>
    rintro (rfl | rfl) <;> rfl
  case motion =>
    intro f r own
    refine ⟨fun gone => ?_, fun live used => ?_, fun none => ?_, fun waits => ⟨fun rests => ?_, fun shed posts => ?_,
      fun shed posts => ?_, fun unlocked unshed used => ?_⟩⟩
    · rw [applyResult_motion own, if_pos (by simpa using gone)]
    · rw [applyResult_motion own, if_neg (by simp [live, used])]
    · simp only [takeDeferred, own, none, if_true]
    · rw [takeDeferred_due own r waits]
      rcases rests with rests | rests <;> simp only [rests]
    · rw [takeDeferred_due own r waits]
      simp only [shed]
      exact if_neg (mt (s.abortPosts_iff k r).mp posts)
    · rw [takeDeferred_due own r waits]
      simp only [shed]
      rw [if_pos ((s.abortPosts_iff k r).mpr posts)]
      cases r <;> rfl
    · rw [takeDeferred_due own r waits]
      split
      · next state => exact absurd state unlocked
      · next state => exact absurd state used
      · next state => exact absurd state unshed
      · cases r <;> rfl
  case other =>
    intro f r other
    cases own : f.order with
    | motion j q => exact absurd own (other j q)
    | lamp | poll | tripAll => simp only [applyResult, takeDeferred, own, and_self]

/-! ### Feedback (O28) -/

/-- The entry of a point after feedback at it holds what was reported: nothing that follows changes contact, lockout or relay (R74). -/
def PointEntry.reports (e : PointEntry) (contact : Contact) (lockout : Lockout) (relay : Relay) : Prop :=
  e.contact = contact ∧ e.lockout = lockout ∧ e.relay = relay

variable {contact : Contact} {lockout : Lockout} {relay : Relay}

/-- A change of point state leaves what was reported. -/
theorem changePoint_reports (new : PointState) (c : Cause) (h : s.ptm.points[p].reports contact lockout relay) :
    (changePoint p new c s).ptm.points[p].reports contact lockout relay := by
  rw [changePoint_entry]
  exact h

/-- The lockout applied leaves what was reported: it changes the point's state or nothing (R74, R75). -/
theorem applyLockout_reports (o : OutputStatus) (h : s.ptm.points[p].reports contact lockout relay) :
    (applyLockout p o s).ptm.points[p].reports contact lockout relay := by
  have external (new : PointState) : (externalChange p new s).ptm.points[p].reports contact lockout relay := by
    simpa [externalChange] using changePoint_reports new .feedback h
  unfold applyLockout
  split
  · split
    · exact h
    · exact changePoint_reports _ _ (by simpa using h)
  · split
    · exact changePoint_reports _ _ h
    · exact changePoint_reports _ _ h
    · unfold compareContact
      split
      case h_6 => exact changePoint_reports _ _ h
      case h_1 | h_2 | h_3 =>
        split
        · exact h
        · exact external _
      case h_4 | h_5 =>
        split
        · exact external _
        · exact h
      all_goals exact h

/-- A button latch leaves what was reported (R76). -/
theorem applyButton_reports (o : OutputStatus) (h : s.ptm.points[p].reports contact lockout relay) :
    (applyButton p o s).ptm.points[p].reports contact lockout relay := by
  unfold applyButton
  split
  · rw [State.modPoint, vector_set_self]
    exact h
  · exact h

/-- The entry of a point after a change of its state with its lamp. -/
theorem movePoint_entry (p : Fin 64) (new : PointState) (c : Cause) (s : State) :
    ∃ m, (movePoint p new c s).ptm.points[p] = { s.ptm.points[p].enter new c with lamp := m } := by
  obtain ⟨m, points⟩ := movePoint_points p new c s
  exact ⟨m, by simp only [points, vector_set_self]⟩

/-- The entry of another point after a change of point state with its lamp. -/
theorem movePoint_entry_other (new : PointState) (c : Cause) (s : State) {q : Fin 64} (other : q ≠ p) :
    (movePoint p new c s).ptm.points[q] = s.ptm.points[q] := by
  obtain ⟨m, points⟩ := movePoint_points p new c s
  simp only [points, vector_set_other _ _ _ _ other.symm]

/-- A point of an unreachable station, its state kept or not (R77). -/
theorem unreachablePoint_inUse (inUse : s.inUse p = true) : unreachablePoint s p
    = if s.pointState p = .energised ∨ s.pointState p = .shed ∨ s.pointState p = .locked ∨ s.pointState p = .failed then
        movePoint p .unknown .noReply
          (s.modPoint p (fun e => { e with contact := .unknown, lockout := .unknown, relay := .unknown }))
      else s.modPoint p (fun e => { e with contact := .unknown, lockout := .unknown, relay := .unknown }) := by
  have state : (s.modPoint p (fun e => { e with contact := .unknown, lockout := .unknown, relay := .unknown })).pointState p
      = s.pointState p := by simp [State.pointState, State.modPoint]
  simp only [unreachablePoint, inUse, state, if_true]
  cases s.pointState p <;> simp

/-- Settles O28: the tables of R74, R75 and R77. -/
theorem feedbackTables : Obligations.FeedbackTables := by
  refine ⟨fun s p o => ⟨?unused, ?reports, ?locks, ?stays, ?unlocks, ?shows, ?fails, ?agreesClosed, ?agreesOpen, ?opens,
    ?closes, ?moving⟩, fun s p o inUse => ⟨if_pos inUse, ?pressed, ?released⟩, fun s p => ⟨?idle, ?unreachable⟩,
    fun s st => rfl⟩
  case unused =>
    intro idle
    simp only [feedbackAt, idle, Bool.false_eq_true, if_false]
  case reports =>
    intro inUse
    rw [feedbackAt, if_pos inUse]
    exact applyButton_reports o (applyLockout_reports o (by simp [State.modPoint, PointEntry.reports]))
  case locks =>
    intro locked unlocked used
    rw [applyLockout, if_pos locked, if_neg (by simp [unlocked, used])]
  case stays =>
    intro locked rests
    rw [applyLockout, if_pos locked, if_pos rests]
  case unlocks | shows =>
    intro normal state
    simp only [applyLockout, normal, state]
    rfl
  case fails =>
    intro normal state
    simp only [applyLockout, normal, state, compareContact]
    rfl
  case agreesClosed | opens =>
    rintro normal contact (state | state | state) <;>
      simp [applyLockout, normal, contact, state, compareContact, externalChange]
  case agreesOpen | closes =>
    rintro normal contact (state | state) <;> simp [applyLockout, normal, contact, state, compareContact, externalChange]
  case moving =>
    rintro normal (state | state | state) <;> simp [applyLockout, normal, state, compareContact]
  case pressed => exact fun button await => if_pos ⟨button, await⟩
  case released =>
    rintro (button | other)
    · exact if_neg (by simp [button])
    · exact if_neg (by simp [other])
  case idle =>
    intro idle
    simp only [unreachablePoint, idle, Bool.false_eq_true, if_false]
  case unreachable =>
    intro inUse
    rw [unreachablePoint_inUse inUse]
    split
    · next leaves =>
      obtain ⟨m, entry⟩ := movePoint_entry p .unknown .noReply
        (s.modPoint p (fun e => { e with contact := .unknown, lockout := .unknown, relay := .unknown }))
      have kept : (s.modPoint p (fun e => { e with contact := .unknown, lockout := .unknown, relay := .unknown })).ptm.points[p]
          = { s.ptm.points[p] with contact := .unknown, lockout := .unknown, relay := .unknown } := vector_set_self ..
      simp only [State.pointState, entry, kept]
      exact ⟨rfl, rfl, rfl, fun q other => (movePoint_entry_other _ _ _ other).trans (vector_set_other _ _ _ _ other.symm),
        fun _ => ⟨rfl, rfl⟩, fun stays => absurd leaves stays⟩
    · next stays =>
      refine ⟨?_, ?_, ?_, fun q other => vector_set_other _ _ _ _ other.symm, fun leaves => absurd leaves stays, fun _ => rfl⟩
      all_goals simp [State.modPoint]

end Sys2Proof.Machine

namespace Sys2Proof.Machine

variable {s t : State} {p i : Fin 64}

/-! ### The timers of a point (O29) -/

/-- A state that differs at most in the points, the loop, the journal, the ports and the faults. -/
theorem State.eq_of_rest (siu : t.siu = s.siu) (mev : t.mev = s.mev) (dtu : t.dtu = s.dtu) (pls : t.pls = s.pls)
    (seq : t.seq = s.seq) (ctk : t.ctk = s.ctk) (iml : t.iml = s.iml) (free : t.free = s.free) (pending : t.pending = s.pending) :
    t = { s with ptm := t.ptm, flc := t.flc, jrn := t.jrn, spu := t.spu, fmn := t.fmn } :=
  State.ext_blocks siu mev dtu pls rfl seq ctk rfl rfl rfl rfl iml free pending

/-- A motion order in its slot, waiting or gone into flight from there. -/
def Flc.holds (f : Flc) (k : MotionKind) (p : Fin 64) : Prop := f.motion[p] = .pending k ∨ f.motion[p] = .inFlight k

/-- The choice keeps a motion order in its slot, or sends it into flight (R91). -/
theorem Flc.choose_holds {f : Flc} {k : MotionKind} (h : f.holds k p) : f.choose.holds k p := by
  rcases h with waits | flies
  · rcases f.choose_cases with stays | ⟨o, -, pending, chose⟩
    · exact .inl (stays.symm ▸ waits)
    · rw [chose]
      by_cases own : o = .motion k p
      · exact .inr (by rw [own]; exact vector_set_self ..)
      · exact .inl (leaveSlot_pending pending (other := .motion k p) waits own)
  · exact .inr (choose_motion_inFlight flies)

/-- A lamp re-evaluated keeps a motion order in its slot, or sends it into flight. -/
theorem settleLamp_holds {k : MotionKind} {q : Fin 64} (old : PointState) (h : s.flc.holds k p) :
    (settleLamp q old s).flc.holds k p := by
  unfold settleLamp
  dsimp only
  split
  · exact Flc.choose_holds h
  · exact h

/-- The inrush in use after a lamp is re-evaluated (R78). -/
@[simp] theorem settleLamp_inrush (p : Fin 64) (old : PointState) (s : State) :
    (settleLamp p old s).ptm.inrush = s.ptm.inrush := by
  unfold settleLamp
  dsimp only
  split <;> simp

/-- The entry of a point after its lamp is re-evaluated. -/
theorem settleLamp_entry (p : Fin 64) (old : PointState) (s : State) :
    ∃ m, (settleLamp p old s).ptm.points[p] = { s.ptm.points[p] with lamp := m } := by
  obtain ⟨m, points⟩ := settleLamp_points p old s
  exact ⟨m, by simp only [points, vector_set_self]⟩

/-- The entry of another point after a lamp is re-evaluated. -/
theorem settleLamp_entry_other (old : PointState) (s : State) {q : Fin 64} (other : q ≠ p) :
    (settleLamp p old s).ptm.points[q] = s.ptm.points[q] := by
  obtain ⟨m, points⟩ := settleLamp_points p old s
  simp only [points, vector_set_other _ _ _ _ other.symm]

/-- A SHED wanted for a point with no order in its slot: OPENING, and the SHED posted (R66). -/
theorem wantShed_opens (c : Cause) (slot : s.flc.motion[p] = .empty) :
    (∃ m, (wantShed p c s).ptm.points[p] = { s.ptm.points[p].enter .opening c with lamp := m })
      ∧ (∀ q : Fin 64, q ≠ p → (wantShed p c s).ptm.points[q] = s.ptm.points[q])
      ∧ (wantShed p c s).ptm.inrush = inrushAfter s.ptm.inrush s.pls.active.points[p].weight (s.pointState p) .opening
      ∧ (wantShed p c s).flc.holds .shed p := by
  rw [wantShed, wantShedBare_opens c (.inl slot)]
  obtain ⟨m, entry⟩ := settleLamp_entry p s.ptm.points[p].state (changePoint p .opening c (choose (s.setSlot p (.pending .shed))))
  refine ⟨⟨m, ?_⟩, fun q other => ?_, ?_, settleLamp_holds _ ?_⟩
  · rw [entry, changePoint_entry]
    rfl
  · rw [settleLamp_entry_other _ _ other, changePoint_entry_other _ _ _ other]
    rfl
  · rw [settleLamp_inrush, changePoint_inrush]
    rfl
  · rw [(changePoint_frame _ _ _ _).2.2.2.2.2.2.1]
    exact Flc.choose_holds (.inl (vector_set_self ..))

/-- Settles O29: the SHED wanted at the end of the grace time, and the change to ENERGISED at the end of the settle time. -/
theorem pointTimersRunOut : Obligations.PointTimersRunOut := by
  refine ⟨fun s p runs warned slot => ?_, fun s p runs settling => ?_⟩
  · obtain ⟨⟨m, entry⟩, others, inrush, holds⟩ := wantShed_opens .orderDone slot
    refine ⟨wantShed p .orderDone s, congrArg Host.Outcome.next (if_pos ⟨runs, warned⟩), ?_, ?_, ?_, ?_, holds, others, ?_⟩
    · simp only [State.pointState, entry, PointEntry.enter]
    · simp only [entry, PointEntry.enter]
    · simp [entry, PointEntry.enter]
    · simp [inrush, inrushAfter, warned, PointState.counts]
    · apply State.eq_of_rest <;> simp
  · obtain ⟨m, entry⟩ := movePoint_entry p .energised .orderDone s
    refine ⟨movePoint p .energised .orderDone s, congrArg Host.Outcome.next (if_pos ⟨runs, settling⟩), ?_, ?_, ?_, ?_, ?_,
      fun q other => movePoint_entry_other _ _ _ other, ?_⟩
    · simp only [State.pointState, entry, PointEntry.enter]
    · simp only [entry, PointEntry.enter]
    · simp [entry, PointEntry.enter]
    · simp [entry, PointEntry.enter, PointState.keepsManual]
    · rw [movePoint, settleLamp_inrush, changePoint_inrush]
      simp [inrushAfter, settling, PointState.counts]
    · apply State.eq_of_rest <;> simp

/-! ### Points by hand (O59) -/

/-- A request with one point number, for the point of that number (R160). -/
theorem withPoint_of_number {b : Byte} (number : b.toNat = i.val) (port : Fin 3) (s : State) (taken : Fin 64 → State) :
    withPoint port [b] s taken = taken i := by
  have below : b.toNat < 64 := number ▸ i.isLt
  rw [show i = ⟨b.toNat, below⟩ from Fin.ext number.symm]
  exact dif_pos below

/-- MANUAL_SHED at a free port with the OPERATE right, for a point of the table (R81). -/
theorem exec_manualShed {port : Fin 3} {b : Byte} (ready : Ready s port) (right : s.pls.active.rights[port].operate = true)
    (number : b.toNat = i.val) : exec (.manualShed port [b]) s = .next (ownerManualShed port i (s.taken port 0x30)) := by
  rw [exec_taken ready (by simp) rfl, ← withPoint_of_number number port (s.taken port 0x30) fun i => ownerManualShed port i _]
  exact congrArg _ (withRight_of_held right _ _)

/-- MANUAL_RESTORE at a free port with the OPERATE right, for a point of the table (R82). -/
theorem exec_manualRestore {port : Fin 3} {b : Byte} (ready : Ready s port) (right : s.pls.active.rights[port].operate = true)
    (number : b.toNat = i.val) : exec (.manualRestore port [b]) s = .next (ownerManualRestore port i (s.taken port 0x31)) := by
  rw [exec_taken ready (by simp) rfl, ← withPoint_of_number number port (s.taken port 0x31) fun i => ownerManualRestore port i _]
  exact congrArg _ (withRight_of_held right _ _)

/-- MANUAL_SHED of an ENERGISED or FAILED point (R81). -/
theorem ownerManualShed_wanted (port : Fin 3) (allowed : s.seq.state = .watch ∨ s.seq.state = .halted)
    (loaded : s.pointState i = .energised ∨ s.pointState i = .failed) :
    ownerManualShed port i s = reply port .ok [] (wantShed i .manual s) := by
  rw [ownerManualShed, if_pos allowed]
  rcases loaded with state | state <;> simp only [state]

/-- MANUAL_SHED of a SHED point (R81). -/
theorem ownerManualShed_stands (port : Fin 3) (allowed : s.seq.state = .watch ∨ s.seq.state = .halted)
    (shed : s.pointState i = .shed) : ownerManualShed port i s = reply port .ok [] s := by
  rw [ownerManualShed, if_pos allowed]
  simp only [shed]

/-- MANUAL_SHED refused: the sequence state or the point's state does not allow it (R81). -/
theorem ownerManualShed_refused (port : Fin 3)
    (refused : ¬ (s.seq.state = .watch ∨ s.seq.state = .halted)
      ∨ (s.pointState i ≠ .energised ∧ s.pointState i ≠ .failed ∧ s.pointState i ≠ .shed)) :
    ownerManualShed port i s = reply port .wrongState [] s := by
  unfold ownerManualShed
  split
  · next allowed =>
    obtain ⟨energised, failed, shed⟩ := refused.resolve_left (not_not_intro allowed)
    split
    · next state => exact absurd state energised
    · next state => exact absurd state failed
    · next state => exact absurd state shed
    · rfl
  · rfl

/-- MANUAL_RESTORE of a SHED or FAILED point in WATCH (R82). -/
theorem ownerManualRestore_placed (port : Fin 3) (watch : s.seq.state = .watch)
    (restorable : s.pointState i = .shed ∨ s.pointState i = .failed) : ownerManualRestore port i s = placeManual port i s := by
  rw [ownerManualRestore, if_pos watch]
  rcases restorable with state | state <;> simp only [state]

/-- MANUAL_RESTORE refused: the sequence state or the point's state does not allow it (R82). -/
theorem ownerManualRestore_refused (port : Fin 3)
    (refused : ¬ (s.seq.state = .watch ∧ (s.pointState i = .shed ∨ s.pointState i = .failed))) :
    ownerManualRestore port i s = reply port .wrongState [] s := by
  unfold ownerManualRestore
  split
  · next watch =>
    split
    · next state => exact absurd ⟨watch, .inl state⟩ refused
    · next state => exact absurd ⟨watch, .inr state⟩ refused
    · rfl
  · rfl

/-- A point placed at the gate by hand: AWAIT with cause MANUAL, its manual flag yes and button seen no (R82). -/
theorem placed_by_hand (i : Fin 64) (s : State) :
    ∃ m, (movePoint i .await .manual (s.modPoint i (fun e => { e with manual := true }))).ptm.points[i]
      = { s.ptm.points[i].enter .await .manual with manual := true, lamp := m } := by
  obtain ⟨m, entry⟩ := movePoint_entry i .await .manual (s.modPoint i (fun e => { e with manual := true }))
  have flagged : (s.modPoint i (fun e => { e with manual := true })).ptm.points[i] = { s.ptm.points[i] with manual := true } :=
    vector_set_self ..
  exact ⟨m, by rw [entry, flagged]; rfl⟩

/-- Settles O59: the answers of both requests, and what each does to its point. -/
theorem manualShedAndRestore : Obligations.ManualShedAndRestore := by
  refine ⟨fun s p i b ready right number => ?_, fun s p i b ready right number => ?_⟩
  · rw [exec_manualShed ready right number]
    refine ⟨fun allowed loaded => ⟨?_, fun slot => ?_⟩, fun allowed shed => ?_, fun refused => ?_⟩
    · rw [← reply_replied p 0x30 .ok [] _ (by simp), ownerManualShed_wanted (s := s.taken p 0x30) p allowed loaded]
    · obtain ⟨⟨m, entry⟩, -⟩ := wantShed_opens (s := s.taken p 0x30) .manual slot
      simp only [State.pointState, entry, PointEntry.enter, and_self]
    · rw [← reply_answered, ownerManualShed_stands (s := s.taken p 0x30) p allowed shed]
    · rw [← reply_answered, ownerManualShed_refused (s := s.taken p 0x30) p refused]
  · rw [exec_manualRestore ready right number]
    refine ⟨fun ⟨watch, restorable⟩ fits => ?_, fun ⟨watch, restorable⟩ above => ?_, fun refused => ?_⟩
    · rw [ownerManualRestore_placed (s := s.taken p 0x31) p watch restorable]
      obtain ⟨m, entry⟩ := placed_by_hand i (s.taken p 0x31)
      refine ⟨movePoint i .await .manual ((s.taken p 0x31).modPoint i (fun e => { e with manual := true })), ?_, rfl, ?_, ?_, ?_,
        ?_, ?_, fun q other => ?_⟩
      · rw [← reply_replied p 0x31 .ok [] _ (by simp)]
        exact congrArg _ (if_pos fits)
      · apply State.eq_of_rest <;> simp
      · simp only [State.pointState, entry, PointEntry.enter]
      · simp only [entry, PointEntry.enter]
      · rw [entry]
      · rw [entry]
        simp [PointEntry.enter]
      · exact (movePoint_entry_other _ _ _ other).trans (vector_set_other _ _ _ _ other.symm)
    · rw [ownerManualRestore_placed (s := s.taken p 0x31) p watch restorable, ← reply_answered]
      exact congrArg _ (if_neg above)
    · rw [ownerManualRestore_refused (s := s.taken p 0x31) p refused, reply_answered]

end Sys2Proof.Machine

namespace Sys2Proof.Machine

/-! ### The plant's invariant over the Sequencer (R119 to R154) -/

variable {used : Fin 64 → Bool} {resolving : Bool} {s : State} {p : Fin 64}

/-- The plan, the points and the field loop stand. -/
theorem PlantBut.frame {t : State} (h : Plant used resolving s) (pls : t.pls = s.pls) (ptm : t.ptm = s.ptm)
    (flc : t.flc = s.flc) : Plant used resolving t :=
  h.same (plant_of_blocks (by rw [pls]) ptm flc)

/-- What each step of a fold keeps, the fold keeps. -/
theorem PlantBut.foldl {α : Type} {g : State → α → State}
    (one : ∀ {t : State} (a : α), Plant used resolving t → Plant used resolving (g t a))
    (l : List α) (h : Plant used resolving s) : Plant used resolving (l.foldl g s) :=
  List.foldlRecOn l g h (fun _ kept a _ => one a kept)

/-- A change from one still state to another, with the lamp. -/
theorem PlantBut.stillMove {new : PointState} (c : Cause) (h : Plant used resolving s) (old : (s.pointState p).still)
    (inUse : s.pointState p ≠ .unused) (still : new.still) (stays : new ≠ .unused)
    (counts : new.counts = true → (s.pointState p).counts = true) : Plant used resolving (movePoint p new c s) :=
  (h.stillChange c old inUse still stays counts).settleLamp_keeps _

/-- A SHED wanted for a point in use, with the lamp (R66). -/
theorem PlantBut.wantShed_keeps (c : Cause) (h : Plant used resolving s) (inUse : s.pointState p ≠ .unused) :
    Plant used resolving (wantShed p c s) :=
  (h.wantShedBare_keeps c inUse).settleLamp_keeps _

/-- A still state fits the slot after a withdrawal, unless the order in flight is the point's own (R90). -/
theorem PlantBut.withdrawn_fits {new : PointState} (h : Plant used resolving s) (still : new.still)
    (stops : (s.pointState p).still ∨ ∀ k, s.flc.motion[p] ≠ .inFlight k) :
    SlotFits (withdraw p s).flc.motion[p] new (withdraw p s).flc.inFlight := by
  cases slot : s.flc.motion[p] with
  | empty =>
    rw [show withdraw p s = s by simp only [withdraw, slot], slot]
    exact slotFits_empty still _
  | pending k =>
    rw [withdraw_pending slot]
    exact slotFits_empty still _
  | inFlight k =>
    rw [show withdraw p s = s by simp only [withdraw, slot]]
    exact (h.slots p nofun).still (stops.resolve_right fun free => free k slot) still

/-- A point in use that becomes still with its pending order withdrawn. -/
theorem PlantBut.stopped {new : PointState} (c : Cause) (h : Plant used resolving s) (inUse : s.pointState p ≠ .unused)
    (still : new.still) (stays : new ≠ .unused) (rests : new.counts = false)
    (stops : (s.pointState p).still ∨ ∀ k, s.flc.motion[p] ≠ .inFlight k) :
    Plant used resolving (changePoint p new c (withdraw p s)) := by
  have state : (withdraw p s).pointState p = s.pointState p := by simp [State.pointState]
  exact (h.apart _).withdraw_keeps.enter c (by rw [state]; exact iff_of_false stays inUse) (h.withdrawn_fits still stops)
    (fun rises => by rw [rests] at rises; cases rises)

/-- A point cancelled: in a still state, or with its order pending (R83, R152). -/
theorem PlantBut.cancelPoint_keeps (h : Plant used resolving s) (inUse : s.pointState p ≠ .unused)
    (stops : (s.pointState p).still ∨ ∀ k, s.flc.motion[p] ≠ .inFlight k) : Plant used resolving (cancelPoint p s) :=
  (h.stopped (new := .shed) .cancelled inUse (by simp [PointState.still]) nofun rfl stops).settleLamp_keeps _

/-- A point in AWAIT cancelled. -/
theorem PlantBut.cancelAwaiting (h : Plant used resolving s) (await : s.pointState p = .await) :
    Plant used resolving (cancelPoint p s) :=
  h.cancelPoint_keeps (by simp [await]) (.inl (by simp [await, PointState.still]))

/-- A point whose RESTORE is pending cancelled. -/
theorem PlantBut.cancelClosing (h : Plant used resolving s) (closing : s.pointState p = .closing)
    (waits : s.flc.motion[p] = .pending .restore) : Plant used resolving (cancelPoint p s) :=
  h.cancelPoint_keeps (by simp [closing]) (.inr (by simp [waits]))

/-! #### The shed chain -/

/-- What the start of a shed step does with a point (R122). -/
theorem PlantBut.shedStepPoint_keeps (p : Fin 64) (h : Plant used resolving s) : Plant used resolving (shedStepPoint s p) := by
  have wanted (inUse : s.pointState p ≠ .unused) := h.wantShed_keeps (c := .orderDone) inUse
  unfold shedStepPoint
  split
  case h_1 | h_2 | h_3 | h_4 | h_10 => exact h
  case h_5 energised =>
    split
    · exact wanted (by simp [energised])
    · next slot =>
      split
      · exact ((h.apart _).place .warn .orderDone (by simp [slot]) (by simp [energised]) nofun).settleLamp_keeps _
      · exact wanted (by simp [energised])
    · exact wanted (by simp [energised])
  case h_6 state | h_7 state | h_8 state => exact wanted (by simp [state])
  case h_9 state | h_11 state | h_12 state =>
    split
    · exact wanted (by simp [state])
    · exact h
    · exact h

/-- The start of a shed step (R121, R122). -/
theorem PlantBut.startShedStep_keeps (k : Nat) (h : Plant used resolving s) : Plant used resolving (startShedStep k s) :=
  PlantBut.foldl (fun p => PlantBut.shedStepPoint_keeps p) _ (h.frame (by simp) (by simp) (by simp))

/-- What follows a shed step's DONE (R126). -/
theorem PlantBut.afterShedDone_keeps (k : Nat) (h : Plant used resolving s) : Plant used resolving (afterShedDone k s) := by
  unfold afterShedDone
  dsimp only
  split
  · exact PlantBut.startShedStep_keeps _ (h.frame rfl rfl rfl)
  · exact h.frame (by simp) (by simp) (by simp)

/-- A shed step becomes DONE (R126). -/
theorem PlantBut.shedStepDone_keeps (k : Nat) (h : Plant used resolving s) : Plant used resolving (shedStepDone k s) :=
  PlantBut.afterShedDone_keeps k (h.frame (by simp) (by simp) (by simp))

/-- A manual restore withdrawn (R83). -/
theorem PlantBut.withdrawManual_keeps (p : Fin 64) (h : Plant used resolving s) : Plant used resolving (withdrawManual s p) := by
  unfold withdrawManual
  split
  · split
    · next await => exact h.cancelAwaiting await
    · next closing =>
      split
      · next waits => exact h.cancelClosing closing waits
      · exact h
    · exact h
  · exact h

/-- SHEDDING out of WATCH (R119). -/
theorem PlantBut.shedFromWatch_keeps (h : Plant used resolving s) : Plant used resolving (shedFromWatch s) :=
  PlantBut.startShedStep_keeps 0 (PlantBut.foldl (fun p => PlantBut.withdrawManual_keeps p) _
    (h.frame (by simp) (by simp) (by simp)))

/-- The check of R119. -/
theorem PlantBut.checkShedding_keeps (h : Plant used resolving s) : Plant used resolving (checkShedding s) := by
  unfold checkShedding
  split
  · split
    · exact h.shedFromWatch_keeps
    · exact PlantBut.startShedStep_keeps _ (h.frame (by simp) (by simp) (by simp))
    all_goals exact h
  · exact h

/-- The close of an event (R118). -/
theorem PlantBut.closeEvent_keeps (h : Plant used resolving s) : Plant used resolving (closeEvent s) := by
  obtain ⟨-, flc, -, -, ptm⟩ := s.shut_items
  have shut : Plant used resolving s.shut :=
    h.same (by simp only [State.plant, flc, ptm, show s.shut.pls = s.pls by simp [State.shut]])
  rw [closeEvent_eq]
  split
  · exact shut
  · exact PlantBut.checkShedding_keeps (shut.frame (by simp) (by simp) (by simp))

/-- The quiet rule (R117). -/
theorem PlantBut.quietRule_keeps (h : Plant used resolving s) : Plant used resolving (quietRule s) := by
  unfold quietRule
  split
  · exact h.closeEvent_keeps
  · exact h

/-- Enforcement at a point (R128). -/
theorem PlantBut.enforce_keeps (p : Fin 64) (h : Plant used resolving s) : Plant used resolving (enforce p s) := by
  unfold enforce
  split
  · next due => exact h.wantShed_keeps _ (by simp [due.2.2.1])
  · exact h

/-- Enforcement at the start-up decision (R111). -/
theorem PlantBut.enforceAtStart_keeps (p : Fin 64) (h : Plant used resolving s) : Plant used resolving (enforceAtStart s p) := by
  unfold enforceAtStart
  split
  · next due => exact h.wantShed_keeps _ (by simp [due.2.1])
  · exact h

/-- The start-up decision (R111). -/
theorem PlantBut.startupDecision_keeps (h : Plant used resolving s) : Plant used resolving (startupDecision s) := by
  unfold startupDecision
  dsimp only
  split
  · refine PlantBut.foldl (fun p => PlantBut.enforceAtStart_keeps p) _ ?_
    split <;> exact h.frame (by simp) (by simp) (by simp)
  · have watching : Plant used resolving (setSequence .watch s) := h.frame (by simp) (by simp) (by simp)
    split
    · exact watching.shedFromWatch_keeps
    · split
      · exact watching.closeEvent_keeps
      · exact watching

/-- The end of the poll round (R103). -/
theorem PlantBut.checkRound_keeps (h : Plant used resolving s) : Plant used resolving (checkRound s) := by
  unfold checkRound
  split
  · exact h.startupDecision_keeps
  · exact h

/-! #### The restart chain and the gate -/

/-- A still point in use placed in AWAIT (R144). -/
theorem PlantBut.placeAwait_keeps (h : Plant used resolving s) (old : (s.pointState p).still) (inUse : s.pointState p ≠ .unused) :
    Plant used resolving (placeAwait p s) :=
  h.stillMove _ old inUse (by simp [PointState.still]) nofun nofun

/-- What the start of a restart step does with a point (R143). -/
theorem PlantBut.restartStepPoint_keeps (p : Fin 64) (h : Plant used resolving s) : Plant used resolving (restartStepPoint s p) := by
  unfold restartStepPoint
  split
  case h_1 => exact h.frame (by simp) (by simp) (by simp)
  case h_2 state | h_3 state | h_4 state => exact h.placeAwait_keeps (by simp [state, PointState.still]) (by simp [state])
  all_goals exact h

/-- The start of a restart step (R143). -/
theorem PlantBut.startRestartStep_keeps (k : Nat) (h : Plant used resolving s) : Plant used resolving (startRestartStep k s) :=
  PlantBut.foldl (fun p => PlantBut.restartStepPoint_keeps p) _ (h.frame (by simp) (by simp) (by simp))

/-- What follows a restart step's DONE (R147). -/
theorem PlantBut.afterRestartDone_keeps (k : Nat) (h : Plant used resolving s) : Plant used resolving (afterRestartDone k s) := by
  unfold afterRestartDone
  dsimp only
  split
  · exact PlantBut.startRestartStep_keeps _ (h.frame rfl rfl rfl)
  · exact h.frame rfl rfl rfl

/-- The restart begins (R142). -/
theorem PlantBut.beginRestart_keeps (h : Plant used resolving s) : Plant used resolving (beginRestart s) := by
  unfold beginRestart
  dsimp only
  split
  · exact PlantBut.startRestartStep_keeps _ (h.frame rfl rfl rfl)
  · exact h.frame rfl rfl rfl

/-- The first point of the gate is eligible (R149). -/
theorem gateHead_eligible {s : State} {p : Fin 64} (h : s.gateHead = some p) : s.gateEligible p = true := by
  refine List.foldlRecOn (motive := fun best => ∀ q, best = some q → s.gateEligible q = true) allPoints _ (fun _ own => by cases own)
    (fun best kept r _ q => ?_) p h
  split
  · next eligible =>
    split
    · rintro ⟨⟩
      exact eligible
    · split
      · rintro ⟨⟩
        exact eligible
      · exact fun own => kept q own
  · exact kept q

/-- A point that the gate admits waits in AWAIT with its slot EMPTY, and its weight fits (R149; log 19). -/
theorem gateAdmits_items {s : State} {p : Fin 64} (h : s.gateAdmits = some p) :
    s.pointState p = .await ∧ s.flc.motion[p] = .empty
      ∧ s.ptm.inrush + s.pls.active.points[p].weight ≤ s.pls.active.params.inrushBudget := by
  unfold State.gateAdmits at h
  split at h
  · split at h
    · next q head =>
      split at h
      · next fits =>
        cases h
        have eligible := gateHead_eligible head
        simp only [State.gateEligible, Bool.and_eq_true, beq_iff_eq] at eligible
        exact ⟨eligible.1.1, eligible.1.2, of_decide_eq_true fits⟩
      · cases h
    · cases h
  · cases h

/-- The gate posts a RESTORE for the point it admits (R150). -/
theorem PlantBut.gatePost_keeps (h : Plant used resolving s) (admits : s.gateAdmits = some p) : Plant used resolving (gatePost p s) := by
  obtain ⟨await, empty, fits⟩ := gateAdmits_items admits
  exact ((h.apart _).place .restore .orderDone (by simp [empty]) (by simp [await]) (fun _ _ => fits)).settleLamp_keeps _

/-- What follows of itself, with the condition under which it does (R120, R123, R145, R148, R150). -/
theorem settleOnce_guards {s s' : State} (h : settleOnce s = some s') :
    (s.shedRunning s.seq.pointer = true ∧ s' = shedStepDone s.seq.pointer s)
      ∨ (s.restartRunning s.seq.restartPointer = true ∧ s' = restartStepDone s.seq.restartPointer s)
      ∨ (s.restartComplete = true ∧ s' = completeRestart s) ∨ ∃ p, s.gateAdmits = some p ∧ s' = gatePost p s := by
  unfold settleOnce at h
  split at h
  · next met => exact .inl ⟨(Bool.and_eq_true _ _ ▸ met).1, (Option.some.inj h).symm⟩
  split at h
  · next met => exact .inr (.inl ⟨(Bool.and_eq_true _ _ ▸ met).1, (Option.some.inj h).symm⟩)
  split at h
  · next complete => exact .inr (.inr (.inl ⟨complete, (Option.some.inj h).symm⟩))
  split at h
  · next q admits => exact .inr (.inr (.inr ⟨q, admits, (Option.some.inj h).symm⟩))
  · cases h

/-- A restart step becomes DONE (R147). -/
theorem PlantBut.restartStepDone_keeps (k : Nat) (h : Plant used resolving s) : Plant used resolving (restartStepDone k s) :=
  PlantBut.afterRestartDone_keeps k (h.frame (by simp) (by simp) (by simp))

/-- The completion of a restart (R148). -/
theorem PlantBut.completeRestart_keeps (h : Plant used resolving s) : Plant used resolving (completeRestart s) :=
  PlantBut.closeEvent_keeps (h.frame (by simp) (by simp) (by simp))

/-- Everything that follows of itself. -/
theorem PlantBut.settle_keeps (h : Plant used resolving s) : Plant used resolving (settle s) := by
  unfold settle
  refine settleFor_keeps (Plant used resolving) (fun t t' kept follows => ?_) settleFuel s h
  rcases settleOnce_guards follows with ⟨-, next⟩ | ⟨-, next⟩ | ⟨-, next⟩ | ⟨p, admits, next⟩ <;> rw [next]
  · exact kept.shedStepDone_keeps _
  · exact kept.restartStepDone_keeps _
  · exact kept.completeRestart_keeps
  · exact kept.gatePost_keeps admits

/-! #### The abort, the veto stop and a change of level -/

/-- A pending RESTORE cancelled (R152, R154). -/
theorem PlantBut.cancelPendingRestore_keeps (p : Fin 64) (h : Plant used resolving s) :
    Plant used resolving (cancelPendingRestore s p) := by
  unfold cancelPendingRestore
  split
  · next due => exact h.cancelClosing due.1 due.2
  · exact h

/-- A SHED wanted for a RESTORE in flight (R152; log 38). -/
theorem PlantBut.shedInFlightRestore_keeps (p : Fin 64) (h : Plant used resolving s) :
    Plant used resolving (shedInFlightRestore s p) := by
  unfold shedInFlightRestore
  split
  · next due => exact (h.wantShed_keeps (p := p) .orderDone (by simp [due.1])).same (s := wantShed p .orderDone s) rfl
  · exact h

/-- A point in AWAIT leaves the gate (R152, R154). -/
theorem PlantBut.cancelAwait_keeps (p : Fin 64) (h : Plant used resolving s) : Plant used resolving (cancelAwait s p) := by
  unfold cancelAwait
  split
  · next await => exact h.cancelAwaiting await
  · exact h

/-- The abort (R152). -/
theorem PlantBut.abortRestart_keeps (h : Plant used resolving s) : Plant used resolving (abortRestart s) := by
  have pending := PlantBut.foldl (fun p => PlantBut.cancelPendingRestore_keeps p) allPoints
    (h.frame (t := stopRestartStep s) (by simp) (by simp) (by simp))
  have flying := PlantBut.foldl (fun p => PlantBut.shedInFlightRestore_keeps p) allPoints pending
  have awaiting := PlantBut.foldl (fun p => PlantBut.cancelAwait_keeps p) allPoints flying
  exact PlantBut.startShedStep_keeps 0 (awaiting.frame (by simp) (by simp) (by simp))

/-- The veto stop, stroke by stroke (R154). -/
theorem vetoStop_eq (s : State) : vetoStop s = checkShedding (enterHalted
    (allPoints.foldl cancelAwait (allPoints.foldl cancelPendingRestore (stopRestartStep s)))) := rfl

/-- The veto stop (R154). -/
theorem PlantBut.vetoStop_keeps (h : Plant used resolving s) : Plant used resolving (vetoStop s) := by
  have pending := PlantBut.foldl (fun p => PlantBut.cancelPendingRestore_keeps p) allPoints
    (h.frame (t := stopRestartStep s) (by simp) (by simp) (by simp))
  have awaiting := PlantBut.foldl (fun p => PlantBut.cancelAwait_keeps p) allPoints pending
  rw [vetoStop_eq]
  exact PlantBut.checkShedding_keeps (awaiting.frame (by simp) (by simp) (by simp))

/-- A grace cut at SEVERE (R127). -/
theorem PlantBut.cutGrace_keeps (p : Fin 64) (h : Plant used resolving s) : Plant used resolving (cutGrace s p) := by
  unfold cutGrace
  split
  · next due => exact h.wantShed_keeps _ (by rcases due.2 with state | state <;> simp [state])
  · exact h

/-- The Sequencer at a change of device level (R114, R116, R119, R127, R152). -/
theorem PlantBut.sequencerAtLevel_keeps (h : Plant used resolving s) : Plant used resolving (sequencerAtLevel s) := by
  have event : Plant used resolving (eventAtLevel s) := h.frame (by simp) (by simp) (by simp)
  have cut := PlantBut.foldl (fun p => PlantBut.cutGrace_keeps p) allPoints event
  unfold sequencerAtLevel
  dsimp only
  refine PlantBut.settle_keeps ?_
  (repeat' split)
  case isTrue.isTrue.isTrue => exact cut.abortRestart_keeps
  case isTrue.isTrue.isFalse => exact cut
  case isTrue.isFalse => exact cut.checkShedding_keeps
  case isFalse.isTrue.isTrue => exact event.abortRestart_keeps
  case isFalse.isTrue.isFalse => exact event
  case isFalse.isFalse => exact event.checkShedding_keeps

end Sys2Proof.Machine

namespace Sys2Proof.Machine

/-! ### The plant's invariant over a resolution (R68, R97) -/

variable {used : Fin 64 → Bool} {resolving : Bool} {s : State} {p : Fin 64}

/-- While a resolution is being taken no slot holds an order in flight. -/
theorem PlantBut.none_flies (h : Plant used true s) (p : Fin 64) (k : MotionKind) : s.flc.motion[p] ≠ .inFlight k :=
  fun flies => by simpa using (h.flight p k).mp flies

/-- A point whose order has left its slot becomes still. -/
theorem PlantBut.arrives {new : PointState} (c : Cause) (h : PlantBut (some p) used resolving s) (empty : s.flc.motion[p] = .empty)
    (inUse : s.pointState p ≠ .unused) (still : new.still) (stays : new ≠ .unused)
    (counts : new.counts = true → (s.pointState p).counts = true) : Plant used resolving (changePoint p new c s) :=
  h.enter c (iff_of_false stays inUse) (by rw [empty]; exact slotFits_empty still _)
    (fun rises low => by rw [counts rises] at low; cases low)

/-- A SHED wanted for a point whose order has left its slot (R66). -/
theorem PlantBut.arrives_opening (c : Cause) (h : PlantBut (some p) used resolving s) (empty : s.flc.motion[p] = .empty)
    (inUse : s.pointState p ≠ .unused) : Plant used resolving (wantShedBare p c s) := by
  rw [show wantShedBare p c s = changePoint p .opening c (placeMotion .shed p s) by simp only [wantShedBare, empty]]
  exact h.place .shed c (by simp [empty]) inUse nofun

/-- The result of an order at its point (R69, R70). -/
theorem PlantBut.resultAt_keeps {k : MotionKind} (r : Result) (h : PlantBut (some p) used resolving s)
    (empty : s.flc.motion[p] = .empty) (moving : s.pointState p = k.moving) : Plant used resolving (resultAt k p r s) := by
  have inUse : s.pointState p ≠ .unused := moving ▸ k.moving_ne_unused
  have arrives (new : PointState) (c : Cause) (still : new.still) (stays : new ≠ .unused) (rests : new.counts = false) :
      Plant used resolving (changePoint p new c s) :=
    h.arrives c empty inUse still stays (fun rises => by rw [rests] at rises; cases rises)
  have failed (f : FaultKind) (c : Cause) : Plant used resolving (raiseFault f (.point p) (changePoint p .failed c s)) :=
    (arrives .failed c (by simp [PointState.still]) nofun rfl).frame (by simp) (by simp) (by simp)
  unfold resultAt
  split
  · unfold resultDone
    split
    · unfold warnDone
      dsimp only
      split
      · exact h.arrives_opening _ empty inUse
      · exact (arrives .warned _ (by simp [PointState.still]) nofun rfl).same (modPoint_plant _ _ _ rfl)
    · exact arrives .shed _ (by simp [PointState.still]) nofun rfl
    · unfold restoreDone
      dsimp only
      split
      · exact arrives .energised _ (by simp [PointState.still]) nofun rfl
      · refine PlantBut.same (modPoint_plant _ _ _ rfl)
          (h.arrives (new := .settling) _ empty inUse (by simp [PointState.still]) nofun (fun _ => ?_))
        rw [moving]
        rfl
  · exact arrives .locked _ (by simp [PointState.still]) nofun rfl
  · exact failed _ _
  · unfold resultNoReply
    split
    · exact h.arrives_opening _ empty inUse
    · exact failed _ _
    · exact failed _ _

/-! #### Feedback -/

/-- The state that a contact shows is still, one of a point in use, and counts no weight. -/
theorem shownState_items (closed : Bool) :
    (shownState closed).still ∧ shownState closed ≠ .unused ∧ (shownState closed).counts = false := by
  cases closed <;> simp [shownState, PointState.still, PointState.counts]

/-- A still point in use put in the state that a contact shows. -/
theorem PlantBut.shown (c : Cause) (closed : Bool) (h : Plant used resolving s) (old : (s.pointState p).still)
    (inUse : s.pointState p ≠ .unused) : Plant used resolving (changePoint p (shownState closed) c s) := by
  obtain ⟨still, stays, rests⟩ := shownState_items closed
  exact h.stillChange c old inUse still stays (fun rises => by rw [rests] at rises; cases rises)

/-- The contact compared with the state (R75). -/
theorem PlantBut.compareContact_keeps (closed : Bool) (h : Plant used resolving s) : Plant used resolving (compareContact p closed s) := by
  have moved (new : Bool) (old : (s.pointState p).still) (inUse : s.pointState p ≠ .unused) :
      Plant used resolving (externalChange p (shownState new) s) :=
    (h.shown .feedback new old inUse).frame (by simp [externalChange]) (by simp [externalChange]) (by simp [externalChange])
  unfold compareContact
  split
  case h_1 state | h_2 state | h_3 state =>
    split
    · exact h
    · exact moved false (by simp [state, PointState.still]) (by simp [state])
  case h_4 state | h_5 state =>
    split
    · exact moved true (by simp [state, PointState.still]) (by simp [state])
    · exact h
  case h_6 state => exact h.shown _ _ (by simp [state, PointState.still]) (by simp [state])
  all_goals exact h

/-- The lockout applied (R74). -/
theorem PlantBut.applyLockout_keeps (o : OutputStatus) (h : Plant used true s) : Plant used true (applyLockout p o s) := by
  unfold applyLockout
  split
  · split
    · exact h
    · next other =>
      exact h.stopped (new := .locked) _ (fun unused => other (.inr unused)) (by simp [PointState.still]) nofun rfl
        (.inr (h.none_flies p))
  · split
    · next state => exact h.shown _ _ (by simp [state, PointState.still]) (by simp [state])
    · next state => exact h.shown _ _ (by simp [state, PointState.still]) (by simp [state])
    · exact h.compareContact_keeps _

/-- Feedback at a point (R74 to R76). -/
theorem PlantBut.feedbackAt_keeps (o : OutputStatus) (p : Fin 64) (h : Plant used true s) : Plant used true (feedbackAt o p s) := by
  unfold feedbackAt
  split
  · have locked := PlantBut.applyLockout_keeps (p := p) o (h.same (modPoint_plant s p (fun e =>
      { e with
        contact := if o.closed then .closed else .opened
        lockout := if o.lockOpen then .opened else .normal
        relay := if o.relayOn then .on else .off }) rfl))
    dsimp only [applyButton]
    generalize applyLockout p o _ = t at locked ⊢
    by_cases pressed : o.button = true ∧ t.pointState p = .await
    · rw [if_pos pressed]
      exact locked.same (modPoint_plant _ _ _ rfl)
    · rw [if_neg pressed]
      exact locked
  · exact h

/-- Feedback of the four outputs of a station (R68). -/
theorem PlantBut.feedback_keeps (st : Fin 16) (outs : Option (Vector OutputStatus 4)) (h : Plant used true s) :
    Plant used true (feedback st outs s) := by
  cases outs with
  | none => exact h
  | some v => exact (((h.feedbackAt_keeps v[0] _).feedbackAt_keeps v[1] _).feedbackAt_keeps v[2] _).feedbackAt_keeps v[3] _

/-! #### The deferred SHED, the lamps and the hand-over -/

/-- The deferred SHED (R67). -/
theorem PlantBut.takeDeferred_keeps (f : InFlight) (r : Result) (h : Plant used resolving s) :
    Plant used resolving (takeDeferred f r s) := by
  unfold takeDeferred
  split
  · next k p _ =>
    split
    · exact h
    · have spent := h.same (modPoint_plant s p (fun e => { e with deferred := false }) rfl)
      dsimp only
      split
      · exact spent
      · next shed =>
        split
        · exact spent.wantShedBare_keeps _ (by simp [shed])
        · exact spent
      · exact spent
      · next unused => exact spent.wantShedBare_keeps _ unused
  all_goals exact h

/-- The hand-over of a point to the Sequencer (R79, R128, R144). -/
theorem PlantBut.handOver_keeps (before : Vector PointEntry 64) (p : Fin 64) (h : Plant used resolving s) :
    Plant used resolving (handOver before s p) := by
  unfold handOver
  split
  · exact h
  · unfold rejoinGate
    split
    · next due => exact (h.enforce_keeps p).placeAwait_keeps (by simp [due.2.1, PointState.still]) (by simp [due.2.1])
    · exact h.enforce_keeps p

/-- The PTM takes a resolution whose result it has applied (R68). -/
theorem PlantBut.takeResolution_keeps (f : InFlight) (st : Fin 16) (r : Result) (outs : Option (Vector OutputStatus 4))
    (h : Plant used true (applyResult f r s)) : Plant used true (takeResolution f st r outs s) :=
  PlantBut.foldl (fun p => PlantBut.handOver_keeps s.ptm.points p) _
    (PlantBut.foldl (g := lampAfter s.ptm.points) (fun p h => h.settleLamp_keeps (p := p) _) _
      ((h.feedback_keeps st outs).takeDeferred_keeps f r))

/-! #### The resolution of an order -/

/-- The state in which the order that resolves has left its slot, and its spacing runs (R97, R104). -/
def State.released (s : State) (o : Order) : State := spacingAfter o (freeSlot o s)

/-- A resolution, stroke by stroke (R97; log 8). -/
theorem resolve_eq (f : InFlight) (st : Fin 16) (r : Result) (outs : Option (Vector OutputStatus 4)) (s : State) :
    resolve f st r outs s
      = chooseAfter (settle (pollResolved f.order (takeResolution f st r outs (s.released f.order)))) := rfl

/-- The release of an order's slot leaves the plan, the points and the order in flight. -/
theorem released_frame (s : State) (o : Order) :
    (s.released o).pls = s.pls ∧ (s.released o).ptm = s.ptm ∧ (s.released o).flc.inFlight = s.flc.inFlight := by
  unfold State.released
  cases o with
  | motion k p => cases k <;> exact ⟨rfl, rfl, rfl⟩
  | lamp | poll | tripAll => exact ⟨rfl, rfl, rfl⟩

/-- A motion order that resolves frees its slot (R87). -/
theorem released_motion_slots (s : State) (k : MotionKind) (p : Fin 64) :
    (s.released (.motion k p)).flc.motion = s.flc.motion.set p .empty := by
  cases k <;> rfl

/-- Any other order that resolves leaves the motion slots (R87). -/
theorem released_other_slots (s : State) {o : Order} (other : ∀ k p, o ≠ .motion k p) :
    (s.released o).flc.motion = s.flc.motion := by
  cases o with
  | motion k p => exact absurd rfl (other k p)
  | lamp | poll | tripAll => rfl

/-- The order that resolves leaves its slot, and its point alone is not yet in step (R68). -/
theorem PlantBut.released_motion {g : InFlight} {k : MotionKind} (h : Plant used false s) (flying : s.flc.inFlight = some g)
    (own : g.order = .motion k p) : PlantBut (some p) used true (s.released (.motion k p)) := by
  obtain ⟨pls, ptm, inFlight⟩ := released_frame s (.motion k p)
  have motion := released_motion_slots s k p
  have elsewhere (q : Fin 64) (other : p ≠ q) : (s.released (.motion k p)).flc.motion[q] = s.flc.motion[q] := by
    rw [motion]
    exact vector_set_other _ _ _ _ other
  have freed : (s.released (.motion k p)).flc.motion[p] = .empty := by
    rw [motion]
    exact vector_set_self ..
  have state (q : Fin 64) : (s.released (.motion k p)).pointState q = s.pointState q := by simp only [State.pointState, ptm]
  refine ⟨fun q => by rw [state]; exact h.use q, fun q j => iff_of_false (fun flies => ?_) (fun ⟨no, _⟩ => nomatch no),
    fun _ => by rw [inFlight, flying]; rfl, fun q other => ?_, ?_⟩
  · by_cases here : p = q
    · subst here
      rw [freed] at flies
      cases flies
    · rw [elsewhere q here] at flies
      obtain ⟨-, f, flying', order⟩ := (h.flight q j).mp flies
      rw [flying] at flying'
      cases flying'
      rw [own] at order
      cases order
      exact here rfl
  · rw [elsewhere q (fun eq => other (congrArg some eq)), state, inFlight]
    exact h.slots q nofun
  · have counted : (s.released (.motion k p)).inrushCounted = s.inrushCounted := by simp only [State.inrushCounted, state, pls]
    obtain ⟨sum, budget⟩ := h.inrush
    exact ⟨by rw [ptm, counted]; exact sum, by rw [ptm, pls]; exact budget⟩

/-- An order that has no motion slot resolves (R68). -/
theorem PlantBut.released_other {g : InFlight} (h : Plant used false s) (flying : s.flc.inFlight = some g)
    (other : ∀ k p, g.order ≠ .motion k p) : Plant used true (s.released g.order) := by
  obtain ⟨pls, ptm, inFlight⟩ := released_frame s g.order
  have stands := released_other_slots s other
  have same : (s.released g.order).plant = s.plant := by simp only [State.plant, pls, ptm, inFlight, stands]
  have kept := h.same same
  refine ⟨kept.use, fun q k => iff_of_false (fun flies => ?_) (fun ⟨no, _⟩ => nomatch no),
    fun _ => by rw [inFlight, flying]; rfl, kept.slots, kept.inrush⟩
  obtain ⟨-, f, flying', order⟩ := (kept.flight q k).mp flies
  rw [inFlight, flying] at flying'
  cases flying'
  exact other k q order

/-- The result applied to an order that has left its slot (R69, R70; log 19). -/
theorem PlantBut.applyResult_keeps {f g : InFlight} (r : Result) (h : Plant used false s) (flying : s.flc.inFlight = some g)
    (order : g.order = f.order) (mark : g.voided = f.voided) : Plant used true (applyResult f r (s.released f.order)) := by
  rw [← order]
  cases own : g.order with
  | motion k p =>
    have slot : s.flc.motion[p] = .inFlight k := (h.flight p k).mpr ⟨rfl, g, flying, own⟩
    obtain ⟨live, voided⟩ := (h.slots p nofun).2.2 k g slot flying
    have freed := h.released_motion flying own
    obtain ⟨-, ptm, -⟩ := released_frame s (.motion k p)
    have empty : (s.released (.motion k p)).flc.motion[p] = .empty := by
      rw [released_motion_slots]
      exact vector_set_self ..
    have state : (s.released (.motion k p)).pointState p = s.pointState p := by simp only [State.pointState, ptm]
    unfold applyResult
    rw [← order, own]
    dsimp only
    split
    · next ignored =>
      have still : ((s.released (.motion k p)).pointState p).still := by
        rw [Bool.or_eq_true, beq_iff_eq] at ignored
        rcases ignored with void | unused
        · rw [state]
          exact voided (mark.trans void)
        · simp [unused, PointState.still]
      refine ⟨freed.use, freed.flight, freed.busy, fun q _ => ?_, freed.inrush⟩
      by_cases here : p = q
      · subst here
        rw [empty]
        exact slotFits_empty still _
      · exact freed.slots q (fun eq => here (Option.some.inj eq))
    · next taken =>
      rw [Bool.or_eq_true, not_or] at taken
      refine freed.resultAt_keeps r empty (state.trans (live (mark.trans ?_)))
      simpa using taken.1
  | lamp | poll | tripAll =>
    have freed := h.released_other flying (by simp [own])
    rw [own] at freed
    simpa only [applyResult, ← order, own] using freed

/-- The loop has no order in flight any more, and the FLC chooses again (R92). -/
theorem PlantBut.chooseAfter_keeps (h : Plant used resolving s) (none_flies : ∀ (p : Fin 64) k, s.flc.motion[p] ≠ .inFlight k) :
    Plant used false (chooseAfter s) := by
  refine PlantBut.choose_keeps (s := { s with flc.inFlight := none, flc.aborted := false }) ?_
  refine ⟨h.use, fun p k => iff_of_false (none_flies p k) (by simp), nofun, fun p _ => ?_, h.inrush⟩
  obtain ⟨empty, pending, -⟩ := h.slots p nofun
  exact ⟨empty, pending, fun k _ flies _ => absurd flies (none_flies p k)⟩

/-- A poll resolved (R103). -/
theorem PlantBut.pollResolved_keeps (o : Order) (h : Plant used resolving s) : Plant used resolving (pollResolved o s) := by
  unfold pollResolved
  split
  · exact PlantBut.checkRound_keeps (h.same (s := s) rfl)
  all_goals exact h

/-- The resolution of the order in flight (R97, R98). -/
theorem PlantBut.resolve_keeps {f g : InFlight} (st : Fin 16) (r : Result) (outs : Option (Vector OutputStatus 4))
    (h : Plant used false s) (flying : s.flc.inFlight = some g) (order : g.order = f.order) (mark : g.voided = f.voided) :
    Plant used false (resolve f st r outs s) := by
  have taken := PlantBut.takeResolution_keeps f st r outs (h.applyResult_keeps r flying order mark)
  have settled := (taken.pollResolved_keeps f.order).settle_keeps
  rw [resolve_eq]
  exact settled.chooseAfter_keeps settled.none_flies

end Sys2Proof.Machine

namespace Sys2Proof.Machine

/-! ### What a change of level and the sensors can do to the plant and the Sequencer (O60) -/

/-- The Sequencer without its four step timers, which no invariant reads. -/
def Seq.untimed (q : Seq) : Seq := { q with shedDelay := none, shedTimeout := none, restartDelay := none, restartTimeout := none }

/-- What the invariants of the Sequencer and the tracker read of a state: the plan, the Sequencer without its timers, the tracker, and
whether the load runs. -/
def State.control (s : State) : Plan × Seq × Tracker × Option (Fin 3) × Bool × Bool :=
  (s.pls.active, s.seq.untimed, s.ctk.state, s.ctk.held, s.ctk.window.isSome, s.iml.link == .loading)

/-- The blocks that the invariants of the plant and of the Sequencer read. -/
def State.units (s : State) : Pls × Ptm × Seq × Ctk × Flc × Iml := (s.pls, s.ptm, s.seq, s.ctk, s.flc, s.iml)

/-- States with the same six blocks have the same plant, Sequencer and tracker. -/
theorem control_plant_of_units {s t : State} (same : t.units = s.units) : t.control = s.control ∧ t.plant = s.plant := by
  simp only [State.units, Prod.mk.injEq] at same
  obtain ⟨pls, ptm, seq, ctk, flc, iml⟩ := same
  simp only [State.control, State.plant, pls, ptm, seq, ctk, flc, iml, and_self]

/-- A property of the plant, the Sequencer and the tracker that a choice of the FLC, quiet cleared and a change of device level keep. -/
structure LevelInvariant (P : State → Prop) : Prop where
  same {s t : State} : t.control = s.control → t.plant = s.plant → P s → P t
  choose {s : State} : P s → P (choose s)
  quietCleared {s : State} : P s → P (trackerQuietCleared s)
  atLevel {s : State} : P s → P (sequencerAtLevel s)

namespace LevelInvariant

variable {P : State → Prop} {s t : State}

/-- The six blocks stand. -/
theorem units (I : LevelInvariant P) (h : P s) (same : t.units = s.units) : P t := by
  obtain ⟨control, plant⟩ := control_plant_of_units same
  exact I.same control plant h

/-- A channel's items change. -/
theorem modChannel (I : LevelInvariant P) (i : Fin 6) (f : Channel → Channel) (h : P s) : P (s.modChannel i f) :=
  I.units h rfl

/-- An evaluation record's items change. -/
theorem modEval (I : LevelInvariant P) (i : Fin 6) (f : StationEval → StationEval) (h : P s) : P (s.modEval i f) :=
  I.units h rfl

/-- Quiet time set to 0 (R34, R35). -/
theorem clearQuiet_keeps (I : LevelInvariant P) (h : P s) : P (clearQuiet s) := by
  have cleared : P { s with mev.quiet := 0, mev.quietHanded := false } := I.units h rfl
  unfold clearQuiet
  dsimp only
  split
  · exact I.quietCleared cleared
  · exact cleared

/-- TRIP_ALL posted in NO_PLAN (R105). -/
theorem noPlanTrip_keeps (I : LevelInvariant P) (h : P s) : P (noPlanTrip s) := by
  unfold noPlanTrip
  split
  · exact I.choose (I.same (s := s) rfl rfl h)
  · exact h

/-- A change of the device level (R31). -/
theorem changeLevel_keeps (I : LevelInvariant P) (new : Level) (h : P s) : P (changeLevel new s) := by
  obtain ⟨u, same, eq⟩ : ∃ u, u.units = s.units ∧ changeLevel new s
      = noPlanTrip (sequencerAtLevel (assertLines (if new = .quiet then u else clearQuiet u))) :=
    ⟨_, by simp [State.units], changeLevel_eq new s⟩
  have told : P u := I.units h same
  rw [eq]
  refine I.noPlanTrip_keeps (I.atLevel ?_)
  split
  · exact I.units told (by simp [State.units])
  · exact I.units (I.clearQuiet_keeps told) (by simp [State.units])

/-- The vote (R30, R32). -/
theorem recompute_keeps (I : LevelInvariant P) (h : P s) : P (recompute s) := by
  unfold recompute
  split
  · exact h
  · split
    · exact h
    · exact I.changeLevel_keeps _ h

/-- A change of the healthy count from or to 0 (R33, R34). -/
theorem healthyCountEdge_keeps (I : LevelInvariant P) (before : Nat) (h : P s) : P (healthyCountEdge before s) := by
  unfold healthyCountEdge
  dsimp only
  split
  · split
    · exact I.units h (by simp [State.units])
    · exact I.units h rfl
  · split
    · exact I.clearQuiet_keeps (I.units h rfl)
    · exact h

/-- A change of a channel's health (R14, R15). -/
theorem setHealth_keeps (I : LevelInvariant P) (i : Fin 6) (new : Health) (h : P s) : P (setHealth i new s) := by
  unfold setHealth
  dsimp only
  rw [healthChange_eq]
  exact I.recompute_keeps (I.healthyCountEdge_keeps _ (I.units h (by simp [State.units])))

/-- The vote after a change of a station's level (R30). -/
theorem revote_keeps (I : LevelInvariant P) (i : Fin 6) (old : Level) (h : P s) : P (revote i old s) := by
  unfold revote
  split
  · exact I.recompute_keeps h
  · exact h

/-- An arrival at a station (R21 to R30). -/
theorem enterArrival_keeps (I : LevelInvariant P) (i : Fin 6) (v : Nat) (h : P s) : P (enterArrival i v s) :=
  I.revote_keeps i _ (I.units h (by simp [State.units]))

/-- The settle count after an arrival (R11). -/
theorem settleArrival_keeps (I : LevelInvariant P) (i : Fin 6) (h : P s) : P (settleArrival i s) := by
  unfold settleArrival
  dsimp only
  split
  · split
    · exact I.setHealth_keeps i .healthy (I.modChannel i _ h)
    · exact I.modChannel i _ h
  · exact h

/-- Fillers (R8). -/
theorem takeFillers_keeps (I : LevelInvariant P) (i : Fin 6) (n : Nat) (h : P s) : P (takeFillers i n s) := by
  induction n generalizing s with
  | zero => exact h
  | succ n ih => exact ih (I.settleArrival_keeps i (I.enterArrival_keeps i _ h))

/-- A sample (R14, R19, R20). -/
theorem takeSample_keeps (I : LevelInvariant P) (i : Fin 6) (a : Sample) (h : P s) : P (takeSample i a s) := by
  rw [takeSample_eq]
  have entered := I.enterArrival_keeps i (a.excessAt i s) (I.modChannel i (fun c => c.sampled a (a.excessAt i s)) h)
  exact I.settleArrival_keeps i (I.modEval i _ entered)

/-- A sample that starts a new window (R9, R10). -/
theorem newWindow_keeps (I : LevelInvariant P) (i : Fin 6) (seq : Byte) (a : Sample) (h : P s) : P (newWindow i seq a s) := by
  have cleared : P (clearWindow i s) := I.revote_keeps i _ (I.modEval i _ h)
  have started := I.takeSample_keeps i a (I.modChannel i (fun c => { c with settle := 0 }) cleared)
  exact I.modChannel i (fun c => { c with lastSeq := some seq }) started

/-- A resettling (R9). -/
theorem resettle_keeps (I : LevelInvariant P) (i : Fin 6) (seq : Byte) (a : Sample) (h : P s) : P (resettle i seq a s) := by
  rw [resettle_eq]
  refine I.newWindow_keeps i seq a ?_
  split
  · exact I.setHealth_keeps i .settling (I.modChannel i _ h)
  · exact I.modChannel i _ h

/-- A valid frame of a SETTLING or HEALTHY station (R6 to R9). -/
theorem continueWindow_keeps (I : LevelInvariant P) (i : Fin 6) (seq : Byte) (a : Sample) (h : P s) : P (continueWindow i seq a s) := by
  unfold continueWindow
  split
  · exact I.resettle_keeps i seq a h
  · split
    · exact I.modChannel i _ h
    · dsimp only
      split
      · exact I.resettle_keeps i seq a h
      · exact I.modChannel i _ (I.takeSample_keeps i a (I.takeFillers_keeps i _ (I.modChannel i _ h)))

/-- A valid frame, by the health state (R5). -/
theorem validFrame_keeps (I : LevelInvariant P) (i : Fin 6) (seq : Byte) (a : Sample) (h : P s) : P (validFrame i seq a s) := by
  have restarted := I.modChannel i (fun c => { c with gap := some 200 }) h
  unfold validFrame
  dsimp only
  split
  · exact I.newWindow_keeps i seq a (I.setHealth_keeps i .settling restarted)
  · exact I.newWindow_keeps i seq a (I.setHealth_keeps i .settling restarted)
  · exact I.continueWindow_keeps i seq a restarted
  · exact I.continueWindow_keeps i seq a restarted
  · exact restarted

/-- A complete frame (R2). -/
theorem checkFrame_keeps (I : LevelInvariant P) (i : Fin 6) (bytes : List Byte) (bad : Bool) (h : P s) :
    P (checkFrame i bytes bad s) := by
  have counted : P (countCheckError i s) := I.units h (by simp [State.units])
  unfold checkFrame
  split
  · exact counted
  · split
    · split
      · exact counted
      · split
        · exact I.modChannel i _ h
        · split
          · exact I.modChannel i _ h
          · exact I.validFrame_keeps i _ _ h
    · exact h

/-- A byte at a sensor port (R1). -/
theorem sensorByte_keeps (I : LevelInvariant P) (i : Fin 6) (b : LineByte) (h : P s) : P (sensorByte i s b) := by
  by_cases disabled : s.siu[i].health = .disabled
  · unfold sensorByte
    rwa [if_pos disabled]
  · rw [sensorByte_enabled disabled]
    have moved : P (s.setRx i (s.siu[i].rx.feed 0xc3 12 b).1) := I.modChannel i _ h
    split
    · exact moved
    · exact I.checkFrame_keeps i _ _ moved

/-- Bytes at a sensor port (R1). -/
theorem sensorBytes_keeps (I : LevelInvariant P) (i : Fin 6) (bytes : List LineByte) (h : P s) : P (bytes.foldl (sensorByte i) s) :=
  List.foldlRecOn bytes _ h (fun _ kept b _ => I.sensorByte_keeps i b kept)

/-- The expiry of a gap timer (R12). -/
theorem gapExpiry_keeps (I : LevelInvariant P) (i : Fin 6) (h : P s) : P (gapExpiry i s) := by
  have lost := I.setHealth_keeps i .lost (I.modChannel i (fun c => { c with gap := none }) h)
  unfold gapExpiry
  dsimp only
  split
  · split
    · exact I.units lost (by simp [State.units])
    · exact lost
  · exact h

/-- A station at the end of the load (R4). -/
theorem enableStation_keeps (I : LevelInvariant P) (i : Fin 6) (h : P s) : P (enableStation s i) := by
  unfold enableStation
  split
  · exact I.setHealth_keeps i .offline (I.modChannel i _ h)
  · exact h

/-- A channel at a commit (R16). -/
theorem commitStation_keeps (I : LevelInvariant P) (old : Plan) (i : Fin 6) (h : P s) : P (commitStation old s i) := by
  unfold commitStation
  split
  · exact I.setHealth_keeps i .offline (I.modChannel i _ h)
  · exact I.setHealth_keeps i .disabled (I.modChannel i _ h)
  · exact h
  · exact h

end LevelInvariant

/-- The plant's invariant over the change of level: the load's end reads it for the points in use before. -/
theorem plant_levelInvariant (used : Fin 64 → Bool) (resolving : Bool) : LevelInvariant (Plant used resolving) where
  same _ plant h := h.same plant
  choose h := h.choose_keeps
  quietCleared h := h.frame (by simp) (by simp) (by simp)
  atLevel h := h.sequencerAtLevel_keeps

end Sys2Proof.Machine

namespace Sys2Proof.Machine

/-! ### The Sequencer's operations, stroke by stroke -/

/-- The state with the shed pointer at a step. -/
def State.atPointer (s : State) (k : Nat) : State := { s with seq.pointer := k }

/-- The state in which a shed step is DONE and what follows has not begun: its status and timers, D and the pointer (R126). -/
def State.shedDone (s : State) (k : Nat) : State :=
  { s with
    seq.shedStatus := setStatusAt s.seq.shedStatus k .done
    seq.shedDelay := none
    seq.shedTimeout := none
    seq.depth := max s.seq.depth (k + 1)
    seq.pointer := k + 1 }

/-- The state in which a restart step is DONE and the next has not begun (R147). -/
def State.restartDone (s : State) (k : Nat) : State :=
  { s with
    seq.restartStatus := setStatusAt s.seq.restartStatus k .done
    seq.restartDelay := none
    seq.restartTimeout := none
    seq.restartPointer := k + 1 }

/-- The state in which the restart chain stands afresh (R142). -/
def State.restartCleared (s : State) : State :=
  { s with
    seq.restartStatus := Vector.replicate 48 .notStarted
    seq.restartPointer := 0
    seq.restartDelay := none
    seq.restartTimeout := none }

/-- The state in which the shed chain stands afresh, with the target of the level (R152). -/
def State.shedCleared (s : State) : State :=
  { s with
    seq.shedStatus := Vector.replicate 48 .notStarted
    seq.pointer := 0
    seq.target := max s.seq.depth (s.pls.active.depth s.mev.level) }

/-- The state with an event open (R111, R114). -/
def State.withEvent (s : State) : State := if s.seq.eventOpen then s else openEvent s

/-- The state in which the whole shed chain counts as done (R111). -/
def State.allShed (s : State) : State :=
  { s with
    seq.depth := s.pls.active.shedLen
    seq.pointer := s.pls.active.shedLen
    seq.target := s.pls.active.shedLen
    seq.shedStatus := allDone s.seq.shedStatus s.pls.active.shedLen }

/-- What follows a shed step's DONE: the next step, or HALTED (R126). -/
theorem afterShedDone_eq (k : Nat) (s : State) : afterShedDone k s
    = if k + 1 < s.seq.target then startShedStep (k + 1) (s.shedDone k) else enterHalted (s.shedDone k) := rfl

/-- What follows a restart step's DONE: the next step, if there is one (R147). -/
theorem afterRestartDone_eq (k : Nat) (s : State) : afterRestartDone k s
    = if k + 1 < s.pls.active.restartLen then startRestartStep (k + 1) (s.restartDone k) else s.restartDone k := rfl

/-- SHEDDING out of WATCH (R119). -/
theorem shedFromWatch_eq (s : State) : shedFromWatch s
    = startShedStep 0 (allPoints.foldl withdrawManual (setShedding (s.atPointer 0))) := rfl

/-- SHEDDING out of HALTED (R119). -/
theorem shedFromHalted_eq (s : State) : shedFromHalted s
    = startShedStep (setShedding (s.atPointer s.seq.depth)).seq.depth (setShedding (s.atPointer s.seq.depth)) := rfl

/-- The start-up decision: HALTED with the chain enforced, or WATCH (R111). -/
theorem startupDecision_eq (s : State) : startupDecision s
    = if (allPoints.any (fun p => s.inUse p && s.pointState p == .shed) || s.dtu.lines.toList.any id) = true
      then allPoints.foldl enforceAtStart (enterHalted s.withEvent.allShed)
      else if (setSequence .watch s).seq.depth < (setSequence .watch s).seq.target then shedFromWatch (setSequence .watch s)
      else if (setSequence .watch s).seq.eventOpen = true ∧ (setSequence .watch s).mev.level = .quiet
        ∧ (setSequence .watch s).quietLongEnough = true then closeEvent (setSequence .watch s)
      else setSequence .watch s := rfl

/-- The restart begins (R142). -/
theorem beginRestart_eq (s : State) : beginRestart s
    = if 0 < s.pls.active.restartLen then startRestartStep 0 s.restartCleared else s.restartCleared := rfl

/-- The abort (R152). -/
theorem abortRestart_eq (s : State) : abortRestart s
    = startShedStep 0 (setShedding (allPoints.foldl cancelAwait (allPoints.foldl shedInFlightRestore
      (allPoints.foldl cancelPendingRestore (stopRestartStep s))))).shedCleared := rfl

/-! ### The tracker and the load (O60) -/

variable {s t : State}

/-- The tracker and the load are in step with the sequence state (R109, R131). -/
def Linked (s : State) : Prop := LoadingOk s ∧ TrackerOk s

/-- The load has ended and no consent is under way. -/
structure AtRest (s : State) : Prop where
  loaded : s.iml.link ≠ .loading
  inactive : s.ctk.state = .inactive
  held : s.ctk.held = none
  window : s.ctk.window = none

/-- At rest, the tracker and the load are in step with any sequence state. -/
theorem AtRest.linked (h : AtRest s) : Linked s :=
  ⟨fun loading => absurd loading h.loaded, by simp [h.held, h.inactive], by simp [h.window, h.inactive], fun _ => h.inactive⟩

/-- The tracker and the store link stand. -/
theorem AtRest.frame (h : AtRest s) (ctk : t.ctk = s.ctk) (iml : t.iml = s.iml) : AtRest t :=
  ⟨iml ▸ h.loaded, ctk ▸ h.inactive, ctk ▸ h.held, ctk ▸ h.window⟩

/-- Outside LOADING the load has ended. -/
theorem Linked.loaded (h : Linked s) (out : s.seq.state ≠ .startup ∨ s.seq.phase ≠ .loading) : s.iml.link ≠ .loading :=
  fun loading => out.elim (fun no => no (h.1 loading).1) (fun no => no (h.1 loading).2)

/-- Outside HALTED and LOADING the tracker and the load are at rest. -/
theorem Linked.atRest (h : Linked s) (out : s.seq.state ≠ .startup ∨ s.seq.phase ≠ .loading) (run : s.seq.state ≠ .halted) :
    AtRest s := by
  have loaded := h.loaded out
  obtain ⟨-, held, window, rests⟩ := h
  have inactive := rests run
  exact ⟨loaded, inactive, by simpa [inactive] using held, by simpa [inactive] using window⟩

/-- The tracker and the load in step depend on the control blocks alone. -/
theorem Linked.same (same : t.control = s.control) (h : Linked s) : Linked t := by
  simp only [State.control, Prod.mk.injEq, Seq.untimed] at same
  obtain ⟨-, seq, tracker, held, window, link⟩ := same
  have link : t.iml.link = .loading ↔ s.iml.link = .loading := by rw [← beq_iff_eq, link, beq_iff_eq]
  have state : t.seq.state = s.seq.state := (Seq.mk.inj seq).1
  have phase : t.seq.phase = s.seq.phase := (Seq.mk.inj seq).2.1
  unfold Linked LoadingOk TrackerOk at *
  rwa [link, state, phase, tracker, held, window]

/-- The tracker, the link, the sequence state and the phase stand. -/
theorem Linked.frame (h : Linked s) (ctk : t.ctk = s.ctk) (iml : t.iml = s.iml) (state : t.seq.state = s.seq.state)
    (phase : t.seq.phase = s.seq.phase) : Linked t := by
  unfold Linked LoadingOk TrackerOk at *
  rwa [ctk, iml, state, phase]

/-- The control blocks stand. -/
theorem control_of_blocks (pls : t.pls = s.pls) (seq : t.seq = s.seq) (ctk : t.ctk = s.ctk) (iml : t.iml = s.iml) :
    t.control = s.control := by
  simp only [State.control, pls, seq, ctk, iml]

/-- The tracker's state set, by whether it stood there (R132). -/
theorem setTracker_ctk (k : Tracker) (s : State) : (setTracker k s).ctk = { s.ctk with state := k } := by
  unfold setTracker
  split
  · next same => rw [← same]
  · simp

/-- A held consent ended (R132). -/
theorem dropConsent_ctk (mark : ConsentMark) (s : State) : (dropConsent mark s).ctk = { s.ctk with held := none, window := none } := by
  unfold dropConsent
  split
  · next none_held => rw [← none_held]
  · simp

/-- The sequence state after it is set, and the rest of the Sequencer (R113). -/
theorem setSequence_seq (new : SeqState) (s : State) : (setSequence new s).seq = { s.seq with state := new } := by
  simp [setSequence]

/-- The Sequencer entering HALTED (R120). -/
theorem enterHalted_seq (s : State) : (enterHalted s).seq = { s.seq with state := .halted } := by
  simp [enterHalted, setSequence_seq]

/-- The Sequencer entering SHEDDING (R119). -/
theorem setShedding_seq (s : State) : (setShedding s).seq = { s.seq with state := .shedding } := by
  simp [setShedding, setSequence_seq]

/-- HALTED entered from rest (R132). -/
theorem AtRest.enterHalted_linked (h : AtRest s) : Linked (enterHalted s) := by
  have loaded : (enterHalted s).iml.link ≠ .loading := by simpa using h.loaded
  have ctk : (enterHalted s).ctk = { s.ctk with state := .openState } ∨ (enterHalted s).ctk = { s.ctk with state := .waitQuiet } := by
    unfold enterHalted trackerEnterHalted
    split
    · exact .inl (by simp [setTracker_ctk])
    · exact .inr (by simp [setTracker_ctk])
  refine ⟨fun loading => absurd loading loaded, ?_⟩
  unfold TrackerOk
  rcases ctk with ctk | ctk <;> simp [ctk, h.held, h.window, enterHalted_seq]

/-- The tracker after HALTED is left for SHEDDING (R132). -/
theorem Linked.setShedding_rests (h : Linked s) (loaded : s.iml.link ≠ .loading) : AtRest (setShedding s) := by
  obtain ⟨-, held, window, -⟩ := h
  have ctk : (setShedding s).ctk.state = .inactive ∧ (setShedding s).ctk.held = none ∧ (setShedding s).ctk.window = none := by
    unfold setShedding trackerLeaveHalted
    split
    case h_1 => simp [setTracker_ctk, dropConsent_ctk]
    all_goals
      next state =>
      rw [setSequence_frame .shedding s |>.2.2.2.2.2.1] at state
      simp_all [setTracker_ctk]
  obtain ⟨inactive, held, window⟩ := ctk
  exact ⟨by simpa using loaded, inactive, held, window⟩

/-- A start of a shed step leaves the tracker and the link (R121). -/
theorem AtRest.startShedStep_rests (k : Nat) (h : AtRest s) : AtRest (startShedStep k s) := h.frame (by simp) (by simp)

/-- SHEDDING entered from WATCH, with its step (R119). -/
theorem Linked.shedFromWatch_rests (h : Linked s) (loaded : s.iml.link ≠ .loading) : AtRest (shedFromWatch s) := by
  have shedding := (h.frame (t := s.atPointer 0) rfl rfl rfl rfl).setShedding_rests loaded
  rw [shedFromWatch_eq]
  exact AtRest.startShedStep_rests 0 (shedding.frame (by simp) (by simp))

/-- SHEDDING entered from HALTED, with its step (R119). -/
theorem Linked.shedFromHalted_rests (h : Linked s) (loaded : s.iml.link ≠ .loading) : AtRest (shedFromHalted s) := by
  have shedding := (h.frame (t := s.atPointer s.seq.depth) rfl rfl rfl rfl).setShedding_rests loaded
  rw [shedFromHalted_eq]
  exact shedding.startShedStep_rests _

/-- The check of R119 changes nothing, or leaves the tracker at rest. -/
theorem Linked.checkShedding_cases (h : Linked s) : checkShedding s = s ∨ AtRest (checkShedding s) := by
  unfold checkShedding
  split
  · split
    · next watch => exact .inr (h.shedFromWatch_rests (h.loaded (.inl (by simp [watch]))))
    · next halted => exact .inr (h.shedFromHalted_rests (h.loaded (.inl (by simp [halted]))))
    all_goals exact .inl rfl
  · exact .inl rfl

/-- The check of R119 keeps the tracker in step. -/
theorem Linked.checkShedding_keeps (h : Linked s) : Linked (checkShedding s) := by
  rcases h.checkShedding_cases with same | rests
  · rwa [same]
  · exact rests.linked

/-- The check of R119 keeps the tracker at rest. -/
theorem AtRest.checkShedding_keeps (h : AtRest s) : AtRest (checkShedding s) := by
  rcases h.linked.checkShedding_cases with same | rests
  · rwa [same]
  · exact rests

/-- The close of an event (R118). -/
theorem AtRest.closeEvent_keeps (h : AtRest s) : AtRest (closeEvent s) := by
  obtain ⟨-, -, -, ctk, -⟩ := s.shut_items
  have shut : AtRest s.shut := h.frame ctk (by simp [State.shut])
  rw [closeEvent_eq]
  split
  · exact shut
  · exact (shut.frame (t := openEvent s.shut) (by simp) (by simp)).checkShedding_keeps

/-- What follows a shed step's DONE (R126). -/
theorem AtRest.afterShedDone_linked (k : Nat) (h : AtRest s) : Linked (afterShedDone k s) := by
  have done : AtRest (s.shedDone k) := h.frame rfl rfl
  rw [afterShedDone_eq]
  split
  · exact (done.startShedStep_rests _).linked
  · exact done.enterHalted_linked

/-- An event open leaves the tracker at rest. -/
theorem AtRest.withEvent_keeps (h : AtRest s) : AtRest s.withEvent := by
  unfold State.withEvent
  split
  · exact h
  · exact h.frame (by simp) (by simp)

/-- The start-up decision (R111). -/
theorem AtRest.startupDecision_linked (h : AtRest s) : Linked (startupDecision s) := by
  rw [startupDecision_eq]
  split
  · have all : AtRest s.withEvent.allShed := h.withEvent_keeps.frame rfl rfl
    exact all.enterHalted_linked.frame (by simp) (by simp) (by simp) (by simp)
  · have watching : AtRest (setSequence .watch s) := h.frame (by simp) (by simp)
    split
    · exact (watching.linked.shedFromWatch_rests watching.loaded).linked
    · split
      · exact watching.closeEvent_keeps.linked
      · exact watching.linked

/-- The shed chain afresh leaves the tracker at rest. -/
theorem AtRest.shedCleared_keeps (h : AtRest s) : AtRest s.shedCleared := h.frame rfl rfl

/-- The abort (R152). -/
theorem AtRest.abortRestart_keeps (h : AtRest s) : AtRest (abortRestart s) := by
  have awaiting : AtRest (allPoints.foldl cancelAwait (allPoints.foldl shedInFlightRestore
      (allPoints.foldl cancelPendingRestore (stopRestartStep s)))) := h.frame (by simp) (by simp)
  have shedding := awaiting.linked.setShedding_rests awaiting.loaded
  rw [abortRestart_eq]
  exact shedding.shedCleared_keeps.startShedStep_rests 0

/-- The veto stop (R154). -/
theorem AtRest.vetoStop_linked (h : AtRest s) : Linked (vetoStop s) := by
  have awaiting : AtRest (allPoints.foldl cancelAwait (allPoints.foldl cancelPendingRestore (stopRestartStep s))) :=
    h.frame (by simp) (by simp)
  rw [vetoStop_eq]
  exact awaiting.enterHalted_linked.checkShedding_keeps

/-- The restart granted (R134, R142). -/
theorem grant_rests (loaded : s.iml.link ≠ .loading) :
    AtRest (beginRestart (setTracker .inactive (setSequence .restarting { s with ctk.held := none, ctk.window := none }))) := by
  refine ⟨by simpa using loaded, ?_, ?_, ?_⟩ <;> simp [setTracker_ctk]

/-- The event and the target leave the tracker, the sequence state and the load (R114). -/
theorem Linked.eventAtLevel_keeps (h : Linked s) : Linked (eventAtLevel s) := by
  refine h.frame (by simp) (by simp) ?_ ?_ <;>
  · unfold eventAtLevel
    (repeat' split) <;> simp [openEvent]

/-- Outside HALTED no consent is under way. -/
theorem Linked.inactive (h : Linked s) (run : s.seq.state ≠ .halted) :
    s.ctk.state = .inactive ∧ s.ctk.held = none ∧ s.ctk.window = none := by
  obtain ⟨-, held, window, rests⟩ := h
  have inactive := rests run
  exact ⟨inactive, by simpa [inactive] using held, by simpa [inactive] using window⟩

/-- Outside ONE no consent is held. -/
theorem Linked.unheld (h : Linked s) (other : s.ctk.state ≠ .one) : s.ctk.held = none ∧ s.ctk.window = none := by
  obtain ⟨-, held, window, -⟩ := h
  exact ⟨by simpa [other] using held, by simpa [other] using window⟩

/-- An active tracker changes in HALTED, holding a consent exactly in ONE. -/
theorem Linked.trackerTo (h : Linked s) (active : s.ctk.state ≠ .inactive) (seq : t.seq = s.seq) (iml : t.iml = s.iml)
    (held : t.ctk.held.isSome = true ↔ t.ctk.state = .one) (window : t.ctk.window.isSome = true ↔ t.ctk.state = .one) : Linked t := by
  obtain ⟨loading, -, -, rests⟩ := h
  refine ⟨?_, held, window, fun run => absurd (rests (seq ▸ run)) active⟩
  unfold LoadingOk at *
  rwa [iml, seq]

/-- Quiet reached at the tracker (R132). -/
theorem Linked.trackerQuietReached_keeps (h : Linked s) : Linked (trackerQuietReached s) := by
  unfold trackerQuietReached
  split
  · next waits =>
    obtain ⟨held, window⟩ := h.unheld (by simp [waits])
    exact h.trackerTo (by simp [waits]) (by simp) (by simp) (by simp [setTracker_ctk, held]) (by simp [setTracker_ctk, window])
  all_goals exact h

/-- Quiet cleared at the tracker (R132). -/
theorem Linked.trackerQuietCleared_keeps (h : Linked s) : Linked (trackerQuietCleared s) := by
  unfold trackerQuietCleared
  split
  · next opened =>
    obtain ⟨held, window⟩ := h.unheld (by simp [opened])
    exact h.trackerTo (by simp [opened]) (by simp) (by simp) (by simp [setTracker_ctk, held]) (by simp [setTracker_ctk, window])
  · next one =>
    exact h.trackerTo (by simp [one]) (by simp) (by simp) (by simp [setTracker_ctk, dropConsent_ctk])
      (by simp [setTracker_ctk, dropConsent_ctk])
  all_goals exact h

/-- A held consent given up (R135, R136, R138). -/
theorem Linked.consentBackToOpen_keeps (mark : ConsentMark) (h : Linked s) (one : s.ctk.state = .one) :
    Linked (consentBackToOpen mark s) := by
  unfold consentBackToOpen
  exact h.trackerTo (by simp [one]) (by simp) (by simp) (by simp [setTracker_ctk, dropConsent_ctk])
    (by simp [setTracker_ctk, dropConsent_ctk])

/-- A first consent held (R133). -/
theorem Linked.firstConsent_keeps (i : Fin 3) (n : Nat) (h : Linked s) (opened : s.ctk.state = .openState) :
    Linked (setTracker .one { s with ctk.held := some i, ctk.window := some n }) :=
  h.trackerTo (by simp [opened]) (by simp) (by simp) (by simp [setTracker_ctk]) (by simp [setTracker_ctk])

/-- The quiet rule (R117). -/
theorem Linked.quietRule_keeps (h : Linked s) : Linked (quietRule s) := by
  unfold quietRule
  split
  · next due =>
    have rests : AtRest s := by
      rcases due.1 with watch | noPlan
      · exact h.atRest (.inl (by simp [watch])) (by simp [watch])
      · exact h.atRest (.inl (by simp [noPlan])) (by simp [noPlan])
    exact rests.closeEvent_keeps.linked
  · exact h

end Sys2Proof.Machine

namespace Sys2Proof.Machine

/-! ### What changes the Sequencer and the tracker (O60) -/

/-- A property of the plan, the Sequencer, the tracker and the load that each way to change them keeps, where it happens. -/
structure ControlInvariant (P : State → Prop) : Prop where
  linked {s : State} : P s → Linked s
  same {s t : State} : t.control = s.control → P s → P t
  start {t : State} : t.control = State.reset.control → P t
  quietCleared {s : State} : P s → P (trackerQuietCleared s)
  quietReached {s : State} : P s → P (trackerQuietReached s)
  backToOpen {s : State} (mark : ConsentMark) : s.ctk.state = .one ∨ s.ctk.held.isSome = true → P s → P (consentBackToOpen mark s)
  firstConsent {s : State} (i : Fin 3) (n : Nat) : s.ctk.state = .openState → P s →
    P (setTracker .one { s with ctk.held := some i, ctk.window := some n })
  grant {s : State} : s.ctk.state = .one → P s →
    P (beginRestart (setTracker .inactive (setSequence .restarting { s with ctk.held := none, ctk.window := none })))
  eventAtLevel {s : State} : P s → P (eventAtLevel s)
  checkShedding {s : State} : P s → P (checkShedding s)
  quietRule {s : State} : P s → P (quietRule s)
  abort {s : State} : s.seq.state = .restarting → P s → P (abortRestart s)
  vetoStop {s : State} : s.seq.state = .restarting → P s → P (vetoStop s)
  afterShedDone {s : State} : s.shedRunning s.seq.pointer = true → P s → P (afterShedDone s.seq.pointer s)
  afterRestartDone {s : State} : s.restartRunning s.seq.restartPointer = true → P s →
    P (afterRestartDone s.seq.restartPointer s)
  completeRestart {s : State} : s.restartComplete = true → P s → P (completeRestart s)
  startupDecision {s : State} : s.seq.state = .startup → s.seq.phase = .polling → P s → P (startupDecision s)
  loaded {s : State} (pl : Plan) : pl.validate = none → s.iml.link = .loading → P s →
    P { s with pls.active := pl, iml.link := .idle, seq.phase := .polling }
  noPlan {s : State} : s.seq.state = .startup → s.iml.link ≠ .loading → P s → P (setSequence .noPlan s)
  recast {s : State} (pl : Plan) : pl.validate = none → s.seq.state = .watch ∨ s.seq.state = .noPlan → s.mev.level = .quiet →
    P s → P (commitSequencer { s with pls.active := pl })
  polling {s : State} : s.seq.state = .noPlan → s.pls.active.validate = none → P s →
    P (setSequence .startup { s with seq.phase := .polling })
  link {s : State} (l : Iml) : l.link ≠ .loading → P s → P { s with iml := l }

variable {s : State}

/-- In RESTARTING the tracker and the load are at rest. -/
theorem Linked.restarting_rests (h : Linked s) (restarting : s.seq.state = .restarting) : AtRest s :=
  h.atRest (.inl (by simp [restarting])) (by simp [restarting])

/-- A running shed step stands in SHEDDING. -/
theorem shedRunning_items {k : Nat} (runs : s.shedRunning k = true) :
    s.seq.state = .shedding ∧ statusAt s.seq.shedStatus k = .running := by
  simpa [State.shedRunning] using runs

/-- A running restart step stands in RESTARTING. -/
theorem restartRunning_items {k : Nat} (runs : s.restartRunning k = true) :
    s.seq.state = .restarting ∧ statusAt s.seq.restartStatus k = .running := by
  simpa [State.restartRunning] using runs

/-- A complete restart stands in RESTARTING, its pointer at the end of the chain. -/
theorem restartComplete_items (complete : s.restartComplete = true) :
    s.seq.state = .restarting ∧ s.pls.active.restartLen ≤ s.seq.restartPointer := by
  simp only [State.restartComplete, Bool.and_eq_true, beq_iff_eq, decide_eq_true_eq] at complete
  exact complete.1

/-- The tracker and the load stay in step with the sequence state. -/
theorem linked_control : ControlInvariant Linked where
  linked := id
  same := .same
  start same := Linked.same (s := State.reset) same ⟨fun _ => ⟨rfl, rfl⟩, by simp [State.reset, TrackerOk]⟩
  quietCleared := .trackerQuietCleared_keeps
  quietReached := .trackerQuietReached_keeps
  backToOpen mark held h := h.consentBackToOpen_keeps mark (held.elim id h.2.1.mp)
  firstConsent i n opened h := h.firstConsent_keeps i n opened
  grant one h := (grant_rests (h.loaded (.inl (by
    obtain ⟨-, -, -, rests⟩ := h
    intro startup
    simp [rests (by simp [startup])] at one)))).linked
  eventAtLevel := .eventAtLevel_keeps
  checkShedding := .checkShedding_keeps
  quietRule := .quietRule_keeps
  abort restarting h := (h.restarting_rests restarting).abortRestart_keeps.linked
  vetoStop restarting h := (h.restarting_rests restarting).vetoStop_linked
  afterShedDone runs h := by
    obtain ⟨shedding, -⟩ := shedRunning_items runs
    exact (h.atRest (.inl (by simp [shedding])) (by simp [shedding])).afterShedDone_linked _
  afterRestartDone runs h :=
    ((h.restarting_rests (restartRunning_items runs).1).frame (by simp) (by simp)).linked
  completeRestart complete h := by
    have rests := h.restarting_rests (restartComplete_items complete).1
    exact (AtRest.closeEvent_keeps (rests.frame (t := setSequence .watch _) (by simp) (by simp))).linked
  startupDecision startup polling h := (h.atRest (.inr (by simp [polling])) (by simp [startup])).startupDecision_linked
  loaded pl _ loading h := by
    obtain ⟨inactive, held, window⟩ := h.inactive (by simp [(h.1 loading).1])
    exact AtRest.linked ⟨nofun, inactive, held, window⟩
  noPlan startup loaded h := by
    obtain ⟨inactive, held, window⟩ := h.inactive (by simp [startup])
    exact AtRest.linked ⟨by simpa using loaded, by simpa using inactive, by simpa using held, by simpa using window⟩
  recast pl _ _ _ h := h.frame rfl rfl rfl rfl
  polling noPlan _ h := ((h.atRest (.inl (by simp [noPlan])) (by simp [noPlan])).frame (by simp) (by simp)).linked
  link l unloaded h := ⟨fun loading => absurd loading unloaded, h.2⟩

end Sys2Proof.Machine

namespace Sys2Proof.Machine

/-! ### The lengths of the chains (R46, R116) -/

/-- The depth of a level is at most 48 steps. -/
theorem Plan.depth_le (pl : Plan) (l : Level) : pl.depth l ≤ 48 := by
  unfold Plan.depth
  split
  · exact Nat.zero_le _
  · exact List.countP_le_length.trans (by simp [Plan.shedSteps])

/-- The shed chain has at most 48 steps. -/
theorem Plan.shedLen_le (pl : Plan) : pl.shedLen ≤ 48 :=
  (List.takeWhile_sublist _).length_le.trans (by simp [Plan.shedSteps])

/-- A plan that passes validation has its H0 (R55). -/
theorem Plan.shedLen_pos {pl : Plan} (valid : pl.validate = none) : 0 < pl.shedLen := by
  have first : pl.shed[(0 : Fin 48)].points ≠ [] :=
    (pl.presentAt_iff 0).1.mp ((validate_eq_none_iff pl).mp valid 3 (by decide) (by decide))
  have cons : pl.shedSteps = pl.shed[(0 : Fin 48)] :: pl.shedSteps.tail := by
    rw [← List.cons_head_tail (by simp [Plan.shedSteps] : pl.shedSteps ≠ [])]
    simp [Plan.shedSteps, List.head_eq_getElem]
  rw [Plan.shedLen, cons, List.takeWhile_cons_of_pos (by simpa [ShedStep.present] using first)]
  exact Nat.succ_pos _

/-! ### The statuses of the steps (R108, R141) -/

/-- No step of a chain runs. -/
def NoneRuns (v : Vector StepStatus 48) : Prop := ∀ k : Fin 48, v[k] ≠ .running

/-- A status set, read. -/
theorem setStatusAt_get (v : Vector StepStatus 48) (k : Nat) (st : StepStatus) (j : Fin 48) :
    (setStatusAt v k st)[j] = if j.val = k then st else v[j] := by
  unfold setStatusAt
  split
  · simp [Vector.getElem_set, eq_comm]
  · next past => rw [if_neg (by have := j.isLt; omega)]

/-- No step of a chain afresh runs. -/
theorem noneRuns_fresh : NoneRuns (Vector.replicate 48 .notStarted) := fun k => by simp

/-- No step runs after a status other than RUNNING is set at the one that ran, or where none ran. -/
theorem noneRuns_set {v : Vector StepStatus 48} {k : Nat} {st : StepStatus} (others : ∀ j : Fin 48, v[j] = .running → j.val = k)
    (ends : st ≠ .running) : NoneRuns (setStatusAt v k st) := fun j => by
  rw [setStatusAt_get]
  split
  · exact ends
  · next other => exact fun runs => other (others j runs)

/-- The step whose status is set RUNNING is the only one that runs, where none ran. -/
theorem set_runs {v : Vector StepStatus 48} (h : NoneRuns v) (k : Nat) (j : Fin 48) :
    (setStatusAt v k .running)[j] = .running ↔ j.val = k := by
  rw [setStatusAt_get]
  split
  · next here => simp [here]
  · next other => exact iff_of_false (h j) other

/-- No step runs when the present ones are set DONE where none ran (R111). -/
theorem noneRuns_allDone {v : Vector StepStatus 48} (h : NoneRuns v) (n : Nat) : NoneRuns (allDone v n) :=
  List.foldlRecOn (motive := NoneRuns) (List.range n) _ h
    (fun _ kept _ _ => noneRuns_set (fun j runs => absurd runs (kept j)) nofun)

/-- A running step is one of the 48. -/
theorem statusAt_running {v : Vector StepStatus 48} {k : Nat} (runs : statusAt v k = .running) : k < 48 := by
  unfold statusAt at runs
  split at runs
  · assumption
  · cases runs

/-! ### The Sequencer alone -/

/-- D, the shed target, the pointers and the statuses of a Sequencer in which no step runs. -/
def Seq.Standing (q : Seq) : Prop :=
  q.depth ≤ q.target ∧ q.target ≤ 48 ∧ (q.eventOpen = false → q.target = 0) ∧ q.pointer ≤ 48 ∧ q.restartPointer ≤ 48
    ∧ NoneRuns q.shedStatus ∧ NoneRuns q.restartStatus

/-- The depth and the chains of a Sequencer in step with its state, under a plan (R108, R115, R120, R129, R141, R148). -/
def Seq.InStep (q : Seq) (pl : Plan) : Prop :=
  DepthOk q ∧ q.pointer ≤ 48 ∧ q.restartPointer ≤ 48 ∧ (q.state = .shedding → q.pointer < q.target)
    ∧ (∀ k : Fin 48, q.shedStatus[k] = .running ↔ q.state = .shedding ∧ k.val = q.pointer)
    ∧ (∀ k : Fin 48, q.restartStatus[k] = .running
      ↔ q.state = .restarting ∧ k.val = q.restartPointer ∧ k.val < pl.restartLen)
    ∧ (q.state ≠ .noPlan → ¬ (q.state = .startup ∧ q.phase = .loading) → 0 < pl.shedLen)

/-- The Sequencer's invariant is the tracker and the load in step, and the Sequencer alone. -/
theorem chainsOk_iff (s : State) : ChainsOk s ↔ Linked s ∧ s.seq.InStep s.pls.active := by
  unfold ChainsOk Linked StepsOk Seq.InStep
  tauto

variable {q r : Seq} {pl : Plan} {s : State}

/-- The timers do not count. -/
theorem Seq.InStep.untimed (h : q.InStep pl) (same : r.untimed = q.untimed) : r.InStep pl := by
  have stands : r.untimed.InStep pl := same ▸ (show q.untimed.InStep pl from h)
  exact stands

/-- The timers do not count. -/
theorem Seq.Standing.untimed (h : q.Standing) (same : r.untimed = q.untimed) : r.Standing := by
  have stands : r.untimed.Standing := same ▸ (show q.untimed.Standing from h)
  exact stands

/-- Where neither chain runs, no step does. -/
theorem Seq.InStep.standing (h : q.InStep pl) (shed : q.state ≠ .shedding)
    (restart : q.state = .restarting → pl.restartLen ≤ q.restartPointer) : q.Standing := by
  obtain ⟨⟨depth, target, closed, -⟩, pointer, restartPointer, -, sheds, restarts, -⟩ := h
  refine ⟨depth, target, closed, pointer, restartPointer, fun k runs => shed ((sheds k).mp runs).1, fun k runs => ?_⟩
  obtain ⟨restarting, here, below⟩ := (restarts k).mp runs
  have := restart restarting
  omega

/-- STARTUP, NO_PLAN and WATCH. -/
theorem Seq.Standing.rests (h : q.Standing) (state : q.state = .startup ∨ q.state = .noPlan ∨ q.state = .watch)
    (depth : q.depth = 0) (plan : q.state ≠ .noPlan → ¬ (q.state = .startup ∧ q.phase = .loading) → 0 < pl.shedLen) :
    q.InStep pl := by
  obtain ⟨below, target, closed, pointer, restartPointer, sheds, restarts⟩ := h
  have others : q.state ≠ .shedding ∧ q.state ≠ .restarting ∧ q.state ≠ .halted := by
    rcases state with state | state | state <;> simp [state]
  obtain ⟨shedding, restarting, halted⟩ := others
  exact ⟨⟨below, target, closed, fun deep => absurd deep (not_or.mpr ⟨halted, restarting⟩), fun here => absurd here shedding,
    fun _ => depth⟩, pointer, restartPointer, fun here => absurd here shedding,
    fun k => iff_of_false (sheds k) (fun runs => shedding runs.1), fun k => iff_of_false (restarts k) (fun runs => restarting runs.1),
    plan⟩

/-- HALTED. -/
theorem Seq.Standing.halted (h : q.Standing) (halted : q.state = .halted) (deep : 1 ≤ q.depth) (plan : 0 < pl.shedLen) :
    q.InStep pl := by
  obtain ⟨below, target, closed, pointer, restartPointer, sheds, restarts⟩ := h
  exact ⟨⟨below, target, closed, fun _ => deep, by simp [halted], by simp [halted]⟩, pointer, restartPointer, by simp [halted],
    fun k => iff_of_false (sheds k) (by simp [halted]), fun k => iff_of_false (restarts k) (by simp [halted]), fun _ _ => plan⟩

/-- SHEDDING, its step begun. -/
theorem Seq.Standing.sheds (h : q.Standing) (shedding : q.state = .shedding) (due : q.pointer < q.target) (plan : 0 < pl.shedLen) :
    Seq.InStep { q with shedStatus := setStatusAt q.shedStatus q.pointer .running } pl := by
  obtain ⟨below, target, closed, pointer, restartPointer, sheds, restarts⟩ := h
  have opened : q.eventOpen = true := by
    by_contra other
    have := closed (by simpa using other)
    omega
  exact ⟨⟨below, target, closed, by simp [shedding], fun _ => opened, by simp [shedding]⟩, pointer, restartPointer, fun _ => due,
    fun k => (set_runs sheds _ k).trans (by simp [shedding]), fun k => iff_of_false (restarts k) (by simp [shedding]), fun _ _ => plan⟩

/-- RESTARTING, its step begun. -/
theorem Seq.Standing.restarts (h : q.Standing) (restarting : q.state = .restarting) (deep : 1 ≤ q.depth)
    (due : q.restartPointer < pl.restartLen) (plan : 0 < pl.shedLen) :
    Seq.InStep { q with restartStatus := setStatusAt q.restartStatus q.restartPointer .running } pl := by
  obtain ⟨below, target, closed, pointer, restartPointer, sheds, restarts⟩ := h
  refine ⟨⟨below, target, closed, fun _ => deep, by simp [restarting], by simp [restarting]⟩, pointer, restartPointer,
    by simp [restarting], fun k => iff_of_false (sheds k) (by simp [restarting]), fun k => ?_, fun _ _ => plan⟩
  refine (set_runs restarts _ k).trans ⟨fun here => ⟨restarting, here, ?_⟩, fun runs => runs.2.1⟩
  exact here ▸ due

/-- RESTARTING, its chain at its end. -/
theorem Seq.Standing.restartEnds (h : q.Standing) (restarting : q.state = .restarting) (deep : 1 ≤ q.depth)
    (ended : pl.restartLen ≤ q.restartPointer) (plan : 0 < pl.shedLen) : q.InStep pl := by
  obtain ⟨below, target, closed, pointer, restartPointer, sheds, restarts⟩ := h
  refine ⟨⟨below, target, closed, fun _ => deep, by simp [restarting], by simp [restarting]⟩, pointer, restartPointer,
    by simp [restarting], fun k => iff_of_false (sheds k) (by simp [restarting]), fun k => iff_of_false (restarts k) ?_,
    fun _ _ => plan⟩
  rintro ⟨-, here, below⟩
  omega

/-- The shed pointer moved within the chain. -/
theorem Seq.Standing.pointAt (h : q.Standing) {k : Nat} (within : k ≤ 48) : Seq.Standing { q with pointer := k } := by
  obtain ⟨below, target, closed, -, restartPointer, sheds, restarts⟩ := h
  exact ⟨below, target, closed, within, restartPointer, sheds, restarts⟩

/-! ### The Sequencer's operations, by what they make of it -/

/-- A shed step starts (R121). -/
theorem startShedStep_seq (k : Nat) (s : State) : (startShedStep k s).seq.untimed
    = Seq.untimed { s.seq with shedStatus := setStatusAt s.seq.shedStatus k .running } := by
  simp [startShedStep, Seq.untimed]

/-- A restart step starts (R143). -/
theorem startRestartStep_seq (k : Nat) (s : State) : (startRestartStep k s).seq.untimed
    = Seq.untimed { s.seq with restartStatus := setStatusAt s.seq.restartStatus k .running } := by
  simp [startRestartStep, Seq.untimed]

/-- SHEDDING entered from WATCH (R119). -/
theorem shedFromWatch_seq (s : State) : (shedFromWatch s).seq.untimed = Seq.untimed
    { s.seq with state := .shedding, pointer := 0, shedStatus := setStatusAt s.seq.shedStatus 0 .running } := by
  rw [shedFromWatch_eq, startShedStep_seq]
  simp [setShedding_seq, State.atPointer]

/-- SHEDDING entered from HALTED (R119). -/
theorem shedFromHalted_seq (s : State) : (shedFromHalted s).seq.untimed = Seq.untimed
    { s.seq with state := .shedding, pointer := s.seq.depth, shedStatus := setStatusAt s.seq.shedStatus s.seq.depth .running } := by
  rw [shedFromHalted_eq, startShedStep_seq]
  simp [setShedding_seq, State.atPointer]

/-- An event opens (R114, R116). -/
theorem openEvent_seq (s : State) : (openEvent s).seq.untimed = Seq.untimed
    { s.seq with
      eventOpen := true
      depth := 0
      shedStatus := Vector.replicate 48 .notStarted
      pointer := 0
      target := s.pls.active.depth s.mev.level } := by
  simp [openEvent, resetPeaks, Seq.untimed]

/-- Where a restart step runs, it is the one at the pointer. -/
theorem Seq.InStep.restart_runs (h : s.seq.InStep pl) {k : Fin 48} (runs : s.seq.restartStatus[k] = .running) :
    k.val = s.seq.restartPointer ∧ s.restartRunning s.seq.restartPointer = true := by
  obtain ⟨-, -, -, -, -, restarts, -⟩ := h
  obtain ⟨restarting, here, -⟩ := (restarts k).mp runs
  have status : statusAt s.seq.restartStatus k.val = .running := (dif_pos k.isLt).trans runs
  exact ⟨here, by rw [here] at status; simp [State.restartRunning, restarting, status]⟩

/-- In RESTARTING no step runs once the running one is stopped; D, the target and the event stand (R152, R154). -/
theorem stopRestartStep_standing (h : s.seq.InStep pl) (restarting : s.seq.state = .restarting) :
    (stopRestartStep s).seq.Standing ∧ (stopRestartStep s).seq.depth = s.seq.depth := by
  have runs {k : Fin 48} := h.restart_runs (k := k)
  obtain ⟨⟨depth, target, closed, -⟩, pointer, restartPointer, -, sheds, -, -⟩ := h
  have unshed : NoneRuns s.seq.shedStatus := fun k runs => by simpa [restarting] using (sheds k).mp runs
  unfold stopRestartStep
  split
  · exact ⟨⟨depth, target, closed, pointer, restartPointer, unshed, noneRuns_set (fun j here => (runs here).1) nofun⟩, rfl⟩
  · next idle => exact ⟨⟨depth, target, closed, pointer, restartPointer, unshed, fun k here => idle (runs here).2⟩, rfl⟩

end Sys2Proof.Machine

namespace Sys2Proof.Machine

/-! ### The chains over the Sequencer's operations (O60) -/

variable {q : Seq} {pl : Plan} {s : State}

/-- Beyond LOADING and NO_PLAN the plan has its H0. -/
theorem Seq.InStep.plan (h : q.InStep pl) (plan : q.state ≠ .noPlan) (ended : ¬ (q.state = .startup ∧ q.phase = .loading)) :
    0 < pl.shedLen := by
  obtain ⟨-, -, -, -, -, -, shed⟩ := h
  exact shed plan ended

/-- In STARTUP, NO_PLAN and WATCH D is 0 and no step runs. -/
theorem Seq.InStep.low (h : q.InStep pl) (state : q.state = .startup ∨ q.state = .noPlan ∨ q.state = .watch) :
    q.Standing ∧ q.depth = 0 := by
  have others : q.state ≠ .shedding ∧ q.state ≠ .restarting := by rcases state with state | state | state <;> simp [state]
  exact ⟨h.standing others.1 (fun here => absurd here others.2), by
    obtain ⟨⟨-, -, -, -, -, low⟩, -⟩ := h
    exact low state⟩

/-- With no event open the state is STARTUP, NO_PLAN or WATCH. -/
theorem Seq.InStep.closed (h : q.InStep pl) (closed : q.eventOpen = false) :
    q.state = .startup ∨ q.state = .noPlan ∨ q.state = .watch := by
  obtain ⟨⟨below, -, empty, deep, shedding, -⟩, -⟩ := h
  have target := empty closed
  cases state : q.state with
  | startup => exact .inl rfl
  | noPlan => exact .inr (.inl rfl)
  | watch => exact .inr (.inr rfl)
  | shedding => simp [shedding state] at closed
  | halted => have := deep (.inl state); omega
  | restarting => have := deep (.inr state); omega

/-- An event opens in STARTUP, NO_PLAN or WATCH (R114). -/
theorem openEvent_inStep (h : s.seq.Standing) (state : s.seq.state = .startup ∨ s.seq.state = .noPlan ∨ s.seq.state = .watch)
    (plan : s.seq.state ≠ .noPlan → ¬ (s.seq.state = .startup ∧ s.seq.phase = .loading) → 0 < pl.shedLen) :
    (openEvent s).seq.InStep pl := by
  obtain ⟨-, -, -, -, restartPointer, -, restarts⟩ := h
  refine Seq.InStep.untimed (Seq.Standing.rests ?_ ?_ ?_ ?_) (openEvent_seq s)
  · exact ⟨Nat.zero_le _, Plan.depth_le _ _, nofun, Nat.zero_le _, restartPointer, noneRuns_fresh, restarts⟩
  · exact state
  · rfl
  · exact plan

/-- The event and the target at a change of level (R114, R116). -/
theorem Seq.InStep.eventAtLevel (h : s.seq.InStep pl) : (Machine.eventAtLevel s).seq.InStep pl := by
  unfold Machine.eventAtLevel
  split
  · next opened =>
    obtain ⟨⟨below, target, closed, deep, shedding, low⟩, pointer, restartPointer, due, sheds, restarts, plan⟩ := h
    exact ⟨⟨below.trans (le_max_left _ _), max_le target (Plan.depth_le _ _), fun no => by simp [opened] at no, deep, shedding, low⟩,
      pointer, restartPointer, fun here => (due here).trans_le (le_max_left _ _), sheds, restarts, plan⟩
  · next unopened =>
    split
    · exact h
    · have state := h.closed (by simpa using unopened)
      exact openEvent_inStep (h.low state).1 state h.plan

/-- A shed step starts at the pointer, in SHEDDING (R121). -/
theorem startShedStep_inStep {k : Nat} (h : s.seq.Standing) (shedding : s.seq.state = .shedding) (here : s.seq.pointer = k)
    (due : k < s.seq.target) (plan : 0 < pl.shedLen) : (startShedStep k s).seq.InStep pl := by
  subst here
  exact (h.sheds shedding due plan).untimed (startShedStep_seq _ s)

/-- A restart step starts at the pointer, in RESTARTING (R143). -/
theorem startRestartStep_inStep {k : Nat} (h : s.seq.Standing) (restarting : s.seq.state = .restarting) (deep : 1 ≤ s.seq.depth)
    (here : s.seq.restartPointer = k) (due : k < pl.restartLen) (plan : 0 < pl.shedLen) :
    (startRestartStep k s).seq.InStep pl := by
  subst here
  exact (h.restarts restarting deep due plan).untimed (startRestartStep_seq _ s)

/-- SHEDDING entered from WATCH with a target above 0 (R119). -/
theorem shedFromWatch_inStep (h : s.seq.Standing) (due : 0 < s.seq.target) (plan : 0 < pl.shedLen) :
    (shedFromWatch s).seq.InStep pl :=
  Seq.InStep.untimed (Seq.Standing.sheds (q := { s.seq with state := .shedding, pointer := 0 }) (h.pointAt (Nat.zero_le _)) rfl due plan)
    (shedFromWatch_seq s)

/-- SHEDDING entered from HALTED with a target above D (R119). -/
theorem shedFromHalted_inStep (h : s.seq.Standing) (due : s.seq.depth < s.seq.target) (plan : 0 < pl.shedLen) :
    (shedFromHalted s).seq.InStep pl := by
  have within : s.seq.depth ≤ 48 := by
    obtain ⟨-, target, -⟩ := h
    omega
  exact Seq.InStep.untimed (Seq.Standing.sheds (q := { s.seq with state := .shedding, pointer := s.seq.depth }) (h.pointAt within) rfl due
    plan) (shedFromHalted_seq s)

/-- The check of R119. -/
theorem Seq.InStep.checkShedding (h : s.seq.InStep pl) : (Machine.checkShedding s).seq.InStep pl := by
  unfold Machine.checkShedding
  split
  · next due =>
    split
    · next watch =>
      exact shedFromWatch_inStep (h.standing (by simp [watch]) (by simp [watch])) ((Nat.zero_le _).trans_lt due)
        (h.plan (by simp [watch]) (by simp [watch]))
    · next halted =>
      exact shedFromHalted_inStep (h.standing (by simp [halted]) (by simp [halted])) due
        (h.plan (by simp [halted]) (by simp [halted]))
    all_goals exact h
  · exact h

/-- An event closes in WATCH or NO_PLAN (R118). -/
theorem closeEvent_inStep (h : s.seq.Standing) (state : s.seq.state = .noPlan ∨ s.seq.state = .watch)
    (plan : s.seq.state ≠ .noPlan → 0 < pl.shedLen) : (closeEvent s).seq.InStep pl := by
  obtain ⟨seq, -⟩ := s.shut_items
  have standing : s.shut.seq.Standing := by
    obtain ⟨-, -, -, pointer, restartPointer, sheds, restarts⟩ := h
    rw [seq]
    exact ⟨le_rfl, Nat.zero_le _, fun _ => rfl, pointer, restartPointer, sheds, restarts⟩
  have same : s.shut.seq.state = s.seq.state := by rw [seq]
  have depth : s.shut.seq.depth = 0 := by rw [seq]
  rw [← same] at state plan
  rw [closeEvent_eq]
  generalize s.shut = t at *
  split
  · exact standing.rests (.inr state) depth (fun other _ => plan other)
  · exact (openEvent_inStep standing (.inr state) (fun other _ => plan other)).checkShedding

/-- The quiet rule (R117). -/
theorem Seq.InStep.quietRule (h : s.seq.InStep pl) : (Machine.quietRule s).seq.InStep pl := by
  unfold Machine.quietRule
  split
  · next due =>
    exact closeEvent_inStep (h.low (.inr due.1.symm)).1 due.1.symm fun other => h.plan other (by
      rcases due.1 with state | state <;> simp [state])
  · exact h

/-- HALTED entered with D at least 1 (R120). -/
theorem enterHalted_inStep (h : s.seq.Standing) (deep : 1 ≤ s.seq.depth) (plan : 0 < pl.shedLen) : (enterHalted s).seq.InStep pl := by
  rw [enterHalted_seq]
  exact Seq.Standing.halted (q := { s.seq with state := .halted }) h rfl deep plan

/-- The abort (R152). -/
theorem Seq.InStep.abort (h : s.seq.InStep pl) (restarting : s.seq.state = .restarting) : (abortRestart s).seq.InStep pl := by
  have plan := h.plan (by simp [restarting]) (by simp [restarting])
  obtain ⟨⟨below, target, closed, pointer, restartPointer, sheds, restarts⟩, depth⟩ := stopRestartStep_standing h restarting
  have deep : 1 ≤ s.seq.depth := by
    obtain ⟨⟨-, -, -, deep, -⟩, -⟩ := h
    exact deep (.inr restarting)
  rw [abortRestart_eq]
  have seq : (setShedding (allPoints.foldl cancelAwait (allPoints.foldl shedInFlightRestore
      (allPoints.foldl cancelPendingRestore (stopRestartStep s))))).seq = { (stopRestartStep s).seq with state := .shedding } := by
    simp [setShedding_seq]
  generalize setShedding _ = t at seq
  refine startShedStep_inStep ?_ ?_ rfl ?_ plan
  · simp only [State.shedCleared, seq]
    refine ⟨le_max_left _ _, max_le (below.trans target) (Plan.depth_le _ _), fun no => ?_, Nat.zero_le _, restartPointer,
      noneRuns_fresh, restarts⟩
    have := closed no
    omega
  · simp only [State.shedCleared, seq]
  · simp only [State.shedCleared, seq]
    exact (by omega : 0 < (stopRestartStep s).seq.depth).trans_le (le_max_left _ _)

/-- The veto stop (R154). -/
theorem Seq.InStep.vetoStop (h : s.seq.InStep pl) (restarting : s.seq.state = .restarting) : (Machine.vetoStop s).seq.InStep pl := by
  have plan := h.plan (by simp [restarting]) (by simp [restarting])
  obtain ⟨standing, depth⟩ := stopRestartStep_standing h restarting
  have deep : 1 ≤ s.seq.depth := by
    obtain ⟨⟨-, -, -, deep, -⟩, -⟩ := h
    exact deep (.inr restarting)
  have seq : (allPoints.foldl cancelAwait (allPoints.foldl cancelPendingRestore (stopRestartStep s))).seq = (stopRestartStep s).seq := by
    simp
  rw [vetoStop_eq]
  generalize allPoints.foldl cancelAwait _ = t at seq
  rw [← seq] at standing depth
  exact (enterHalted_inStep standing (depth ▸ deep) plan).checkShedding

/-- What follows a shed step's DONE (R126). -/
theorem Seq.InStep.afterShedDone (h : s.seq.InStep pl) (runs : s.shedRunning s.seq.pointer = true) :
    (Machine.afterShedDone s.seq.pointer s).seq.InStep pl := by
  obtain ⟨shedding, status⟩ := shedRunning_items runs
  have plan := h.plan (by simp [shedding]) (by simp [shedding])
  have within := statusAt_running status
  obtain ⟨⟨below, target, closed, -⟩, -, restartPointer, due, sheds, restarts, -⟩ := h
  have here := due shedding
  have standing : (s.shedDone s.seq.pointer).seq.Standing :=
    ⟨max_le below here, target, closed, within, restartPointer, noneRuns_set (fun j runs => ((sheds j).mp runs).2) nofun,
      fun k runs => by simpa [shedding] using (restarts k).mp runs⟩
  rw [afterShedDone_eq]
  split
  · next more =>
    exact startShedStep_inStep standing shedding rfl more plan
  · have deep : 1 ≤ max s.seq.depth (s.seq.pointer + 1) := by omega
    exact enterHalted_inStep standing deep plan

/-- What follows a restart step's DONE (R147). -/
theorem Seq.InStep.afterRestartDone (h : s.seq.InStep s.pls.active) (runs : s.restartRunning s.seq.restartPointer = true) :
    (Machine.afterRestartDone s.seq.restartPointer s).seq.InStep s.pls.active := by
  obtain ⟨restarting, status⟩ := restartRunning_items runs
  have plan := h.plan (by simp [restarting]) (by simp [restarting])
  have within := statusAt_running status
  obtain ⟨⟨below, target, closed, deep, -⟩, pointer, -, -, sheds, restarts, -⟩ := h
  have standing : (s.restartDone s.seq.restartPointer).seq.Standing :=
    ⟨below, target, closed, pointer, within, fun k runs => by simpa [restarting] using (sheds k).mp runs,
      noneRuns_set (fun j runs => ((restarts j).mp runs).2.1) nofun⟩
  rw [afterRestartDone_eq]
  split
  · next more =>
    exact startRestartStep_inStep standing restarting (deep (.inr restarting)) rfl more plan
  · next ended => exact standing.restartEnds restarting (deep (.inr restarting)) (not_lt.mp ended) plan

/-- The completion of a restart (R148). -/
theorem Seq.InStep.completeRestart (h : s.seq.InStep s.pls.active) (complete : s.restartComplete = true) :
    (Machine.completeRestart s).seq.InStep s.pls.active := by
  obtain ⟨restarting, ended⟩ := restartComplete_items complete
  have plan := h.plan (by simp [restarting]) (by simp [restarting])
  have standing : (setSequence .watch s).seq.Standing := by
    rw [setSequence_seq]
    exact h.standing (by simp [restarting]) (fun _ => ended)
  exact closeEvent_inStep standing (.inr (by rw [setSequence_seq])) (fun _ => plan)

/-- An event is open (R111). -/
theorem withEvent_standing (h : s.seq.Standing) : s.withEvent.seq.Standing ∧ s.withEvent.seq.eventOpen = true := by
  unfold State.withEvent
  split
  · next opened => exact ⟨h, opened⟩
  · obtain ⟨-, -, -, -, restartPointer, -, restarts⟩ := h
    refine ⟨Seq.Standing.untimed ?_ (openEvent_seq s), by simp [openEvent, resetPeaks]⟩
    exact ⟨Nat.zero_le _, Plan.depth_le _ _, nofun, Nat.zero_le _, restartPointer, noneRuns_fresh, restarts⟩

/-- The whole shed chain counts as done (R111). -/
theorem allShed_standing (h : s.seq.Standing) (opened : s.seq.eventOpen = true) : s.allShed.seq.Standing := by
  obtain ⟨-, -, -, -, restartPointer, sheds, restarts⟩ := h
  exact ⟨le_rfl, Plan.shedLen_le _, fun no => by simp [show s.seq.eventOpen = false from no] at opened, Plan.shedLen_le _,
    restartPointer, noneRuns_allDone sheds _, restarts⟩

/-- The start-up decision (R111). -/
theorem Seq.InStep.startupDecision (h : s.seq.InStep s.pls.active) (startup : s.seq.state = .startup)
    (polling : s.seq.phase = .polling) : (Machine.startupDecision s).seq.InStep s.pls.active := by
  have plan := h.plan (by simp [startup]) (by simp [polling])
  obtain ⟨standing, depth⟩ := h.low (.inl startup)
  rw [startupDecision_eq]
  split
  · obtain ⟨standing, opened⟩ := withEvent_standing standing
    have kept : s.withEvent.pls = s.pls := by
      unfold State.withEvent
      split <;> simp
    have deep : 1 ≤ s.withEvent.allShed.seq.depth := by
      show 1 ≤ s.withEvent.pls.active.shedLen
      rw [kept]
      exact plan
    have halted : (enterHalted s.withEvent.allShed).seq.InStep s.pls.active :=
      enterHalted_inStep (allShed_standing standing opened) deep plan
    simpa using halted
  · have watch : (setSequence .watch s).seq.Standing := by
      rw [setSequence_seq]
      exact standing
    split
    · next due => exact shedFromWatch_inStep watch ((Nat.zero_le _).trans_lt due) plan
    · split
      · exact closeEvent_inStep watch (.inr (by rw [setSequence_seq])) (fun _ => plan)
      · exact watch.rests (.inr (.inr (by rw [setSequence_seq]))) (by rw [setSequence_seq]; exact depth) (fun _ _ => plan)

/-- The restart granted in HALTED (R134, R142). -/
theorem Seq.InStep.grant (h : s.seq.InStep s.pls.active) (halted : s.seq.state = .halted) :
    (beginRestart (setTracker .inactive (setSequence .restarting
      { s with ctk.held := none, ctk.window := none }))).seq.InStep s.pls.active := by
  have plan := h.plan (by simp [halted]) (by simp [halted])
  have standing := h.standing (by simp [halted]) (by simp [halted])
  have deep : 1 ≤ s.seq.depth := by
    obtain ⟨⟨-, -, -, deep, -⟩, -⟩ := h
    exact deep (.inl halted)
  obtain ⟨t, made⟩ : ∃ t, t = setTracker .inactive (setSequence .restarting { s with ctk.held := none, ctk.window := none }) :=
    ⟨_, rfl⟩
  have seq : t.seq = { s.seq with state := .restarting } := by simp [made, setSequence_seq]
  have pls : t.pls = s.pls := by simp [made]
  rw [← made, beginRestart_eq, ← pls]
  rw [← pls] at plan
  have cleared : t.restartCleared.seq.Standing := by
    obtain ⟨below, target, closed, pointer, -, sheds, -⟩ := standing
    simp only [State.restartCleared, seq]
    exact ⟨below, target, closed, pointer, Nat.zero_le _, sheds, noneRuns_fresh⟩
  have restarting : t.restartCleared.seq.state = .restarting := by simp only [State.restartCleared, seq]
  have stands : 1 ≤ t.restartCleared.seq.depth := by simpa only [State.restartCleared, seq] using deep
  split
  · next more =>
    exact startRestartStep_inStep cleared restarting stands rfl more plan
  · next none => exact cleared.restartEnds restarting stands (not_lt.mp none) plan

/-- The chains stay in step where the tracker and the load do and the Sequencer does, under the same plan. -/
theorem chainsOk_of {t : State} (h : ChainsOk s) (linked : Linked s → Linked t) (pls : t.pls = s.pls)
    (chains : s.seq.InStep s.pls.active → t.seq.InStep s.pls.active) : ChainsOk t := by
  obtain ⟨link, steps⟩ := (chainsOk_iff s).mp h
  exact (chainsOk_iff t).mpr ⟨linked link, pls ▸ chains steps⟩

/-- The chains stay in step where the tracker and the load do and the Sequencer stands. -/
theorem chainsOk_stands {t : State} (h : ChainsOk s) (linked : Linked s → Linked t) (pls : t.pls = s.pls) (seq : t.seq = s.seq) :
    ChainsOk t :=
  chainsOk_of h linked pls (fun steps => seq ▸ steps)

/-- The chains, with the tracker and the load, stay in step with the sequence state. -/
theorem chains_control : ControlInvariant ChainsOk where
  linked h := ((chainsOk_iff _).mp h).1
  same {s t} same h := by
    obtain ⟨linked, chains⟩ := (chainsOk_iff s).mp h
    have blocks := same
    simp only [State.control, Prod.mk.injEq] at blocks
    exact (chainsOk_iff t).mpr ⟨linked.same same, blocks.1 ▸ chains.untimed blocks.2.1⟩
  start {t} same := by
    have blocks := same
    simp only [State.control, Prod.mk.injEq] at blocks
    refine (chainsOk_iff t).mpr ⟨linked_control.start same, blocks.1 ▸ Seq.InStep.untimed ?_ blocks.2.1⟩
    exact Seq.Standing.rests ⟨le_rfl, Nat.zero_le _, fun _ => rfl, Nat.zero_le _, Nat.zero_le _, noneRuns_fresh, noneRuns_fresh⟩
      (.inl rfl) rfl (fun _ ended => absurd ⟨rfl, rfl⟩ ended)
  quietCleared h := chainsOk_stands h linked_control.quietCleared (by simp) (by simp)
  quietReached h := chainsOk_stands h linked_control.quietReached (by simp) (by simp)
  backToOpen mark one h := chainsOk_stands h (linked_control.backToOpen mark one) (by simp) (by simp)
  firstConsent i n opened h := chainsOk_stands h (linked_control.firstConsent i n opened) (by simp) (by simp)
  grant one h := chainsOk_of h (linked_control.grant one) (by simp) (fun steps => steps.grant (by
    obtain ⟨-, ⟨-, -, rests⟩, -⟩ := h
    by_contra other
    simp [rests other] at one))
  eventAtLevel h := chainsOk_of h linked_control.eventAtLevel (by simp) .eventAtLevel
  checkShedding h := chainsOk_of h linked_control.checkShedding (by simp) .checkShedding
  quietRule h := chainsOk_of h linked_control.quietRule (by simp) .quietRule
  abort restarting h := chainsOk_of h (linked_control.abort restarting) (by simp) (fun steps => steps.abort restarting)
  vetoStop restarting h := chainsOk_of h (linked_control.vetoStop restarting) (by simp) (fun steps => steps.vetoStop restarting)
  afterShedDone runs h := chainsOk_of h (linked_control.afterShedDone runs) (by simp) (fun steps => steps.afterShedDone runs)
  afterRestartDone runs h :=
    chainsOk_of h (linked_control.afterRestartDone runs) (by simp) (fun steps => steps.afterRestartDone runs)
  completeRestart complete h :=
    chainsOk_of h (linked_control.completeRestart complete) (by simp) (fun steps => steps.completeRestart complete)
  startupDecision startup polling h :=
    chainsOk_of h (linked_control.startupDecision startup polling) (by simp) (fun steps => steps.startupDecision startup polling)
  loaded {s} pl valid loading h := by
    obtain ⟨linked, steps⟩ := (chainsOk_iff s).mp h
    have startup := (linked.1 loading).1
    obtain ⟨standing, depth⟩ := steps.low (.inl startup)
    refine (chainsOk_iff _).mpr ⟨linked_control.loaded pl valid loading linked, ?_⟩
    exact Seq.Standing.rests (q := { s.seq with phase := .polling }) standing (.inl startup) depth
      (fun _ _ => Plan.shedLen_pos valid)
  noPlan {s} startup unloaded h := chainsOk_of h (linked_control.noPlan startup unloaded) (by simp) (fun steps => by
    obtain ⟨standing, depth⟩ := steps.low (.inl startup)
    rw [setSequence_seq]
    exact Seq.Standing.rests (q := { s.seq with state := .noPlan }) standing (.inr (.inl rfl)) depth (fun other => absurd rfl other))
  recast {s} pl valid state quiet h := by
    obtain ⟨linked, steps⟩ := (chainsOk_iff s).mp h
    obtain ⟨standing, depth⟩ := steps.low (.inr state.symm)
    refine (chainsOk_iff _).mpr ⟨linked_control.recast pl valid state quiet linked, ?_⟩
    have target : max s.seq.depth (pl.depth s.mev.level) = 0 := by simp [depth, quiet, Plan.depth]
    refine Seq.Standing.rests ?_ (.inr state.symm) depth (fun _ _ => Plan.shedLen_pos valid)
    exact ⟨le_max_left _ _, (le_of_eq target).trans (Nat.zero_le _), fun _ => target,
      Nat.zero_le _, Nat.zero_le _, noneRuns_fresh, noneRuns_fresh⟩
  polling {s} noPlan valid h := chainsOk_of h (linked_control.polling noPlan valid) (by simp) (fun steps => by
    obtain ⟨standing, depth⟩ := steps.low (.inr (.inl noPlan))
    rw [setSequence_seq]
    exact Seq.Standing.rests (q := { s.seq with state := .startup, phase := .polling }) standing (.inl rfl) depth
      (fun _ _ => Plan.shedLen_pos valid))
  link l unloaded h := chainsOk_of h (linked_control.link l unloaded) rfl id

end Sys2Proof.Machine

namespace Sys2Proof.Machine

/-! ### What every command keeps: `f_keeps` says that `f` keeps each such property (O60) -/

/-- The second state has the plan, the points, the Sequencer, the tracker, the loop and the store of the first. -/
structure SameCore (s t : State) : Prop where
  plan : t.pls.active = s.pls.active
  ptm : t.ptm = s.ptm
  seq : t.seq = s.seq
  ctk : t.ctk = s.ctk
  flc : t.flc = s.flc
  iml : t.iml = s.iml

/-- A property of the plant, the Sequencer, the tracker and the load that each way to change them keeps, where it happens. -/
structure Kept (P : State → Prop) : Prop extends LevelInvariant P where
  start {t : State} : t.control = State.reset.control → t.plant = State.reset.plant → P t
  quietReached {s : State} : P s → P (trackerQuietReached s)
  quietRule {s : State} : P s → P (quietRule s)
  settle {s : State} : P s → P (settle s)
  checkRound {s : State} : P s → P (checkRound s)
  backToOpen {s : State} (mark : ConsentMark) : s.ctk.state = .one ∨ s.ctk.held.isSome = true → P s → P (consentBackToOpen mark s)
  firstConsent {s : State} (i : Fin 3) (n : Nat) : s.ctk.state = .openState → P s →
    P (setTracker .one { s with ctk.held := some i, ctk.window := some n })
  grant {s : State} : s.ctk.state = .one → P s →
    P (beginRestart (setTracker .inactive (setSequence .restarting { s with ctk.held := none, ctk.window := none })))
  resolve {s : State} {f g : InFlight} (st : Fin 16) (r : Result) (outs : Option (Vector OutputStatus 4)) :
    s.flc.inFlight = some g → g.order = f.order → g.voided = f.voided → P s → P (resolve f st r outs s)
  chooseAfter {s : State} {f : InFlight} : s.flc.inFlight = some f → f.order = .tripAll → P s → P (chooseAfter s)
  wantShed {s : State} {p : Fin 64} (c : Cause) : s.pointState p ≠ .unused → P s → P (wantShed p c s)
  stillMove {s : State} {p : Fin 64} {new : PointState} (c : Cause) : (s.pointState p).still → s.pointState p ≠ .unused →
    new.still → new ≠ .unused → new.counts = false → P s → P (movePoint p new c s)
  afterShedDone {s : State} {k : Nat} : s.seq.pointer = k → s.shedRunning k = true → P s → P (afterShedDone k s)
  afterRestartDone {s : State} {k : Nat} : s.seq.restartPointer = k → s.restartRunning k = true → P s → P (afterRestartDone k s)
  vetoStop {s : State} : s.seq.state = .restarting → P s → P (vetoStop s)
  loaded {s : State} (pl : Plan) : pl.validate = none → s.iml.link = .loading → P s →
    P (loadHandOver (loadRecords .loaded .none { s with pls.active := pl, iml.link := .idle, seq.phase := .polling }))
  loadFailed {s : State} (reason : LoadReason) : s.iml.link = .loading → P s →
    P (setSequence .noPlan (loadHandOver (loadRecords .loadFailed reason { s with iml.link := .idle })))
  recast {s t : State} : t.pls.active.validate = none → s.mayCommit = true → t.mev.level = s.mev.level → t.ptm = s.ptm →
    t.seq = s.seq → t.ctk = s.ctk → t.flc = s.flc → t.iml = s.iml → P s →
    P (allPoints.foldl (commitPoint s.pls.active) (commitSequencer t))
  polling {s : State} : s.seq.state = .noPlan → s.pls.active.validate = none → P s →
    P (setSequence .startup { s with seq.phase := .polling })
  link {s : State} (l : Iml) : l.link ≠ .loading → P s → P { s with iml := l }

namespace Kept

variable {P : State → Prop} {s t : State}

/-- The six blocks stand. -/
theorem core (I : Kept P) (same : SameCore s t) (h : P s) : P t := by
  obtain ⟨plan, ptm, seq, ctk, flc, iml⟩ := same
  exact I.same (by simp only [State.control, plan, seq, ctk, iml]) (plant_of_blocks plan ptm flc) h

/-- A record posted. -/
theorem post_keeps (I : Kept P) (b : Body) (h : P s) : P (post b s) :=
  I.core ⟨by simp, by simp, by simp, by simp, by simp, by simp⟩ h

/-- A reply. -/
theorem reply_keeps (I : Kept P) (p : Fin 3) (status : ReplyStatus) (payload : List Byte) (h : P s) : P (reply p status payload s) :=
  I.core ⟨by simp, by simp, by simp, by simp, by simp, by simp⟩ h

/-! #### The sensors -/

/-- A partial frame abandoned on a sensor port (R1). -/
theorem abandonFrame_keeps (I : Kept P) (i : Fin 6) (h : P s) : P (abandonFrame i s) := by
  unfold abandonFrame
  split
  · exact h
  · exact I.units h (by simp [State.units])

/-! #### The points -/

/-- A point of a station that becomes UNREACHABLE (R77). -/
theorem unreachablePoint_keeps (I : Kept P) (p : Fin 64) (h : P s) : P (unreachablePoint s p) := by
  have forgot : P (s.modPoint p (fun e => { e with contact := .unknown, lockout := .unknown, relay := .unknown })) :=
    I.same (s := s) rfl (modPoint_plant s p _ rfl) h
  have state : (s.modPoint p (fun e => { e with contact := .unknown, lockout := .unknown, relay := .unknown })).pointState p
      = s.pointState p := by simp [State.pointState, State.modPoint]
  by_cases inUse : s.inUse p = true
  · rw [unreachablePoint_inUse inUse]
    split
    · next leaves =>
      refine I.stillMove _ ?_ ?_ (by simp [PointState.still]) nofun rfl forgot <;> rw [state]
      · rcases leaves with leaves | leaves | leaves | leaves <;> simp [leaves, PointState.still]
      · rcases leaves with leaves | leaves | leaves | leaves <;> simp [leaves]
    · exact forgot
  · rwa [unreachablePoint, if_neg inUse]

/-- A station that becomes UNREACHABLE (R77). -/
theorem stationUnreachable_keeps (I : Kept P) (st : Fin 16) (h : P s) : P (stationUnreachable st s) := by
  unfold stationUnreachable
  split
  · exact List.foldlRecOn _ unreachablePoint h (fun _ kept p _ => I.unreachablePoint_keeps p kept)
  · exact h

/-! #### The field loop -/

/-- The in-flight order's other items change. -/
theorem inFlight_keeps (I : Kept P) {f g : InFlight} (flying : s.flc.inFlight = some f) (order : g.order = f.order)
    (mark : g.voided = f.voided) (loop : t.flc.inFlight = some g) (motion : t.flc.motion = s.flc.motion) (pls : t.pls = s.pls)
    (ptm : t.ptm = s.ptm) (seq : t.seq = s.seq) (ctk : t.ctk = s.ctk) (iml : t.iml = s.iml) (h : P s) : P t :=
  I.same (control_of_blocks pls seq ctk iml) (by simp [State.plant, pls, ptm, loop, motion, flying, order, mark]) h

/-- The end of an order frame (R93). -/
theorem orderFrameEnd_keeps (I : Kept P) (h : P s) : P (orderFrameEnd s) := by
  unfold orderFrameEnd
  split
  · next f _ flying =>
    split
    · exact h
    · exact I.inFlight_keeps (g := { f with timer := some 20 }) flying rfl rfl rfl rfl rfl rfl rfl rfl rfl h
  · exact h

/-- The end of a TRIP_ALL frame (R99). -/
theorem tripAllFrameEnd_keeps (I : Kept P) (h : P s) : P (tripAllFrameEnd s) := by
  unfold tripAllFrameEnd
  split
  · next f _ flying =>
    split
    · next trip => exact I.chooseAfter (s := { s with flc.tx := none, flc.timedOut := false }) flying trip (I.same (s := s) rfl rfl h)
    · exact h
  · exact h

/-- A matching reply (R97). -/
theorem matchingReply_keeps (I : Kept P) {f : InFlight} (st : Fin 16) (r : Result) (outs : Vector OutputStatus 4)
    (flying : s.flc.inFlight = some f) (h : P s) : P (matchingReply f st r outs s) := by
  unfold matchingReply
  refine I.resolve (g := { f with timer := none }) st r _ (by simp) rfl rfl ?_
  exact I.inFlight_keeps (g := { f with timer := none }) flying rfl rfl (by simp) (by simp) (by simp) (by simp) (by simp) (by simp)
    (by simp) h

/-- A reply frame (R96). -/
theorem replyFrameTaken_keeps (I : Kept P) (src tag : Byte) (r : Result) (outs : Vector OutputStatus 4) (h : P s) :
    P (replyFrameTaken src tag r outs s) := by
  have stale : P (countStale s) := I.same (s := s) rfl rfl h
  unfold replyFrameTaken
  split
  · next f _ flying =>
    split
    · exact stale
    · split
      · exact I.matchingReply_keeps _ r outs flying h
      · exact stale
  · exact stale

/-- A collected frame (R95). -/
theorem loopFrame_keeps (I : Kept P) (bytes : List Byte) (bad : Bool) (h : P s) : P (loopFrame bytes bad s) := by
  have counted : P (countLoopError s) := I.same (s := s) rfl rfl h
  unfold loopFrame
  split
  · split
    · exact counted
    · split
      · exact I.replyFrameTaken_keeps _ _ _ _ h
      · exact counted
  · exact counted

/-- A byte on the loop (R95). -/
theorem loopByte_keeps (I : Kept P) (b : LineByte) (h : P s) : P (loopByte s b) := by
  unfold loopByte
  split
  · dsimp only
    split
    · exact I.same (s := s) rfl rfl h
    · exact I.loopFrame_keeps _ _ (I.same (s := s) rfl rfl h)
  · exact h

/-- Bytes on the loop (R95). -/
theorem loopBytes_keeps (I : Kept P) (bytes : List LineByte) (h : P s) : P (bytes.foldl loopByte s) :=
  List.foldlRecOn bytes loopByte h (fun _ kept b _ => I.loopByte_keeps b kept)

/-- A partial frame abandoned on the loop (R95). -/
theorem abandonReply_keeps (I : Kept P) (h : P s) : P (abandonReply s) := by
  unfold abandonReply
  split
  · exact h
  · exact I.same (s := s) rfl rfl h

/-- The no-reply count (R98). -/
theorem countNoReply_keeps (I : Kept P) (st : Fin 16) (h : P s) : P (countNoReply st s) := by
  unfold countNoReply
  dsimp only
  split
  · exact I.stationUnreachable_keeps st (I.same (s := s)
      (control_of_blocks (by simp) (by simp) (by simp) (by simp)) (by simp [State.plant]) h)
  · exact I.same (s := s) rfl rfl h

end Kept

end Sys2Proof.Machine

namespace Sys2Proof.Machine

/-- The order in flight stands while its station becomes UNREACHABLE (R92). -/
theorem unreachablePoint_flies {s : State} {f : InFlight} (flying : s.flc.inFlight = some f) (p : Fin 64) :
    (unreachablePoint s p).flc.inFlight = some f := by
  have moved {t : State} (new : PointState) (c : Cause) (flying : t.flc.inFlight = some f) :
      (movePoint p new c t).flc.inFlight = some f := by
    unfold movePoint settleLamp
    dsimp only
    split
    · show (Flc.choose _).inFlight = some f
      rw [Flc.choose_busy (g := f)] <;> simpa [State.modPoint] using flying
    · simpa using flying
  unfold unreachablePoint
  split
  · dsimp only
    split
    case h_5 => exact flying
    all_goals exact moved _ _ flying
  · exact flying

/-- The order in flight stands while a NO_REPLY is counted (R92, R98). -/
theorem countNoReply_flies {s : State} {f : InFlight} (st : Fin 16) (flying : s.flc.inFlight = some f) :
    (countNoReply st s).flc.inFlight = some f := by
  have station {t : State} (flying : t.flc.inFlight = some f) : (stationUnreachable st t).flc.inFlight = some f := by
    unfold stationUnreachable
    split
    · exact List.foldlRecOn (motive := fun t => t.flc.inFlight = some f) _ unreachablePoint flying
        (fun _ kept p _ => unreachablePoint_flies kept p)
    · exact flying
  unfold countNoReply
  dsimp only
  split
  · exact station (by simpa using flying)
  · exact flying

/-- The walk over an image ends in a plan that passes validation (R184, check 8). -/
theorem walkFrom_valid (fuel pos : Nat) (rest : List Byte) (w : Walk) {pl : Plan} (read : walkFrom fuel pos rest w = .ok pl) :
    pl.validate = none := by
  induction fuel generalizing pos rest w with
  | zero => cases read
  | succ fuel ih =>
    unfold walkFrom at read
    split at read
    · cases read
    · split at read
      · unfold Walk.finish at read
        split at read
        · cases read
        · split at read
          · cases read
          · next valid =>
            cases read
            simpa using valid
      · split at read
        · dsimp only at read
          split at read
          · cases read
          · split at read
            · cases read
            · generalize w.block _ _ _ = answer at read
              cases answer with
              | error => cases read
              | ok next => exact ih _ _ _ read
        · cases read

/-- A plan that a load reads passes validation (R184). -/
theorem loadImage_valid {image : List Byte} {pl : Plan} (read : loadImage image = .ok pl) : pl.validate = none := by
  unfold loadImage at read
  split at read
  · split at read
    · exact walkFrom_valid _ _ _ _ read
    · cases read
  · cases read

namespace Kept

variable {P : State → Prop} {s t : State}

/-- What follows a timeout (R98). -/
theorem afterTimeout_keeps (I : Kept P) {f : InFlight} (st : Fin 16) (flying : s.flc.inFlight = some f) (h : P s) :
    P (afterTimeout f st s) := by
  unfold afterTimeout
  split
  · exact I.inFlight_keeps (g := ⟨f.order, f.attempts + 1, s.flc.tag, none, f.voided⟩) flying rfl rfl rfl rfl rfl rfl rfl rfl rfl h
  · refine I.resolve (g := { f with timer := none }) st _ _ rfl rfl rfl ?_
    exact I.inFlight_keeps (g := { f with timer := none }) flying rfl rfl rfl rfl rfl rfl rfl rfl rfl h

/-- The reply timer runs out (R98). -/
theorem replyTimeout_keeps (I : Kept P) (h : P s) : P (replyTimeout s) := by
  unfold replyTimeout
  split
  · exact h
  · next f flying =>
    split
    · exact I.afterTimeout_keeps _ (countNoReply_flies _ flying) (I.countNoReply_keeps _ (I.same (s := s) rfl rfl h))
    · exact h

/-- The configured stations polled (R102, R103). -/
theorem pollConfigured_keeps (I : Kept P) (h : P s) : P (pollConfigured s) := by
  refine List.foldlRecOn (List.finRange 16) pollStation h (fun t kept st _ => ?_)
  unfold pollStation
  split
  · exact I.choose (s := { t with flc.polls := t.flc.polls.set st true }) (I.same (s := t) rfl rfl kept)
  · exact kept

/-! #### The timers -/

/-- The grace timer of a point (R72). -/
theorem graceExpiry_keeps (I : Kept P) (p : Fin 64) (h : P s) : P (graceExpiry p s) := by
  unfold graceExpiry
  split
  · next due => exact I.wantShed _ (by simp [due.2]) h
  · exact h

/-- The settle timer of a point (R73). -/
theorem settleExpiry_keeps (I : Kept P) (p : Fin 64) (h : P s) : P (settleExpiry p s) := by
  unfold settleExpiry
  split
  · next due =>
    exact I.settle (I.stillMove _ (by simp [due.2, PointState.still]) (by simp [due.2]) (by simp [PointState.still]) nofun rfl h)
  · exact h

/-- A shed step that times out (R125). -/
theorem shedTimeout_keeps (I : Kept P) (runs : s.shedRunning s.seq.pointer = true) (h : P s) :
    P (shedTimeout s.seq.pointer s) := by
  unfold shedTimeout
  dsimp only
  have told : P (raiseFault .stepTimeout (.step .shed s.seq.pointer) (post (.step .shed s.seq.pointer .timedOut) s)) :=
    I.core (s := s) ⟨by simp, by simp, by simp, by simp, by simp, by simp⟩ h
  refine I.settle (I.afterShedDone (by simp) (by simpa [State.shedRunning] using runs) ?_)
  refine List.foldlRecOn _ shedWarned told (fun t kept p _ => ?_)
  unfold shedWarned
  split
  · next warned => exact I.wantShed _ (by simp [warned]) kept
  · exact kept

/-- A restart step that times out (R146). -/
theorem restartTimeout_keeps (I : Kept P) (runs : s.restartRunning s.seq.restartPointer = true) (h : P s) :
    P (restartTimeout s.seq.restartPointer s) := by
  unfold restartTimeout
  dsimp only
  have told : P (raiseFault .stepTimeout (.step .restart s.seq.restartPointer)
      (post (.step .restart s.seq.restartPointer .timedOut) s)) :=
    I.core (s := s) ⟨by simp, by simp, by simp, by simp, by simp, by simp⟩ h
  refine I.settle (I.afterRestartDone (by simp) (by simpa [State.restartRunning] using runs) ?_)
  refine List.foldlRecOn _ failAwait told (fun t kept p _ => ?_)
  unfold failAwait
  split
  · next await =>
    exact I.stillMove _ (by simp [await, PointState.still]) (by simp [await]) (by simp [PointState.still]) nofun rfl kept
  · exact kept

/-! #### The end of a load and a commit -/

/-- The start-up poll round begins (R103). -/
theorem beginRound_keeps (I : Kept P) (h : P s) : P (beginRound s) :=
  I.settle (I.checkRound (I.pollConfigured_keeps
    (I.same (s := s) (t := { s with flc.marks := Vector.ofFn (fun st => s.pls.active.configured st) }) rfl rfl h)))

/-- The end of the load (R185). -/
theorem imageLoadEnd_keeps (I : Kept P) (image : List Byte) (h : P s) : P (imageLoadEnd image s) := by
  unfold imageLoadEnd
  split
  · next loading =>
    split
    · next pl read => exact I.beginRound_keeps (I.loaded pl (loadImage_valid read) loading h)
    · next reason _ =>
      unfold loadFails
      exact I.core ⟨by simp, by simp, by simp, by simp, by simp, by simp⟩ (I.loadFailed reason loading h)
  · exact h

/-- The reply that a save owes (R190). -/
theorem saveReply_keeps (I : Kept P) (f : SaveFlight) (status : ReplyStatus) (payload : List Byte) (h : P s) :
    P (saveReply f status payload s) := by
  unfold saveReply
  split
  · exact I.reply_keeps _ _ _ h
  · exact h

/-- The end of a save (R190). -/
theorem saveEnd_keeps (I : Kept P) (f : SaveFlight) (failed : Bool) (h : P s) :
    P (if failed then saveFails f s else saveSucceeds f s) := by
  have idle : P { s with iml.link := .idle, iml.save := none } := I.link _ nofun h
  split
  · exact I.saveReply_keeps _ _ _ (I.core (s := { s with iml.link := .idle, iml.save := none })
      ⟨by simp, by simp, by simp, by simp, by simp, by simp⟩ idle)
  · exact I.saveReply_keeps _ _ _ (I.post_keeps _ idle)

/-- Quiet time at a commit (R36). -/
theorem commitQuiet_keeps (I : Kept P) (h : P s) : P (commitQuiet s) := by
  unfold commitQuiet
  split
  · have handed : P { s with mev.quietHanded := true } := I.same (s := s) rfl rfl h
    dsimp only
    refine I.quietReached ?_
    split
    · exact I.quietRule handed
    · exact handed
  · exact I.same (s := s) rfl rfl h

/-- The new plan handed to every block (R58). -/
theorem commitHandOver_keeps (I : Kept P) {old : Plan} (points : P (allPoints.foldl (commitPoint old) (commitSequencer s))) :
    P (commitHandOver old s) := by
  have stations := List.foldlRecOn (List.finRange 6) (commitStation old) points (fun _ kept i _ => I.commitStation_keeps old i kept)
  have loop : P ((List.finRange 16).foldl commitPoll
      ((List.finRange 6).foldl (commitStation old) (allPoints.foldl (commitPoint old) (commitSequencer s)))) := by
    refine List.foldlRecOn (List.finRange 16) commitPoll stations (fun t kept st _ => ?_)
    unfold commitPoll
    split
    · exact kept
    · exact I.same (s := t) rfl rfl kept
  exact I.commitQuiet_keeps (I.recompute_keeps (I.core
    ⟨by simp [commitLoop], by simp [commitLoop], by simp [commitLoop], by simp [commitLoop], by simp [commitLoop], by simp [commitLoop]⟩
    loop))

/-- A commit out of NO_PLAN (R61). -/
theorem leaveNoPlan_keeps (I : Kept P) (valid : s.pls.active.validate = none) (h : P s) : P (leaveNoPlan s) := by
  unfold leaveNoPlan
  split
  · next noPlan =>
    exact I.beginRound_keeps (I.core ⟨by simp, by simp, by simp, by simp, by simp, by simp⟩ (I.polling noPlan valid h))
  · exact h

/-- A commit that passes its checks (R58). -/
theorem commitPlan_keeps (I : Kept P) (p : Fin 3) (shadow : Plan) (valid : shadow.validate = none) (may : s.mayCommit = true)
    (h : P s) : P (commitPlan p shadow s) := by
  rw [commitPlan_eq]
  have committed : (committedPlan s.pls.active shadow).validate = none := valid
  refine I.settle (I.leaveNoPlan_keeps (by simpa using committed) (I.commitHandOver_keeps ?_))
  exact I.recast (by simpa using committed) may (by simp) (by simp) (by simp) (by simp) (by simp) (by simp) h

/-- COMMIT at the PLS (R57). -/
theorem ownerCommit_keeps (I : Kept P) (p : Fin 3) (save : Bool) (h : P s) : P (ownerCommit p save s) := by
  unfold ownerCommit
  split
  · exact I.reply_keeps _ _ _ h
  · next c _ =>
    split
    · exact I.reply_keeps _ _ _ h
    · split
      · exact I.reply_keeps _ _ _ h
      · next may =>
        split
        · exact I.reply_keeps _ _ _ h
        · next valid =>
          have committed := I.commitPlan_keeps p c.shadow valid (by simpa using may) h
          unfold finishCommit
          split
          · exact I.link _ nofun committed
          · exact I.reply_keeps _ _ _ committed

/-! #### Requests -/

/-- A first consent (R133). -/
theorem ownerConsent_keeps (I : Kept P) (p : Fin 3) (h : P s) : P (ownerConsent p s) := by
  unfold ownerConsent
  split
  · exact I.reply_keeps _ _ _ h
  · exact I.reply_keeps _ _ _ h
  · next opened =>
    split
    · exact I.reply_keeps _ _ _ h
    · unfold Machine.firstConsent
      refine I.reply_keeps _ _ _ ?_
      have first := I.firstConsent p (s.pls.active.params.consentWindow * 1000) opened h
      exact I.same (control_of_blocks (by simp) (by simp) (by simp [setTracker_ctk]) (by simp)) (by simp [State.plant]) first
  · next one =>
    split
    · exact I.reply_keeps _ _ _ h
    · split
      · exact I.reply_keeps _ _ _ h
      · exact I.reply_keeps _ _ _ (I.settle (I.grant (s := post (.consent p .granted) s) (by simpa using one) (I.post_keeps _ h)))

/-- A veto flag changed (R138, R139). -/
theorem setVeto_keeps (I : Kept P) (p : Fin 3) (v : Bool) (h : P s) : P (setVeto p v s) :=
  I.same (s := s) (by simp [State.control, setVeto]) (by simp [State.plant]) h

/-- VETO at the tracker (R138). -/
theorem ownerVeto_keeps (I : Kept P) (p : Fin 3) (h : P s) : P (ownerVeto p s) := by
  unfold ownerVeto
  split
  · exact I.reply_keeps _ _ _ h
  · split
    · exact I.reply_keeps _ _ _ h
    · refine I.reply_keeps _ _ _ ?_
      unfold vetoEffect
      split
      · next restarting => exact I.settle (I.vetoStop restarting (I.setVeto_keeps p true h))
      · split
        · next one => exact I.backToOpen _ (.inl one) (I.setVeto_keeps p true h)
        · exact I.setVeto_keeps p true h

/-- MANUAL_SHED at the PTM (R81). -/
theorem ownerManualShed_keeps (I : Kept P) (p : Fin 3) (i : Fin 64) (h : P s) : P (ownerManualShed p i s) := by
  unfold ownerManualShed
  split
  · split
    · next state => exact I.reply_keeps _ _ _ (I.wantShed _ (by simp [state]) h)
    · next state => exact I.reply_keeps _ _ _ (I.wantShed _ (by simp [state]) h)
    · exact I.reply_keeps _ _ _ h
    · exact I.reply_keeps _ _ _ h
  · exact I.reply_keeps _ _ _ h

/-- A point placed at the gate by hand (R82). -/
theorem placeManual_keeps (I : Kept P) (p : Fin 3) (i : Fin 64) (still : (s.pointState i).still) (inUse : s.pointState i ≠ .unused)
    (h : P s) : P (placeManual p i s) := by
  have state : (s.modPoint i (fun e => { e with manual := true })).pointState i = s.pointState i := by
    simp [State.pointState, State.modPoint]
  unfold placeManual
  split
  · dsimp only
    exact I.reply_keeps _ _ _ (I.settle (I.stillMove _ (state ▸ still) (state ▸ inUse) (by simp [PointState.still]) nofun rfl
      (I.same (s := s) rfl (modPoint_plant s i _ rfl) h)))
  · exact I.reply_keeps _ _ _ h

/-- MANUAL_RESTORE at the PTM (R82). -/
theorem ownerManualRestore_keeps (I : Kept P) (p : Fin 3) (i : Fin 64) (h : P s) : P (ownerManualRestore p i s) := by
  unfold ownerManualRestore
  split
  · split
    · next state => exact I.placeManual_keeps p i (by simp [state, PointState.still]) (by simp [state]) h
    · next state => exact I.placeManual_keeps p i (by simp [state, PointState.still]) (by simp [state]) h
    · exact I.reply_keeps _ _ _ h
  · exact I.reply_keeps _ _ _ h

end Kept

end Sys2Proof.Machine

namespace Sys2Proof.Machine

/-- The requests that change more than their port, the claim and the faults; every other leaves the core (R161). -/
theorem serveCode_core (p : Fin 3) (code : Byte) (payload : List Byte) (s : State) :
    (serveCode p code payload s = serveCommit p payload s ∨ serveCode p code payload s = serveSave p payload s
        ∨ serveCode p code payload s = serveConsent p payload s ∨ serveCode p code payload s = serveVeto p payload s
        ∨ serveCode p code payload s = serveVetoClear p payload s ∨ serveCode p code payload s = serveManualShed p payload s
        ∨ serveCode p code payload s = serveManualRestore p payload s)
      ∨ SameCore s (serveCode p code payload s) := by
  unfold serveCode
  split
  -- Cases 12 to 16 are COMMIT, SAVE, CONSENT, VETO and VETO_CLEAR, cases 18 and 19 the requests by hand.
  case h_12 => exact .inl (.inl rfl)
  case h_13 => exact .inl (.inr (.inl rfl))
  case h_14 => exact .inl (.inr (.inr (.inl rfl)))
  case h_15 => exact .inl (.inr (.inr (.inr (.inl rfl))))
  case h_16 => exact .inl (.inr (.inr (.inr (.inr (.inl rfl)))))
  case h_18 => exact .inl (.inr (.inr (.inr (.inr (.inr (.inl rfl))))))
  case h_19 => exact .inl (.inr (.inr (.inr (.inr (.inr (.inr rfl))))))
  case h_20 => exact .inr ⟨by simp, by simp, by simp, by simp, by simp, by simp⟩
  all_goals
    refine .inr ?_
    simp only [serveStatus, serveIdent, serveStationDetail, servePointDetail, serveSequenceDetail, serveJournalRead,
      serveNoticeMask, serveClaim, serveRelease, servePlanWrite, servePlanRead, serveFaultClear, withRight, withNoParam,
      ownerClaim, ownerPlanWrite, dropClaim]
    (repeat' split) <;> constructor <;> simp

namespace Kept

variable {P : State → Prop} {s t : State}

/-- A request behind its checks (R160). -/
theorem withRight_keeps (I : Kept P) {p : Fin 3} {holds : Bool} {taken : State} (h : P s) (served : P taken) :
    P (withRight p holds s taken) := by
  unfold withRight
  split
  · exact served
  · exact I.reply_keeps _ _ _ h

/-- A request with no parameter behind its check (R160). -/
theorem withNoParam_keeps (I : Kept P) {p : Fin 3} {payload : List Byte} {taken : State} (h : P s) (served : P taken) :
    P (withNoParam p payload s taken) := by
  unfold withNoParam
  split
  · exact served
  · exact I.reply_keeps _ _ _ h

/-- A request with one point number behind its check (R160). -/
theorem withPoint_keeps (I : Kept P) {p : Fin 3} {payload : List Byte} {taken : Fin 64 → State} (h : P s)
    (served : ∀ i, P (taken i)) : P (withPoint p payload s taken) := by
  unfold withPoint
  split
  · split
    · exact served _
    · exact I.reply_keeps _ _ _ h
  · exact I.reply_keeps _ _ _ h

/-- COMMIT (R57). -/
theorem serveCommit_keeps (I : Kept P) (p : Fin 3) (payload : List Byte) (h : P s) : P (serveCommit p payload s) := by
  unfold serveCommit
  refine I.withRight_keeps h ?_
  split
  · split
    · exact I.ownerCommit_keeps p false h
    · split
      · exact I.ownerCommit_keeps p true h
      · exact I.reply_keeps _ _ _ h
  · exact I.reply_keeps _ _ _ h

/-- SAVE (R188). -/
theorem serveSave_keeps (I : Kept P) (p : Fin 3) (payload : List Byte) (h : P s) : P (serveSave p payload s) := by
  refine I.withRight_keeps h (I.withNoParam_keeps h ?_)
  unfold ownerSave
  split
  · exact I.reply_keeps _ _ _ h
  · split
    · exact I.link _ nofun h
    · exact I.reply_keeps _ _ _ h

/-- VETO_CLEAR (R139). -/
theorem serveVetoClear_keeps (I : Kept P) (p : Fin 3) (payload : List Byte) (h : P s) : P (serveVetoClear p payload s) := by
  refine I.withNoParam_keeps h (I.reply_keeps _ _ _ ?_)
  split
  · exact I.setVeto_keeps p false h
  · exact h

/-- A request in service (R161). -/
theorem serveCode_keeps (I : Kept P) (p : Fin 3) (code : Byte) (payload : List Byte) (h : P s) :
    P (serveCode p code payload s) := by
  rcases serveCode_core p code payload s with (req | req | req | req | req | req | req) | same
  · exact req ▸ I.serveCommit_keeps p payload h
  · exact req ▸ I.serveSave_keeps p payload h
  · exact req ▸ I.withRight_keeps h (I.withNoParam_keeps h (I.ownerConsent_keeps p h))
  · exact req ▸ I.withRight_keeps h (I.withNoParam_keeps h (I.ownerVeto_keeps p h))
  · exact req ▸ I.serveVetoClear_keeps p payload h
  · exact req ▸ I.withRight_keeps h (I.withPoint_keeps h (fun i => I.ownerManualShed_keeps p i h))
  · exact req ▸ I.withRight_keeps h (I.withPoint_keeps h (fun i => I.ownerManualRestore_keeps p i h))
  · exact I.core same h

/-- A valid frame at a supervisory port (R157 to R159). -/
theorem takeFrame_keeps (I : Kept P) (p : Fin 3) (code : Byte) (payload : List Byte) (h : P s) :
    P (takeFrame p code payload (serveCode p code payload) s) := by
  rcases takeFrame_cases p code payload (serveCode p code payload) s with ⟨_, long⟩ | ⟨_, _, busy⟩ | ⟨_, _, free⟩
  · exact long ▸ I.core ⟨by simp, by simp, by simp, by simp, by simp, by simp⟩ h
  · exact busy ▸ I.core ⟨by simp, by simp, by simp, by simp, by simp, by simp⟩ h
  · exact free ▸ I.serveCode_keeps p code payload (I.core (s := s) ⟨rfl, rfl, rfl, rfl, rfl, rfl⟩ h)

/-- A byte at a supervisory port (R157). -/
theorem requestByte_keeps (I : Kept P) (p : Fin 3) (b : LineByte) (h : P s) : P (requestByte p s b) := by
  have moved (rx : Rx) : P (s.modPort p (fun q => { q with rx := rx })) := I.core (s := s) ⟨rfl, rfl, rfl, rfl, rfl, rfl⟩ h
  obtain ⟨rx, gathered | counted | ⟨code, payload, frame⟩⟩ := requestByte_cases p s b
  · exact gathered ▸ moved rx
  · exact counted ▸ I.core ⟨by simp, by simp, by simp, by simp, by simp, by simp⟩ (moved rx)
  · exact frame ▸ I.takeFrame_keeps p code payload (moved rx)

/-- Bytes at a supervisory port (R157). -/
theorem requestBytes_keeps (I : Kept P) (p : Fin 3) (bytes : List LineByte) (h : P s) :
    P (bytes.foldl (requestByte p) s) :=
  List.foldlRecOn bytes _ h (fun _ kept b _ => I.requestByte_keeps p b kept)

/-- A partial frame abandoned at a supervisory port (R157). -/
theorem abandonRequest_keeps (I : Kept P) (p : Fin 3) (h : P s) : P (abandonRequest p s) := by
  unfold abandonRequest
  split
  · exact h
  · exact I.core (s := s) ⟨rfl, rfl, rfl, rfl, rfl, rfl⟩ h

/-- A command of a row of R161. -/
theorem request_keeps (I : Kept P) {c : Instr} {p : Fin 3} {code : Byte} {payload : List Byte}
    (brings : c.request = some (p, code, payload)) (h : P s) (ran : exec c s = .next t) : P t := by
  rw [exec_request brings] at ran
  cases ran
  exact I.takeFrame_keeps p code payload h

/-- A port reset (R158). -/
theorem portReset_keeps (I : Kept P) (p : Fin 3) (h : P s) : P (portReset p s) := by
  have dropped {u : State} (h : P u) : P (if u.holdsClaim p then dropClaim u else u) := by
    split
    · exact I.core ⟨by simp [dropClaim], by simp, by simp, by simp, by simp, by simp⟩ h
    · exact h
  have withdrawn {u : State} (h : P u) : P (withdrawConsent p u) := by
    unfold withdrawConsent
    split
    · next held => exact I.backToOpen _ (.inr (by simp [held])) h
    · exact h
  have raised {u : State} (h : P u) : P (raiseFault .portLink (.port p) u) :=
    I.core ⟨by simp, by simp, by simp, by simp, by simp, by simp⟩ h
  refine raised (withdrawn (dropped ?_))
  unfold abandonSaveReply
  split
  · exact I.core (s := s) ⟨rfl, rfl, rfl, rfl, rfl, rfl⟩ h
  · split
    · exact I.same (s := s) rfl rfl h
    · exact I.core (s := s) ⟨rfl, rfl, rfl, rfl, rfl, rfl⟩ h

/-! #### Commands and steps -/

/-- A command that runs where a test of the state passes, and else leaves it. -/
theorem of_guarded {c : Prop} [Decidable c] (h : P s) (runs : c → P t) : P (if c then t else s) := by
  split
  · next due => exact runs due
  · exact h

/-- A command. -/
theorem exec_keeps (I : Kept P) (c : Instr) (h : P s) (ran : exec c s = .next t) : P t := by
  cases c with
  | status p l | ident p l | stationDetail p l | pointDetail p l | sequenceDetail p l | journalRead p l | noticeMask p l
  | claim p l | release p l | planWrite p l | planRead p l | commit p l | save p l | consent p l | veto p l | vetoClear p l
  | faultClear p l | manualShed p l | manualRestore p l => exact I.request_keeps rfl h ran
  | requestWhileBusy p code l | unknownRequest p code l => exact I.request_keeps rfl h ran
  | requestFrameInvalid p bytes => cases ran; exact I.requestBytes_keeps p bytes h
  | requestIdleAbandon p b => cases ran; exact I.requestBytes_keeps p _ (I.abandonRequest_keeps p h)
  | coldReset => cases ran; exact I.start rfl rfl
  | warmReset => cases ran; exact I.start (by simp [warmReset, State.control, State.reset]) (by simp [warmReset, State.plant, State.reset])
  | imageLoadEnd image => cases ran; exact I.imageLoadEnd_keeps image h
  | saveEnd failedAt =>
    cases ran
    split
    · exact h
    · exact I.saveEnd_keeps _ _ h
  | sensorFrame i bytes => cases ran; exact I.sensorBytes_keeps i bytes h
  | sensorIdleAbandon i b =>
    cases ran
    split
    · exact h
    · exact I.sensorBytes_keeps i _ (I.abandonFrame_keeps i h)
  | gapTimerExpiry i => cases ran; exact I.gapExpiry_keeps i h
  | blindTimerExpiry =>
    cases ran
    exact of_guarded h (fun _ => I.core (s := s) ⟨by simp, by simp, by simp, by simp, by simp, by simp⟩ h)
  | quietReached =>
    cases ran
    exact of_guarded h (fun _ => I.quietReached (I.quietRule (I.core (s := s) ⟨rfl, rfl, rfl, rfl, rfl, rfl⟩ h)))
  | orderFrameEnd => cases ran; exact I.orderFrameEnd_keeps h
  | tripAllFrameEnd => cases ran; exact I.tripAllFrameEnd_keeps h
  | loopReplyFrame bytes => cases ran; exact I.loopBytes_keeps bytes h
  | loopIdleAbandon b => cases ran; exact I.loopBytes_keeps _ (I.abandonReply_keeps h)
  | replyTimeout => cases ran; exact I.replyTimeout_keeps h
  | pollTimerExpiry =>
    cases ran
    exact of_guarded h (fun _ => I.same (s := pollConfigured s) (by simp [State.control]) (by simp [State.plant])
      (I.pollConfigured_keeps h))
  | restoreSpacingExpiry => cases ran; exact of_guarded h (fun _ => I.settle (I.same (s := s) rfl rfl h))
  | graceTimerExpiry p => cases ran; exact I.graceExpiry_keeps p h
  | settleTimerExpiry p => cases ran; exact I.settleExpiry_keeps p h
  | shedDelayExpiry =>
    cases ran
    exact of_guarded h (fun due => I.settle (I.afterShedDone (by simp) (by simpa [State.shedRunning] using due.2) (I.post_keeps _ h)))
  | shedStepTimeout => cases ran; exact of_guarded h (fun due => I.shedTimeout_keeps due.2 h)
  | restartDelayExpiry =>
    cases ran
    exact of_guarded h (fun due =>
      I.settle (I.afterRestartDone (by simp) (by simpa [State.restartRunning] using due.2) (I.post_keeps _ h)))
  | restartStepTimeout => cases ran; exact of_guarded h (fun due => I.restartTimeout_keeps due.2 h)
  | consentWindowExpiry => cases ran; exact of_guarded h (fun due => I.backToOpen _ (.inl due.2) h)
  | linkTimeout p => cases ran; exact of_guarded h (fun _ => I.portReset_keeps p h)
  | replySent p => cases ran; exact I.core (s := s) ⟨rfl, rfl, rfl, rfl, rfl, rfl⟩ h

/-- 1 ms passes (log 1). -/
theorem elapse_keeps (I : Kept P) (h : P s) : P (elapse s) := by
  have control : (elapse s).control = s.control := by
    simp only [State.control, elapse, Seq.untimed, countDown, Option.isSome_map]
  refine I.same (s := s) control ?_ h
  have states : (elapse s).ptm.points.map PointEntry.state = s.ptm.points.map PointEntry.state := by
    ext i hi : 1
    simp [elapse, PointEntry.elapse]
  have flying : (elapse s).flc.inFlight.map (fun f => (f.order, f.voided)) = s.flc.inFlight.map (fun f => (f.order, f.voided)) := by
    simp only [elapse, Option.map_map]
    rfl
  simp only [State.plant, states, flying]
  rfl

/-- A step: a command, a ms, or an expiry queued. -/
theorem step_keeps (I : Kept P) (h : P s) (ran : step s = .next t) : P t := by
  rcases step_cases ran with ⟨c, rest, _, run⟩ | rfl | ⟨l, rfl⟩
  · exact I.exec_keeps c (s := { s with pending := rest }) (I.same (s := s) rfl rfl h) run
  · exact I.elapse_keeps h
  · exact I.same (s := s) rfl rfl h

end Kept

end Sys2Proof.Machine

namespace Sys2Proof.Machine

/-! ### What the Sequencer's and the tracker's invariants keep (O60) -/

variable {s : State}

/-- The gate admits in RESTARTING and in WATCH alone (R150). -/
theorem gateAdmits_open {p : Fin 64} (admits : s.gateAdmits = some p) : s.seq.state = .restarting ∨ s.seq.state = .watch := by
  unfold State.gateAdmits at admits
  split at admits
  · next gate =>
    simp only [Bool.and_eq_true, State.gateOpen, Bool.or_eq_true, beq_iff_eq] at gate
    exact gate.1.1
  · cases admits

/-- What follows of itself leaves STARTUP (R120, R123, R145, R148, R150). -/
theorem settle_startup (startup : s.seq.state = .startup) : (settle s).seq.state = .startup := by
  unfold settle
  refine settleFor_keeps (fun t => t.seq.state = .startup) (fun t t' kept follows => ?_) settleFuel s startup
  rcases settleOnce_guards follows with ⟨runs, -⟩ | ⟨runs, -⟩ | ⟨complete, -⟩ | ⟨p, admits, -⟩
  · exact absurd kept (by simp [(shedRunning_items runs).1])
  · exact absurd kept (by simp [(restartRunning_items runs).1])
  · exact absurd kept (by simp [(restartComplete_items complete).1])
  · rcases gateAdmits_open admits with gate | gate <;> exact absurd kept (by simp [gate])

/-- A change of level leaves STARTUP (R114, R116, R119). -/
theorem sequencerAtLevel_startup (startup : s.seq.state = .startup) : (sequencerAtLevel s).seq.state = .startup := by
  have event : (eventAtLevel s).seq.state = .startup := by
    unfold eventAtLevel
    (repeat' split) <;> simpa [openEvent] using startup
  have unchecked {t : State} (startup : t.seq.state = .startup) : checkShedding t = t := by
    unfold checkShedding
    simp only [startup, ite_self]
  have cut : (allPoints.foldl cutGrace (eventAtLevel s)).seq.state = .startup := by simpa using event
  unfold sequencerAtLevel
  dsimp only
  refine settle_startup ?_
  split
  · generalize allPoints.foldl cutGrace (eventAtLevel s) = t at cut
    rw [if_neg (by simp [cut]), unchecked cut]
    exact cut
  · rw [if_neg (by simp [event]), unchecked event]
    exact event

/-- The sequence state is one of the control blocks. -/
theorem state_of_control {t : State} (same : t.control = s.control) : t.seq.state = s.seq.state := by
  simp only [State.control, Prod.mk.injEq] at same
  exact (Seq.mk.inj same.2.1).1

namespace ControlInvariant

variable {P : State → Prop}

/-- Everything that follows of itself. -/
theorem settle_keeps (I : ControlInvariant P) (h : P s) : P (settle s) := by
  unfold settle
  refine settleFor_keeps P (fun t t' kept follows => ?_) settleFuel s h
  rcases settleOnce_guards follows with ⟨runs, next⟩ | ⟨runs, next⟩ | ⟨complete, next⟩ | ⟨p, -, next⟩ <;> rw [next]
  · have told : P (post (.step .shed t.seq.pointer .done) t) :=
      I.same (control_of_blocks (by simp) (by simp) (by simp) (by simp)) kept
    have done := I.afterShedDone (by simpa [State.shedRunning] using runs) told
    rwa [show (post (.step .shed t.seq.pointer .done) t).seq = t.seq by simp] at done
  · have told : P (post (.step .restart t.seq.restartPointer .done) t) :=
      I.same (control_of_blocks (by simp) (by simp) (by simp) (by simp)) kept
    have done := I.afterRestartDone (by simpa [State.restartRunning] using runs) told
    rwa [show (post (.step .restart t.seq.restartPointer .done) t).seq = t.seq by simp] at done
  · exact I.completeRestart complete kept
  · exact I.same (control_of_blocks (by simp) (by simp) (by simp) (by simp)) kept

/-- A change of device level. -/
theorem level (I : ControlInvariant P) : LevelInvariant P where
  same control _ h := I.same control h
  choose {s} h := I.same (s := s) rfl h
  quietCleared := I.quietCleared
  atLevel {s} h := by
    have event := I.eventAtLevel h
    have cut : P (allPoints.foldl cutGrace (Machine.eventAtLevel s)) :=
      I.same (control_of_blocks (by simp) (by simp) (by simp) (by simp)) event
    have decided {t : State} (h : P t) : P (if t.seq.state = .restarting then
        if t.mev.level.atLeast t.pls.active.params.abortLevel then abortRestart t else t else Machine.checkShedding t) := by
      split
      · next restarting =>
        split
        · exact I.abort restarting h
        · exact h
      · exact I.checkShedding h
    unfold sequencerAtLevel
    dsimp only
    refine I.settle_keeps (decided ?_)
    split
    · exact cut
    · exact event

/-- The end of the poll round (R111). -/
theorem checkRound_keeps (I : ControlInvariant P) (h : P s) : P (checkRound s) := by
  unfold checkRound
  split
  · next due => exact I.startupDecision due.1 due.2.1 h
  · exact h

/-- A change of device level while STARTUP stands. -/
theorem startupLevel (I : ControlInvariant P) : LevelInvariant (fun s => P s ∧ s.seq.state = .startup) where
  same {s t} control _ h := by
    exact ⟨I.same control h.1, (state_of_control control).trans h.2⟩
  choose {s} h := ⟨I.level.choose h.1, h.2⟩
  quietCleared h := ⟨I.quietCleared h.1, by simpa using h.2⟩
  atLevel h := ⟨I.level.atLevel h.1, sequencerAtLevel_startup h.2⟩

/-- The hand-overs of the load's end keep what the stations' keep (R186). -/
theorem loadHandOver_control (s : State) :
    (loadHandOver s).control = ((List.finRange 6).foldl enableStation s).control := by
  simp [loadHandOver, State.control]

/-- The resolution of an order, as the Sequencer sees it (R68). -/
theorem takeResolution_control (f : InFlight) (st : Fin 16) (r : Result) (outs : Option (Vector OutputStatus 4)) (s : State) :
    (takeResolution f st r outs (s.released f.order)).control = s.control := by
  simp [State.control, State.released]

/-- Whatever keeps the Sequencer and the tracker in step is kept by every command. -/
theorem kept (I : ControlInvariant P) : Kept P where
  toLevelInvariant := I.level
  start control _ := I.start control
  quietReached := I.quietReached
  quietRule := I.quietRule
  settle := I.settle_keeps
  checkRound := I.checkRound_keeps
  backToOpen := I.backToOpen
  firstConsent := I.firstConsent
  grant := I.grant
  resolve {s f _} st r outs _ _ _ h := by
    have taken := I.same (takeResolution_control f st r outs s) h
    rw [resolve_eq]
    generalize takeResolution f st r outs (s.released f.order) = t at taken
    have polled : P (pollResolved f.order t) := by
      unfold pollResolved
      split
      · exact I.checkRound_keeps (I.same (s := t) rfl taken)
      all_goals exact taken
    have settled := I.settle_keeps polled
    generalize Machine.settle (pollResolved f.order t) = u at settled
    exact I.same (s := u) rfl settled
  chooseAfter {s _} _ _ h := I.same (s := s) rfl h
  wantShed c _ h := I.same (control_of_blocks (by simp) (by simp) (by simp) (by simp)) h
  stillMove c _ _ _ _ _ h := I.same (control_of_blocks (by simp) (by simp) (by simp) (by simp)) h
  afterShedDone here runs h := by subst here; exact I.afterShedDone runs h
  afterRestartDone here runs h := by subst here; exact I.afterRestartDone runs h
  vetoStop := I.vetoStop
  loaded {s} pl valid loading h := by
    have entered := I.loaded pl valid loading h
    have records : P (loadRecords .loaded .none { s with pls.active := pl, iml.link := .idle, seq.phase := .polling }) :=
      I.same (control_of_blocks (by simp) (by simp) (by simp) (by simp)) entered
    exact I.same (loadHandOver_control _)
      (List.foldlRecOn _ enableStation records (fun _ kept i _ => I.level.enableStation_keeps i kept))
  loadFailed {s} reason loading h := by
    have unloaded : P { s with iml.link := .idle } := I.link _ nofun h
    have records : P (loadRecords .loadFailed reason { s with iml.link := .idle }) :=
      I.same (control_of_blocks (by simp) (by simp) (by simp) (by simp)) unloaded
    have startup : (loadRecords .loadFailed reason { s with iml.link := .idle }).seq.state = .startup := by
      simpa using ((I.linked h).1 loading).1
    have stations := List.foldlRecOn (List.finRange 6) enableStation
      (motive := fun t => P t ∧ t.seq.state = .startup) ⟨records, startup⟩
      (fun _ kept i _ => I.startupLevel.enableStation_keeps i kept)
    have handed := loadHandOver_control (loadRecords .loadFailed reason { s with iml.link := .idle })
    exact I.noPlan ((state_of_control handed).trans stations.2) (by simp) (I.same handed stations.1)
  recast {s t} valid may level ptm seq ctk flc iml h := by
    obtain ⟨state, quiet, -⟩ := s.mayCommit_iff.mp may
    have recast := I.recast t.pls.active valid state quiet h
    have points : (allPoints.foldl (commitPoint s.pls.active) (commitSequencer t)).control = (commitSequencer t).control :=
      control_of_blocks (by simp) (by simp) (by simp) (by simp)
    refine I.same (points.trans ?_) recast
    simp only [State.control, commitSequencer, level, seq, ctk, iml]
  polling := I.polling
  link := I.link

end ControlInvariant

end Sys2Proof.Machine

namespace Sys2Proof.Machine

/-! ### The plant over a commit and a load (R58, R59, R64) -/

variable {but : Option (Fin 64)} {used : Fin 64 → Bool} {resolving : Bool} {s t : State} {p : Fin 64}

/-- With no point in CLOSING or SETTLING no weight counts. -/
theorem inrushCounted_none (none : ∀ p : Fin 64, (s.pointState p).counts = false) : s.inrushCounted = 0 := by
  simp [State.inrushCounted, none]

/-- Another plan, with no point in CLOSING or SETTLING. -/
theorem PlantBut.replan (h : Plant used resolving s) (none : ∀ p : Fin 64, (s.pointState p).counts = false) (ptm : t.ptm = s.ptm)
    (flc : t.flc = s.flc) : Plant used resolving t := by
  have state (p : Fin 64) : t.pointState p = s.pointState p := by simp only [State.pointState, ptm]
  obtain ⟨sum, -⟩ := h.inrush
  rw [inrushCounted_none none] at sum
  refine ⟨fun p => by rw [state]; exact h.use p, by rw [flc]; exact h.flight, by rw [flc]; exact h.busy,
    fun p here => by rw [flc, state]; exact h.slots p here, ?_, ?_⟩
  · rw [ptm, sum, inrushCounted_none (fun p => by rw [state]; exact none p)]
  · rw [ptm, sum]
    exact Nat.zero_le _

/-- The order in flight of a point, marked as one whose point has left use (log 19). -/
theorem PlantBut.voidOrder_keeps (h : PlantBut (some p) used resolving s) : PlantBut (some p) used resolving (voidOrder p s) := by
  cases flying : s.flc.inFlight with
  | none => rwa [show voidOrder p s = s by simp only [voidOrder, flying]]
  | some f =>
    by_cases own : ∃ k, f.order = .motion k p
    · obtain ⟨k, own⟩ := own
      have marked := voidOrder_own flying own
      obtain ⟨motion, -⟩ := voidOrder_slots p s
      have ptm : (voidOrder p s).ptm = s.ptm ∧ (voidOrder p s).pls = s.pls := by simp [voidOrder, flying, own]
      have state (q : Fin 64) : (voidOrder p s).pointState q = s.pointState q := by simp only [State.pointState, ptm.1]
      have flies (o : Order) : (∃ g, (voidOrder p s).flc.inFlight = some g ∧ g.order = o)
          ↔ ∃ g, s.flc.inFlight = some g ∧ g.order = o := by
        simp [marked, flying]
      refine ⟨fun q => by rw [state]; exact h.use q, fun q j => by rw [motion, flies]; exact h.flight q j, fun _ => by rw [marked]; rfl,
        fun q other => ?_, ?_⟩
      · obtain ⟨empty, pending, -⟩ := h.slots q other
        rw [motion, state]
        refine ⟨empty, pending, fun j g slot _ => ?_⟩
        obtain ⟨-, f', flying', order⟩ := (h.flight q j).mp slot
        rw [flying] at flying'
        cases flying'
        rw [own] at order
        cases order
        exact absurd rfl other
      · have counted : (voidOrder p s).inrushCounted = s.inrushCounted := by simp only [State.inrushCounted, state, ptm.2]
        obtain ⟨sum, budget⟩ := h.inrush
        exact ⟨by rw [ptm.1, counted]; exact sum, by rw [ptm.1, ptm.2]; exact budget⟩
    · rwa [voidOrder_other flying (fun k order => own ⟨k, order⟩)]

/-- After its order is withdrawn or marked, the slot of a point fits any still state (R90; log 19). -/
theorem PlantBut.voided_fits {new : PointState} (h : PlantBut (some p) used false s) (still : new.still) :
    SlotFits (voidOrder p (withdraw p s)).flc.motion[p] new (voidOrder p (withdraw p s)).flc.inFlight := by
  obtain ⟨motion, -⟩ := voidOrder_slots p (withdraw p s)
  rw [motion]
  cases slot : s.flc.motion[p] with
  | empty =>
    rw [show withdraw p s = s by simp only [withdraw, slot], slot]
    exact slotFits_empty still _
  | pending k =>
    rw [withdraw_pending slot]
    exact slotFits_empty still _
  | inFlight k =>
    obtain ⟨-, f, flying, own⟩ := (h.flight p k).mp slot
    rw [withdraw_inFlight slot, voidOrder_own ((withdraw_leaves p s).1.trans flying) own]
    exact ⟨nofun, nofun, fun j g _ flies => by cases flies; exact ⟨nofun, fun _ => still⟩⟩

/-- A point leaves use (R59). -/
theorem PlantBut.leaveUse_keeps (h : Plant used false s) :
    Plant (Function.update used p false) false (leaveUse p s) := by
  have lamp : Plant used false (postLamp .off p (s.modPoint p (fun e => { e with lamp := .off }))) :=
    (h.same (modPoint_plant s p _ rfl)).postLamp_keeps _
  have freed := lamp.apart (some p)
  exact (freed.withdraw_keeps.voidOrder_keeps).enterAs _ (fun q other => Function.update_of_ne other _ _) (by simp)
    (freed.voided_fits (by simp [PointState.still])) nofun

/-- A point that is not in use comes into use (R59, R64). -/
theorem PlantBut.comesIntoUse (c : Cause) (h : Plant used resolving s) (unused : used p = false) :
    Plant (Function.update used p true) resolving (changePoint p .unknown c s) := by
  have state := (h.use p).mp unused
  exact (h.apart (some p)).enterAs c (fun q other => Function.update_of_ne other _ _) (by simp)
    ((h.slots p nofun).still (by simp [state, PointState.still]) (by simp [PointState.still])) nofun

/-- A point whose use stays as it was. -/
theorem update_same {b : Bool} (stays : used p = b) : Function.update used p b = used := by
  rw [← stays, Function.update_eq_self]

/-- A point at a commit (R59). -/
theorem PlantBut.commitPoint_keeps (old : Plan) (h : Plant used false s) (was : used p = old.points[p].inUse) :
    Plant (Function.update used p (s.inUse p)) false (commitPoint old s p) := by
  unfold commitPoint
  split
  · next _ leaves => rw [leaves]; exact h.leaveUse_keeps
  · next before comes => rw [comes]; exact (h.comesIntoUse _ (was.trans before)).settleLamp_keeps _
  · next before stays =>
    rw [stays, update_same (was.trans before)]
    unfold recheckManual
    split
    · next due => exact h.cancelAwaiting due.1
    · exact h
  · next before stays =>
    rw [stays, update_same (was.trans before)]
    exact h

/-- A point at the end of the load (R64). -/
theorem PlantBut.enterUse_keeps (h : Plant used resolving s) (unused : used p = false) :
    Plant (Function.update used p (s.inUse p)) resolving (enterUse s p) := by
  unfold enterUse
  split
  · next comes =>
    rw [comes]
    refine (h.comesIntoUse .none unused).same ?_
    have inrush : (changePoint p .unknown .none s).ptm.inrush = s.ptm.inrush := by
      simp [changePoint_inrush, inrushAfter, (h.use p).mp unused, PointState.counts]
    have states : (s.modPoint p (fun e => { e with state := .unknown, cause := .none })).ptm.points.map PointEntry.state
        = (changePoint p .unknown .none s).ptm.points.map PointEntry.state := by
      rw [changePoint_points]
      ext i hi : 1
      simp [State.modPoint, Vector.getElem_set, PointEntry.enter]
    simp only [State.plant, states, inrush, State.modPoint_inrush, State.modPoint_frame, changePoint_frame]
  · next stays =>
    rw [Bool.eq_false_iff.mpr stays, update_same unused]
    exact h

/-- A fold over points, each of which changes its own use alone. -/
theorem PlantBut.foldUse {f : State → Fin 64 → State} {old new : Fin 64 → Bool} {pl : Plan}
    (step : ∀ {t : State} {was : Fin 64 → Bool} {p : Fin 64}, t.pls.active = pl → Plant was false t → was p = old p →
      (f t p).pls.active = pl ∧ Plant (Function.update was p (new p)) false (f t p))
    (l : List (Fin 64)) (nodup : l.Nodup) (plan : s.pls.active = pl) (h : Plant used false s) (fresh : ∀ p ∈ l, used p = old p) :
    Plant (fun p => if p ∈ l then new p else used p) false (l.foldl f s) := by
  induction l generalizing s used with
  | nil => simpa using h
  | cons p l ih =>
    obtain ⟨notin, nodup⟩ := List.nodup_cons.mp nodup
    obtain ⟨plan, first⟩ := step plan h (fresh p (List.mem_cons_self ..))
    have rest := ih nodup plan first (fun q here => by
      have other : q ≠ p := fun eq => notin (eq ▸ here)
      rw [Function.update_of_ne other]
      exact fresh q (List.mem_cons_of_mem _ here))
    have same : (fun q => if q ∈ p :: l then new q else used q)
        = fun q => if q ∈ l then new q else Function.update used p (new p) q := by
      funext q
      by_cases here : q = p
      · subst here
        simp [notin]
      · simp [here]
    rw [same]
    exact rest

/-- A fold over all points, each of which changes its own use alone. -/
theorem PlantBut.foldAllUse {f : State → Fin 64 → State} {new : Fin 64 → Bool} {pl : Plan}
    (step : ∀ {t : State} {was : Fin 64 → Bool} {p : Fin 64}, t.pls.active = pl → Plant was false t → was p = used p →
      (f t p).pls.active = pl ∧ Plant (Function.update was p (new p)) false (f t p))
    (plan : s.pls.active = pl) (h : Plant used false s) : Plant new false (allPoints.foldl f s) := by
  have folded := PlantBut.foldUse step allPoints (List.nodup_finRange 64) plan h (fun _ _ => rfl)
  have all : (fun p => if p ∈ allPoints then new p else used p) = new := by simp [allPoints]
  rwa [all] at folded

/-- The state in which the stations have been enabled at the load's end (R4, R186). -/
def State.stationsEnabled (s : State) : State :=
  { (List.finRange 6).foldl enableStation s with mev.blindTimer := some 0 }

/-- The load's end changes the plant as the stations and then the points do (R186). -/
theorem loadHandOver_plant (s : State) : (loadHandOver s).plant = (allPoints.foldl enterUse s.stationsEnabled).plant := by
  simp [loadHandOver, State.stationsEnabled, State.plant]

/-- The stations are enabled under the plan in force. -/
theorem State.stationsEnabled_pls (s : State) : s.stationsEnabled.pls = s.pls := by
  simp [State.stationsEnabled]

/-- The stations enabled at the load's end (R4). -/
theorem PlantBut.stationsEnabled_keeps (h : Plant used false s) : Plant used false s.stationsEnabled := by
  have stations := List.foldlRecOn (List.finRange 6) enableStation h
    (fun _ kept i _ => (plant_levelInvariant _ _).enableStation_keeps i kept)
  unfold State.stationsEnabled
  generalize (List.finRange 6).foldl enableStation s = t at stations
  exact stations.same (s := t) rfl

/-- The hand-overs of the load's end, with no point in use before (R64, R186). -/
theorem PlantBut.loadHandOver_keeps (h : Plant (fun _ => false) false s) : Plant s.inUse false (loadHandOver s) := by
  have plan := s.stationsEnabled_pls
  have enabled := h.stationsEnabled_keeps
  refine PlantBut.same (loadHandOver_plant s) ?_
  generalize s.stationsEnabled = t at plan enabled
  refine PlantBut.foldAllUse (pl := s.pls.active) (fun {u was p} plan h unused => ⟨by simpa using plan, ?_⟩) (by rw [plan]) enabled
  have same : u.inUse p = s.inUse p := by simp only [State.inUse, plan]
  exact same ▸ h.enterUse_keeps unused

end Sys2Proof.Machine

namespace Sys2Proof.Machine

/-! ### The plant and the chains, kept (O60) -/

variable {s t : State} {p : Fin 64}

/-- The plant's invariant is the tracker and the load in step, no point in use during the load, and the points with their slots. -/
theorem plantOk_iff (s : State) : PlantOk s
    ↔ Linked s ∧ (s.iml.link = .loading → ∀ p : Fin 64, s.inUse p = false) ∧ Plant s.inUse false s := by
  constructor
  · rintro ⟨loading, tracker, ⟨use, unused⟩, flight, slots, inrush⟩
    exact ⟨⟨loading, tracker⟩, unused, use, fun p k => by simpa using flight p k, nofun, fun p _ => (slotsOk_iff s).mp slots p,
      inrush⟩
  · rintro ⟨⟨loading, tracker⟩, unused, use, flight, -, slots, inrush⟩
    exact ⟨loading, tracker, ⟨use, unused⟩, fun p k => by simpa using flight p k,
      (slotsOk_iff s).mpr (fun p => slots p nofun), inrush⟩

/-- Points in use are those of the plan. -/
theorem inUse_of_plan (plan : t.pls.active = s.pls.active) : t.inUse = s.inUse := by
  funext p
  simp only [State.inUse, plan]

/-- The plant's invariant stays where the plan and the load stand. -/
theorem plantOk_of (h : PlantOk s) (linked : Linked s → Linked t) (plan : t.pls.active = s.pls.active)
    (link : t.iml.link = .loading → s.iml.link = .loading) (plant : Plant s.inUse false s → Plant s.inUse false t) : PlantOk t := by
  obtain ⟨linkedS, unused, plantS⟩ := (plantOk_iff s).mp h
  refine (plantOk_iff t).mpr ⟨linked linkedS, ?_, ?_⟩
  · rw [inUse_of_plan plan]
    exact fun loading => unused (link loading)
  · rw [inUse_of_plan plan]
    exact plant plantS

/-- The plant's invariant stays where the plan and the store stand. -/
theorem plantOk_stands (h : PlantOk s) (linked : Linked s → Linked t) (pls : t.pls = s.pls) (iml : t.iml = s.iml)
    (plant : Plant s.inUse false s → Plant s.inUse false t) : PlantOk t :=
  plantOk_of h linked (by rw [pls]) (by rw [iml]; exact id) plant

/-- Every point is UNUSED and every slot EMPTY after a reset. -/
theorem reset_plantOk : PlantOk State.reset := by
  have state (p : Fin 64) : State.reset.pointState p = .unused := by simp [State.pointState, State.reset, PointEntry.start]
  have use (p : Fin 64) : State.reset.inUse p = false := by
    simp [State.inUse, State.reset, Plan.factory, PointRec.factory]
  have slot (p : Fin 64) : State.reset.flc.motion[p] = .empty := by simp [State.reset, Flc.start]
  refine (plantOk_iff _).mpr ⟨linked_control.start rfl, fun _ => use, fun p => iff_of_true (use p) (state p),
    fun p k => iff_of_false (by rw [slot]; nofun) (by simp [State.reset, Flc.start]), nofun, fun p _ => ?_, ?_, Nat.zero_le _⟩
  · rw [slot, state]
    exact slotFits_empty (by simp [PointState.still]) _
  · rw [inrushCounted_none (fun p => by rw [state]; rfl)]
    rfl

/-- The points, their slots, the order in flight and the inrush stay in step. -/
theorem plant_kept : Kept PlantOk where
  same {s t} control plant h := by
    have blocks := control
    simp only [State.control, Prod.mk.injEq] at blocks
    obtain ⟨plan, -, -, -, -, link⟩ := blocks
    exact plantOk_of h (.same control) plan (fun loading => by rwa [← beq_iff_eq, ← link, beq_iff_eq]) (fun h => h.same plant)
  choose h := plantOk_stands h linked_control.kept.choose (by simp) (by simp) (fun h => h.choose_keeps)
  quietCleared h := plantOk_stands h linked_control.kept.quietCleared (by simp) (by simp)
    (plant_levelInvariant _ _).quietCleared
  atLevel h := plantOk_stands h linked_control.kept.atLevel (by simp) (by simp) (plant_levelInvariant _ _).atLevel
  start {t} control plant := by
    have blocks := control
    simp only [State.control, Prod.mk.injEq] at blocks
    exact plantOk_of reset_plantOk (.same control) blocks.1 (fun _ => rfl) (fun h => h.same plant)
  quietReached h := plantOk_stands h linked_control.kept.quietReached (by simp) (by simp)
    (fun h => h.frame (by simp) (by simp) (by simp))
  quietRule h := plantOk_stands h linked_control.kept.quietRule (by simp) (by simp) (fun h => h.quietRule_keeps)
  settle h := plantOk_stands h linked_control.kept.settle (by simp) (by simp) (fun h => h.settle_keeps)
  checkRound h := plantOk_stands h linked_control.kept.checkRound (by simp) (by simp) (fun h => h.checkRound_keeps)
  backToOpen mark held h := plantOk_stands h (linked_control.kept.backToOpen mark held) (by simp) (by simp)
    (fun h => h.frame (by simp) (by simp) (by simp))
  firstConsent i n opened h := plantOk_stands h (linked_control.kept.firstConsent i n opened) (by simp) (by simp)
    (fun h => h.frame (by simp) (by simp) (by simp))
  grant one h := plantOk_stands h (linked_control.kept.grant one) (by simp) (by simp)
    (fun h => (h.frame (by simp) (by simp) (by simp)).beginRestart_keeps)
  resolve st r outs flying order mark h := plantOk_stands h (linked_control.kept.resolve st r outs flying order mark)
    (by simp) (by simp) (fun h => h.resolve_keeps st r outs flying order mark)
  chooseAfter {s f} flying trip h := plantOk_stands h (linked_control.kept.chooseAfter flying trip) (by simp) (by simp)
    (fun h => h.chooseAfter_keeps (fun p k flies => by
      obtain ⟨-, g, flying', own⟩ := (h.flight p k).mp flies
      rw [flying] at flying'
      cases flying'
      simp [trip] at own))
  wantShed c inUse h := plantOk_stands h (linked_control.kept.wantShed c inUse) (by simp) (by simp)
    (fun h => h.wantShed_keeps c inUse)
  stillMove c old inUse still stays rests h := plantOk_stands h (linked_control.kept.stillMove c old inUse still stays rests)
    (by simp) (by simp) (fun h => h.stillMove c old inUse still stays (fun rises => by rw [rests] at rises; cases rises))
  afterShedDone here runs h := plantOk_stands h (linked_control.kept.afterShedDone here runs) (by simp) (by simp)
    (fun h => h.afterShedDone_keeps _)
  afterRestartDone here runs h := plantOk_stands h (linked_control.kept.afterRestartDone here runs) (by simp) (by simp)
    (fun h => h.afterRestartDone_keeps _)
  vetoStop restarting h := plantOk_stands h (linked_control.kept.vetoStop restarting) (by simp) (by simp)
    (fun h => h.vetoStop_keeps)
  loaded {s} pl valid loading h := by
    obtain ⟨linked, unused, plant⟩ := (plantOk_iff s).mp h
    have none : s.inUse = fun _ => false := funext (unused loading)
    rw [none] at plant
    have entered : Plant (fun _ => false) false
        (loadRecords .loaded .none { s with pls.active := pl, iml.link := .idle, seq.phase := .polling }) :=
      plant.replan (fun p => by rw [(plant.use p).mp rfl]; rfl) (by simp) (by simp)
    have handed := entered.loadHandOver_keeps
    refine (plantOk_iff _).mpr ⟨linked_control.kept.loaded pl valid loading linked, by simp, ?_⟩
    rwa [inUse_of_plan (s := loadRecords .loaded .none { s with pls.active := pl, iml.link := .idle, seq.phase := .polling })
      (by simp)]
  loadFailed {s} reason loading h := by
    obtain ⟨linked, unused, plant⟩ := (plantOk_iff s).mp h
    have none : s.inUse = fun _ => false := funext (unused loading)
    rw [none] at plant
    have told : Plant (fun _ => false) false (loadRecords .loadFailed reason { s with iml.link := .idle }) :=
      plant.frame (by simp) (by simp) (by simp)
    have handed := told.loadHandOver_keeps
    refine (plantOk_iff _).mpr ⟨linked_control.kept.loadFailed reason loading linked, by simp, ?_⟩
    rw [inUse_of_plan (s := loadRecords .loadFailed reason { s with iml.link := .idle }) (by simp)]
    exact handed.frame (by simp) (by simp) (by simp)
  recast {s t} valid may level ptm seq ctk flc iml h := by
    obtain ⟨linked, -, plant⟩ := (plantOk_iff s).mp h
    obtain ⟨state, quiet, rests, -⟩ := s.mayCommit_iff.mp may
    have unloaded : s.iml.link ≠ .loading := linked.loaded (.inl (by rcases state with state | state <;> simp [state]))
    have none (p : Fin 64) : (s.pointState p).counts = false := by
      obtain ⟨closing, settling⟩ := rests p
      cases state : s.pointState p <;> simp_all [PointState.counts]
    have recast : Plant s.inUse false (commitSequencer t) := plant.replan none ptm flc
    refine (plantOk_iff _).mpr ⟨linked_control.kept.recast valid may level ptm seq ctk flc iml linked,
      fun loading => absurd (by simpa [commitSequencer, iml] using loading) unloaded, ?_⟩
    rw [inUse_of_plan (s := commitSequencer t) (by simp)]
    refine PlantBut.foldAllUse (pl := t.pls.active) (fun {u was p} plan h unused => ⟨by simpa using plan, ?_⟩) rfl recast
    have same : u.inUse p = (commitSequencer t).inUse p := by simp only [State.inUse, plan]; rfl
    exact same ▸ h.commitPoint_keeps _ unused
  polling noPlan valid h := plantOk_of h (linked_control.kept.polling noPlan valid) (by simp) (by simp)
    (fun h => h.frame (by simp) (by simp) (by simp))
  link l unloaded h := plantOk_of h (linked_control.kept.link l unloaded) rfl (fun loading => absurd loading unloaded)
    (fun h => h.frame rfl rfl rfl)

/-- Settles O60: every command keeps the plant in step, and the chains. -/
theorem plantAndChainsKept : Obligations.PlantAndChainsKept :=
  ⟨fun _ _ h ran => plant_kept.step_keeps h ran, fun _ _ h ran => chains_control.kept.step_keeps h ran⟩

end Sys2Proof.Machine

/-! PROOFS of the family 05_field_loop_and_order_arbitration. -/

namespace Sys2Proof.Machine

/-! ### The order that R91 chooses, and its first attempt (O30) -/

/-- The place of an order in the choice of R91: TRIP_ALL, SHED, WARN, RESTORE, LAMP, POLL, and by number within a kind. -/
def Order.rank : Order → Nat
  | .tripAll => 0
  | .motion .shed p => 1 + p.val
  | .motion .warn p => 65 + p.val
  | .motion .restore p => 129 + p.val
  | .lamp _ p => 193 + p.val
  | .poll st => 257 + st.val

/-- A motion order stands after TRIP_ALL and before every LAMP and POLL (R91). -/
theorem Order.rank_motion (k : MotionKind) (p : Fin 64) : 0 < (motion k p).rank ∧ (motion k p).rank < 193 := by
  cases k <;> simp only [rank] <;> omega

/-- Of two motion orders of one kind that of the lower point stands first (R91). -/
theorem Order.rank_motion_lt (k : MotionKind) {q p : Fin 64} (below : q < p) : (motion k q).rank < (motion k p).rank := by
  cases k <;> exact Nat.add_lt_add_left below _

/-- A SHED stands before every motion order of another kind (R91). -/
theorem Order.rank_shed_lt {k : MotionKind} (later : k ≠ .shed) (q p : Fin 64) : (motion .shed q).rank < (motion k p).rank := by
  cases k with
  | shed => exact absurd rfl later
  | warn | restore => simp only [rank]; omega

/-- Where a test holds at an item, the search from the lowest item on finds it or a lower one. -/
theorem find?_finRange_le {n : Nat} {test : Fin n → Bool} {i : Fin n} (h : test i = true) :
    ∃ j, (List.finRange n).find? test = some j ∧ j ≤ i := by
  rw [← Fin.find?_eq_find?_finRange]
  obtain ⟨j, found⟩ := Option.isSome_iff_exists.mp (Fin.isSome_find?_of_eq_true h)
  refine ⟨j, found, not_lt.mp fun below => ?_⟩
  simp [Fin.eq_false_of_find?_eq_some_of_lt found i below] at h

/-- A waiting motion order is found, or one of its kind at a lower point (R91). -/
theorem Flc.firstMotion_of_pending {f : Flc} {k : MotionKind} {p : Fin 64} (waits : f.pending (.motion k p)) :
    ∃ q, f.firstMotion k = some q ∧ q ≤ p :=
  find?_finRange_le (beq_iff_eq.mpr waits)

/-- A waiting POLL is found, or one of a lower station (R91). -/
theorem Flc.firstPoll_of_pending {f : Flc} {st : Fin 16} (waits : f.pending (.poll st)) : ∃ r, f.firstPoll = some r ∧ r ≤ st :=
  find?_finRange_le waits

/-- A waiting LAMP is found, or one at a lower point (R91). -/
theorem Flc.firstLamp_of_pending {f : Flc} {m : Lamp} {p : Fin 64} (waits : f.pending (.lamp m p)) :
    ∃ n q, f.firstLamp = some (.lamp n q) ∧ q ≤ p := by
  unfold Flc.firstLamp
  rw [← Fin.findSome?_eq_findSome?_finRange]
  have waits : f.lamps[p] = some m := waits
  have found : (Fin.findSome? fun q => f.lamps[q].map fun n => Order.lamp n q).isSome = true :=
    Fin.isSome_findSome?_iff.mpr ⟨p, by rw [waits]; rfl⟩
  obtain ⟨o, found⟩ := Option.isSome_iff_exists.mp found
  obtain ⟨q, held, below⟩ := Fin.findSome?_eq_some_iff.mp found
  obtain ⟨n, -, rfl⟩ := Option.map_eq_some_iff.mp held
  refine ⟨n, q, found, not_lt.mp fun lower => ?_⟩
  have := below p lower
  rw [waits] at this
  cases this

/-- What the search for a LAMP finds stands before every POLL (R91). -/
theorem Flc.firstLamp_rank {f : Flc} {o : Order} (found : f.firstLamp = some o) : o.rank < 257 := by
  obtain ⟨p, -, lamp⟩ := List.exists_of_findSome?_eq_some found
  obtain ⟨m, -, rfl⟩ := Option.map_eq_some_iff.mp lamp
  exact (show 193 + p.val < 257 by omega)

/-- While an order waits the FLC has one to choose, and it stands at or before that one in the order of R91. -/
theorem Flc.nextOrder_of_pending {f : Flc} {other : Order} (waits : f.pending other) :
    ∃ o, f.nextOrder = some o ∧ o.rank ≤ other.rank := by
  unfold Flc.nextOrder
  cases other with
  | tripAll => exact ⟨.tripAll, if_pos waits, le_rfl⟩
  | motion k p =>
    obtain ⟨q, found, low⟩ := firstMotion_of_pending waits
    cases k <;> grind [Order.rank]
  | lamp m p =>
    obtain ⟨n, q, found, low⟩ := firstLamp_of_pending waits
    grind [Order.rank]
  | poll st =>
    obtain ⟨r, found, low⟩ := firstPoll_of_pending waits
    grind [Order.rank, firstLamp_rank]

/-- No order that waits stands before the one chosen (R91). -/
theorem Flc.nextOrder_least {f : Flc} {o : Order} (chosen : f.nextOrder = some o) {other : Order} (before : other.rank < o.rank) :
    ¬ f.pending other := fun waits => by
  obtain ⟨least, found, low⟩ := nextOrder_of_pending waits
  cases chosen.symm.trans found
  omega

/-- No order is chosen only where none waits (R91). -/
theorem Flc.nextOrder_none {f : Flc} (none_chosen : f.nextOrder = none) (other : Order) : ¬ f.pending other := fun waits => by
  obtain ⟨least, found, -⟩ := nextOrder_of_pending waits
  cases none_chosen.symm.trans found

/-- With no slot PENDING the FLC chooses nothing (R91). -/
theorem Flc.choose_nothing {f : Flc} (none_chosen : f.nextOrder = none) : f.choose = f := by
  unfold Flc.choose
  rw [none_chosen]
  cases f.inFlight <;> rfl

/-- On an idle loop the chosen order leaves its slot, and its first attempt is sent (R91 to R93). -/
theorem Flc.choose_sends {f : Flc} {o : Order} (idle : f.inFlight = none) (chosen : f.nextOrder = some o) :
    f.choose = (f.leaveSlot o).attempt o 1 false := by
  simp [Flc.choose, idle, chosen]

/-- An order that leaves its slot leaves the tag counter and all that the FLC holds of its stations (R91). -/
theorem Flc.leaveSlot_frame (f : Flc) (o : Order) : (f.leaveSlot o).tag = f.tag ∧ (f.leaveSlot o).reach = f.reach
    ∧ (f.leaveSlot o).noReply = f.noReply ∧ (f.leaveSlot o).spacing = f.spacing := by
  cases o <;> exact ⟨rfl, rfl, rfl, rfl⟩

/-- The frame of an attempt: the eight bytes of section 11.3, with a check that holds (R93, R191). -/
theorem orderFrame_bytes (o : Order) (tag : Byte) : ∃ c0 c1 : Byte,
    orderFrame o tag = [0x5a, byteOf o.dest, tag, o.code, byteOf o.output, o.argument, c0, c1]
      ∧ checkHolds (orderFrame o tag) = true := by
  obtain ⟨c0, c1, frame, sum⟩ := checkHolds_order 0x5a (byteOf o.dest) tag o.code (byteOf o.output) o.argument
  have bytes : orderFrame o tag = [0x5a, byteOf o.dest, tag, o.code, byteOf o.output, o.argument, c0, c1] := frame
  exact ⟨c0, c1, bytes, bytes ▸ sum⟩

/-- Settles O30: the chosen order is the first in the order of R91 that waits, and its frame is that of section 11.3. -/
theorem orderChosenAndSent : Obligations.OrderChosenAndSent := by
  refine ⟨fun f o chosen => ?_, fun f none_chosen => ?_, fun f => ⟨fun rests => ?_, fun o idle chosen => ?_⟩, fun o => ?_,
    ⟨rfl, rfl, rfl⟩, ⟨rfl, rfl, rfl⟩, orderFrame_bytes⟩
  · have waits := Flc.nextOrder_pending chosen
    have first (other : Order) (before : other.rank < o.rank) : ¬ f.pending other := Flc.nextOrder_least chosen before
    cases o with
    | tripAll => exact waits
    | motion k p =>
      refine ⟨Bool.eq_false_iff.mpr (first .tripAll (Order.rank_motion k p).1), waits,
        fun q below => first (.motion k q) (Order.rank_motion_lt k below),
        fun later q => first (.motion .shed q) (Order.rank_shed_lt later q p), ?_⟩
      rintro rfl q
      exact first (.motion .warn q) (by simp only [Order.rank]; omega)
    | lamp m p =>
      have motion (q : Fin 64) (k : MotionKind) : (Order.motion k q).rank < (Order.lamp m p).rank :=
        (Order.rank_motion k q).2.trans_le (Nat.le_add_right ..)
      exact ⟨Bool.eq_false_iff.mpr (first .tripAll (by simp only [Order.rank]; omega)), fun q k => first _ (motion q k), waits,
        fun q below => Option.eq_none_iff_forall_ne_some.mpr fun n => first (.lamp n q) (Nat.add_lt_add_left below 193)⟩
    | poll st =>
      have motion (q : Fin 64) (k : MotionKind) : (Order.motion k q).rank < (Order.poll st).rank :=
        (Order.rank_motion k q).2.trans_le (by simp only [Order.rank]; omega)
      exact ⟨Bool.eq_false_iff.mpr (first .tripAll (by simp only [Order.rank]; omega)), fun q k => first _ (motion q k),
        fun q => Option.eq_none_iff_forall_ne_some.mpr fun n => first (.lamp n q) (by simp only [Order.rank]; omega), waits,
        fun r below => Bool.eq_false_iff.mpr (first (.poll r) (Nat.add_lt_add_left below 257))⟩
  · have empty := Flc.nextOrder_none none_chosen
    exact ⟨Bool.eq_false_iff.mpr (empty .tripAll), fun q k => empty (.motion k q),
      fun q => Option.eq_none_iff_forall_ne_some.mpr fun m => empty (.lamp m q), fun r => Bool.eq_false_iff.mpr (empty (.poll r))⟩
  · rcases rests with flies | none_chosen
    · obtain ⟨g, flying⟩ := Option.isSome_iff_exists.mp flies
      exact Flc.choose_busy flying
    · exact Flc.choose_nothing none_chosen
  · obtain ⟨tag, reach, noReply, spacing⟩ := f.leaveSlot_frame o
    rw [Flc.choose_sends idle chosen]
    obtain ⟨c0, c1, frame, sum⟩ := orderFrame_bytes o f.tag
    refine ⟨by rw [← tag]; rfl, by rw [← tag]; rfl, ⟨c0, c1, ?_, frame ▸ sum⟩, ?_, ?_, ?_, ?_, reach, noReply, spacing⟩
    · exact congrArg some ((congrArg (orderFrame o) tag).trans frame)
    · rintro k p rfl; rfl
    · rintro m p rfl; rfl
    · rintro st rfl; rfl
    · rintro rfl; rfl
  · cases o <;> exact ⟨rfl, rfl, rfl, rfl⟩

end Sys2Proof.Machine

namespace Sys2Proof.Machine

/-! ### The ends of frames, and the polls (O31) -/

/-- The end of an order frame starts the reply timer at 20 ms (R93). -/
theorem orderFrameEnd_starts {s : State} {f : InFlight} {bytes : List Byte} (sent : s.flc.tx = some bytes)
    (flying : s.flc.inFlight = some f) (ordinary : f.order ≠ .tripAll) : orderFrameEnd s
      = { s with flc := { s.flc with tx := none, timedOut := false, inFlight := some { f with timer := some 20 } } } := by
  simp only [orderFrameEnd, sent, flying, if_neg ordinary]

/-- The end of a TRIP_ALL frame resolves it, and the FLC chooses again (R99). -/
theorem tripAllFrameEnd_resolves {s : State} {f : InFlight} {bytes : List Byte} (sent : s.flc.tx = some bytes)
    (flying : s.flc.inFlight = some f) (trip : f.order = .tripAll) : tripAllFrameEnd s
      = chooseAfter { s with flc := { s.flc with tx := none, timedOut := false } } := by
  simp only [tripAllFrameEnd, sent, flying, if_pos trip]

/-- The choice sets no poll slot (R91). -/
theorem Flc.choose_poll_empty {f : Flc} {st : Fin 16} (empty : f.polls[st] = false) : f.choose.polls[st] = false := by
  rcases f.choose_cases with stays | ⟨o, -, waits, chose⟩
  · rwa [stays]
  · rw [chose]
    cases o with
    | poll chosen =>
      have apart : chosen ≠ st := by
        rintro rfl
        rw [show f.polls[chosen] = true from waits] at empty
        cases empty
      exact (vector_set_other _ _ _ _ apart).trans empty
    | motion | lamp | tripAll => exact empty

/-- Polls of stations set no poll slot of a station that is not configured (R102). -/
theorem pollStations_empty {st : Fin 16} (l : List (Fin 16)) {s : State} (absent : s.pls.active.configured st = false)
    (empty : s.flc.polls[st] = false) : (l.foldl pollStation s).flc.polls[st] = false := by
  induction l generalizing s with
  | nil => exact empty
  | cons other l ih =>
    refine ih (by simpa using absent) ?_
    rw [pollStation_eq]
    split
    · next present =>
      have apart : other ≠ st := by
        rintro rfl
        rw [absent] at present
        cases present
      exact Flc.choose_poll_empty ((vector_set_other _ _ _ _ apart).trans empty)
    · exact empty

/-- The state with a station's poll slot set if the station is configured (R102). -/
def State.setPoll (s : State) (st : Fin 16) : State :=
  { s with flc := { s.flc with polls := s.flc.polls.set st (s.flc.polls[st] || s.pls.active.configured st) } }

/-- While an order is in flight a poll only waits in its slot (R92). -/
theorem pollStation_busy {s : State} {f : InFlight} (flying : s.flc.inFlight = some f) (st : Fin 16) :
    pollStation s st = s.setPoll st := by
  rw [pollStation_eq, State.setPoll]
  split
  · next present =>
    rw [present, Bool.or_true]
    exact congrArg (fun l => { s with flc := l }) (Flc.choose_busy (f := { s.flc with polls := s.flc.polls.set st true }) flying)
  · next absent =>
    rw [Bool.eq_false_iff.mpr absent, Bool.or_false]
    simp

/-- Poll slots set, one after another, change the poll slots alone. -/
theorem foldl_setPoll_polls (l : List (Fin 16)) (s : State) : l.foldl State.setPoll s
    = { s with flc := { s.flc with polls := (l.foldl State.setPoll s).flc.polls } } := by
  induction l generalizing s with
  | nil => rfl
  | cons st l ih =>
    rw [List.foldl_cons, ih]
    rfl

/-- While an order is in flight polls only wait in their slots (R92). -/
theorem pollStations_busy {f : InFlight} (l : List (Fin 16)) {s : State} (flying : s.flc.inFlight = some f) :
    l.foldl pollStation s = l.foldl State.setPoll s := by
  induction l generalizing s with
  | nil => rfl
  | cons st l ih =>
    rw [List.foldl_cons, List.foldl_cons, pollStation_busy flying]
    exact ih flying

/-- With an order in flight the poll slot of every configured station is set, and of no other (R102). -/
theorem pollConfigured_busy {s : State} {f : InFlight} (flying : s.flc.inFlight = some f) : pollConfigured s
    = { s with flc := { s.flc with polls := Vector.ofFn (fun st => s.flc.polls[st] || s.pls.active.configured st) } } := by
  have slots : ((List.finRange 16).foldl State.setPoll s).flc.polls
      = Vector.ofFn (fun st => s.flc.polls[st] || s.pls.active.configured st) :=
    Vector.ext fun i hi => by
      rw [Vector.getElem_ofFn]
      exact foldl_items_all (fun s => s.flc.polls) State.setPoll (fun pl st poll => poll || pl.configured st)
        (fun _ _ => rfl) (fun _ _ => rfl) s ⟨i, hi⟩
  rw [pollConfigured, pollStations_busy _ flying, foldl_setPoll_polls, slots]

/-- A poll round changes the field loop alone (R102). -/
theorem pollConfigured_eq (s : State) : pollConfigured s = { s with flc := (pollConfigured s).flc } := by
  rw [pollConfigured, pollStations_flc]

/-- A round posts the poll of every configured station (R102). -/
theorem pollConfigured_posts {s : State} {st : Fin 16} (present : s.pls.active.configured st = true) :
    (pollConfigured s).flc.posted (.poll st) := by
  unfold pollConfigured
  exact pollStations_post _ (List.mem_finRange st) present

/-- A round leaves the poll of a station that is not configured: its slot stands, or the order has gone into flight (R102). -/
theorem pollConfigured_other {s : State} {st : Fin 16} (absent : s.pls.active.configured st = false) :
    (pollConfigured s).flc.polls[st] = s.flc.polls[st]
      ∨ (s.flc.polls[st] = true ∧ ∃ f, (pollConfigured s).flc.inFlight = some f ∧ f.order = .poll st) := by
  unfold pollConfigured
  cases slot : s.flc.polls[st] with
  | false => exact .inl (pollStations_empty _ absent slot)
  | true =>
    have posted := pollStations_keep_posted (o := .poll st) (List.finRange 16) (.inl slot)
    exact posted.imp id (fun flies => ⟨rfl, flies⟩)

/-- Settles O31: the two ends of frames, and a round of polls station by station. -/
theorem frameEndsAndPolls : Obligations.FrameEndsAndPolls := by
  refine ⟨fun s f bytes sent flying => ⟨fun ordinary => ?_, fun trip => ?_⟩, fun s running => ?_⟩
  · exact congrArg Host.Outcome.next (orderFrameEnd_starts sent flying ordinary)
  · exact congrArg Host.Outcome.next (tripAllFrameEnd_resolves sent flying trip)
  · refine ⟨{ pollConfigured s with flc.pollTimer := some s.pls.active.params.pollInterval },
      congrArg Host.Outcome.next (if_pos running), ?_, rfl, fun st present => ?_, fun st absent => ?_, fun flies => ?_⟩
    · rw [pollConfigured_eq]
    · dsimp only
      exact pollConfigured_posts present
    · dsimp only
      exact pollConfigured_other absent
    · obtain ⟨f, flying⟩ := Option.isSome_iff_exists.mp flies
      rw [pollConfigured_busy flying]

end Sys2Proof.Machine

namespace Sys2Proof.Machine

/-! ### Bytes on the loop (R95) -/

/-- The state with the loop receiver in a given condition (R95). -/
def State.setLoopRx (s : State) (rx : Rx) : State := { s with flc := { s.flc with rx := rx } }

/-- The state once a frame has been taken: the receiver in HUNT, and the moment of a timeout over (R95; log 49). -/
def State.heard (s : State) : State := { s with flc := { s.flc with rx := .hunt, timedOut := false } }

/-- The start byte begins a frame while the receiver is on and in HUNT (R95). -/
theorem loopByte_start {s : State} (on : s.flc.receives = true) (hunting : s.flc.rx = .hunt) {b : LineByte}
    (start : b.val = 0x5b) : loopByte s b = s.setLoopRx (.collect [0x5b] b.bad) := by
  unfold loopByte
  rw [if_pos on, hunting, Rx.feed, if_pos start, start]
  rfl

/-- A byte that does not complete the frame under collection is gathered (R95). -/
theorem loopByte_gathers {s : State} (on : s.flc.receives = true) {bytes : List Byte} (bad : Bool)
    (short : bytes.length + 1 < 10) (b : LineByte) :
    loopByte (s.setLoopRx (.collect bytes bad)) b = s.setLoopRx (.collect (bytes ++ [b.val]) (bad || b.bad)) := by
  unfold loopByte
  rw [if_pos (by exact on)]
  simp [State.setLoopRx, Rx.feed, short]

/-- The tenth byte completes the frame, and it is taken (R95). -/
theorem loopByte_completes {s : State} (on : s.flc.receives = true) {bytes : List Byte} (bad : Bool)
    (full : bytes.length + 1 = 10) (b : LineByte) :
    loopByte (s.setLoopRx (.collect bytes bad)) b = loopFrame (bytes ++ [b.val]) (bad || b.bad) s.heard := by
  unfold loopByte
  rw [if_pos (by exact on)]
  simp [State.setLoopRx, State.heard, Rx.feed, full]

/-- The bytes that complete the frame under collection: it is taken whole (R95). -/
theorem loopBytes_complete {s : State} (on : s.flc.receives = true) (l : List LineByte) (bytes : List Byte) (bad : Bool)
    (some_left : bytes.length < 10) (full : bytes.length + l.length = 10) :
    l.foldl loopByte (s.setLoopRx (.collect bytes bad))
      = loopFrame (bytes ++ l.map LineByte.val) (bad || l.any LineByte.bad) s.heard := by
  induction l generalizing bytes bad with
  | nil => exact absurd full some_left.ne
  | cons b l ih =>
    rw [List.foldl_cons]
    simp only [List.length_cons] at full
    cases l with
    | nil => simpa using loopByte_completes on bad full b
    | cons c l =>
      simp only [List.length_cons] at full
      have gathered : (bytes ++ [b.val]).length = bytes.length + 1 := by simp
      rw [loopByte_gathers on bad (by omega), ih _ _ (by omega) (by simp only [gathered, List.length_cons]; omega)]
      simp [Bool.or_assoc]

/-- Ten bytes from the start byte on, while the receiver is on and in HUNT, are one frame (R95; log 4). -/
theorem loopBytes_frame {s : State} (on : s.flc.receives = true) (hunting : s.flc.rx = .hunt) {bs : List LineByte}
    {rest : List Byte} (bytes : bs.map LineByte.val = 0x5b :: rest) (nine : rest.length = 9) :
    bs.foldl loopByte s = loopFrame (0x5b :: rest) (bs.any LineByte.bad) s.heard := by
  cases bs with
  | nil => cases bytes
  | cons b l =>
    obtain ⟨start, rfl⟩ := List.cons.inj bytes
    rw [List.foldl_cons, loopByte_start on hunting start,
      loopBytes_complete on l [0x5b] b.bad (by decide) (by simpa [Nat.add_comm] using nine)]
    rfl

/-! ### A frame on the loop (R95, R96) -/

/-- A frame of ten bytes is a reply frame: its check holds, no stop bit failed, its source and its result are known (R95). -/
def IsReply (bytes : List Byte) (bad : Bool) (src res : Byte) : Prop :=
  checkHolds bytes = true ∧ bad = false ∧ 1 ≤ src.toNat ∧ src.toNat ≤ 16 ∧ res.toNat ≤ 2

/-- The result that a known result byte names (f11 section 11.3). -/
def namedResult (res : Byte) : Result := if res = 0 then .done else if res = 1 then .refusedLocked else .outputFault

/-- A result byte is known up to 2 (f11 section 11.3). -/
theorem resultOf_eq (res : Byte) : resultOf res = if res.toNat ≤ 2 then some (namedResult res) else none := by
  by_cases known : res.toNat ≤ 2
  · have named : res = 0 ∨ res = 1 ∨ res = 2 := by bv_omega
    rcases named with rfl | rfl | rfl <;> rfl
  · obtain ⟨h0, h1, h2⟩ : res ≠ 0 ∧ res ≠ 1 ∧ res ≠ 2 := by bv_omega
    rw [resultOf, if_neg h0, if_neg h1, if_neg h2, if_neg known]

/-- A frame that is no reply frame is a loop frame error (R95). -/
theorem loopFrame_error {bad : Bool} {start src tag res o0 o1 o2 o3 c0 c1 : Byte}
    (other : ¬ IsReply [start, src, tag, res, o0, o1, o2, o3, c0, c1] bad src res) (s : State) :
    loopFrame [start, src, tag, res, o0, o1, o2, o3, c0, c1] bad s = countLoopError s := by
  by_cases known : res.toNat ≤ 2
  · simp only [loopFrame, resultOf_eq, if_pos known]
    refine if_neg fun checks => other ?_
    simpa [IsReply, known, and_assoc, and_comm, and_left_comm] using checks
  · simp only [loopFrame, resultOf_eq, if_neg known]

/-- A reply frame is taken by its source and tag (R95, R96). -/
theorem loopFrame_reply {bad : Bool} {start src tag res o0 o1 o2 o3 c0 c1 : Byte}
    (reply : IsReply [start, src, tag, res, o0, o1, o2, o3, c0, c1] bad src res) (s : State) :
    loopFrame [start, src, tag, res, o0, o1, o2, o3, c0, c1] bad s = replyFrameTaken src tag (namedResult res)
      #v[outputStatus o0, outputStatus o1, outputStatus o2, outputStatus o3] s := by
  obtain ⟨sum, clean, low, high, known⟩ := reply
  simp [loopFrame, resultOf_eq, sum, clean, low, high, known]

/-- A reply frame that matches no order in flight is stale (R96). -/
theorem replyFrameTaken_stale {s : State} {src tag : Byte}
    (other : ∀ f st, s.flc.inFlight = some f → f.order.station = some st → ¬ (src.toNat = st.val + 1 ∧ tag = f.tag))
    (r : Result) (outs : Vector OutputStatus 4) : replyFrameTaken src tag r outs s = countStale s := by
  unfold replyFrameTaken
  split
  · next f _ flying =>
    split
    · rfl
    · next st station => rw [if_neg (other f st flying station)]
  · rfl

/-- A reply frame that matches the order in flight resolves it (R96, R97). -/
theorem replyFrameTaken_match {s : State} {f : InFlight} {st : Fin 16} {src tag : Byte} (released : s.flc.tx = none)
    (flying : s.flc.inFlight = some f) (station : f.order.station = some st) (source : src.toNat = st.val + 1)
    (own : tag = f.tag) (r : Result) (outs : Vector OutputStatus 4) :
    replyFrameTaken src tag r outs s = matchingReply f st r outs s := by
  simp [replyFrameTaken, released, flying, station, source, own]

/-- The ten bytes of a LOOP_REPLY_FRAME, while the receiver is on and in HUNT, are one frame (R95; log 4). -/
theorem exec_loopReplyFrame {s : State} (on : s.flc.receives = true) (hunting : s.flc.rx = .hunt) {bs : List LineByte}
    {rest : List Byte} (bytes : bs.map LineByte.val = 0x5b :: rest) (nine : rest.length = 9) :
    exec (.loopReplyFrame bs) s = .next (loopFrame (0x5b :: rest) (bs.any LineByte.bad) s.heard) :=
  congrArg Host.Outcome.next (loopBytes_frame on hunting bytes nine)

/-- While the part is sending, and the moment of a timeout is over, no byte is received (R95). -/
theorem loopBytes_off {s : State} (sending : s.flc.tx.isSome = true) (later : s.flc.timedOut = false) (bs : List LineByte) :
    bs.foldl loopByte s = s :=
  List.foldlRecOn (motive := (· = s)) bs loopByte rfl fun _ same b _ => same ▸ loopByte_off s b sending later

/-! ### LOOP_REPLY_FRAME (O32) -/

/-- In HUNT a loop frame error counted at a frame taken is the one change, beside the moment (R95, R106; log 49). -/
theorem countLoopError_heard {s : State} (hunting : s.flc.rx = .hunt) : countLoopError s.heard
    = { s with flc := { s.flc with frameErrors := min (s.flc.frameErrors + 1) 65535, timedOut := false } } := by
  simp only [countLoopError, State.heard, saturate, ← hunting]

/-- In HUNT a stale reply counted at a frame taken is the one change, beside the moment (R96, R106; log 49). -/
theorem countStale_heard {s : State} (hunting : s.flc.rx = .hunt) : countStale s.heard
    = { s with flc := { s.flc with stale := min (s.flc.stale + 1) 65535, timedOut := false } } := by
  simp only [countStale, State.heard, saturate, ← hunting]

/-- A motion order that resolves frees its slot, and a RESTORE starts its spacing (R87, R104). -/
theorem released_motion (s : State) (k : MotionKind) (p : Fin 64) : s.released (.motion k p) = { s with flc := { s.flc with
    motion := s.flc.motion.set p .empty
    spacing := if k ≠ .restore then s.flc.spacing
      else if s.pls.active.params.restoreSpacing = 0 then none else some s.pls.active.params.restoreSpacing } } := by
  cases k <;> rfl

/-- Settles O32: the ten bytes are one frame, taken by what it is and by the order in flight; the resolution by the order's kind. -/
theorem loopReplyHandling : Obligations.LoopReplyHandling := by
  refine ⟨fun s bs src tag res o0 o1 o2 o3 c0 c1 released hunting bytes => ?_,
    fun s bs src tag res o0 o1 o2 o3 c0 c1 sending moment hunting bytes => ?_,
    fun s bs sending later => congrArg Host.Outcome.next (loopBytes_off sending later bs),
    fun s f st r outs => ⟨fun k p motion => ?_, fun m p lamp => ?_, fun poll => ?_⟩, fun s => rfl⟩
  · have taken := exec_loopReplyFrame (s := s) (by simp [Flc.receives, released]) hunting bytes rfl
    simp only [taken, bytes]
    refine ⟨fun other => ?_, fun reply other => ?_, fun f st reply flying station source own => ?_⟩
    · rw [loopFrame_error other, countLoopError_heard hunting]
    · rw [loopFrame_reply reply, replyFrameTaken_stale (by exact other), countStale_heard hunting]
    · rw [loopFrame_reply reply, replyFrameTaken_match (by exact released) (by exact flying) station source own]
      simp only [matchingReply, State.heard, ← hunting]
      rfl
  · have taken := exec_loopReplyFrame (s := s) (by simp [Flc.receives, moment]) hunting bytes rfl
    simp only [taken, bytes]
    refine ⟨fun other => ?_, fun reply => ?_⟩
    · rw [loopFrame_error other, countLoopError_heard hunting]
    · rw [loopFrame_reply reply, replyFrameTaken_sending _ _ _ _ _ (by exact sending), countStale_heard hunting]
  · simp only [resolve_eq, motion, released_motion, pollResolved]
  · simp only [resolve_eq, lamp, State.released, spacingAfter, freeSlot, pollResolved]
  · simp only [resolve_eq, poll, State.released, spacingAfter, freeSlot, pollResolved]

end Sys2Proof.Machine

namespace Sys2Proof.Machine

/-! ### A station that does not answer (R98, R100, R101) -/

/-- The choice leaves what the FLC knows of its stations (R91). -/
theorem Flc.choose_reach (f : Flc) : f.choose.reach = f.reach := by
  rcases f.choose_cases with stays | ⟨o, -, -, chose⟩
  · rw [stays]
  · rw [chose]
    cases o <;> rfl

/-- A lamp re-evaluated leaves what the FLC knows of its stations (R78). -/
theorem settleLamp_reach (p : Fin 64) (old : PointState) (s : State) : (settleLamp p old s).flc.reach = s.flc.reach := by
  unfold settleLamp
  dsimp only
  split
  · exact Flc.choose_reach _
  · rfl

/-- A change of point state with its lamp leaves what the FLC knows of its stations. -/
theorem movePoint_reach (p : Fin 64) (new : PointState) (c : Cause) (s : State) :
    (movePoint p new c s).flc.reach = s.flc.reach := by
  simp [movePoint, settleLamp_reach]

/-- A point of an unreachable station leaves what the FLC knows of its stations (R77). -/
theorem unreachablePoint_reach (s : State) (p : Fin 64) : (unreachablePoint s p).flc.reach = s.flc.reach := by
  by_cases inUse : s.inUse p = true
  · rw [unreachablePoint_inUse inUse]
    split
    · exact movePoint_reach ..
    · rfl
  · rw [unreachablePoint, if_neg inUse]

/-- A station handed over as UNREACHABLE leaves what the FLC knows of its stations (R77). -/
theorem stationUnreachable_reach (st : Fin 16) (s : State) : (stationUnreachable st s).flc.reach = s.flc.reach := by
  unfold stationUnreachable
  split
  · exact List.foldlRecOn (motive := fun t => t.flc.reach = s.flc.reach) _ unreachablePoint rfl
      fun t same p _ => (unreachablePoint_reach t p).trans same
  · rfl

/-- A timeout below the third in a row, or at an UNREACHABLE station, is counted (R98, R100). -/
theorem countNoReply_counts {s : State} {st : Fin 16}
    (stands : s.flc.reach[st] = .unreachable ∨ min (s.flc.noReply[st] + 1) 3 < 3) : countNoReply st s
      = { s with flc := { s.flc with noReply := s.flc.noReply.set st (min (s.flc.noReply[st] + 1) 3) } } := by
  refine if_neg fun ⟨third, reached⟩ => ?_
  rcases stands with unreachable | low
  · exact reached unreachable
  · exact low.ne third

/-- The third timeout in a row makes the station UNREACHABLE, at the Fault Monitor and then at its points (R100, R101, R77; log 9). -/
theorem countNoReply_third {s : State} {st : Fin 16} (reached : s.flc.reach[st] ≠ .unreachable)
    (third : min (s.flc.noReply[st] + 1) 3 = 3) : countNoReply st s
      = stationUnreachable st (checkUnreachable (some st) { s with flc := { s.flc with
          noReply := s.flc.noReply.set st (min (s.flc.noReply[st] + 1) 3)
          reach := s.flc.reach.set st .unreachable } }) :=
  if_pos ⟨third, reached⟩

/-- The station is UNREACHABLE after the third timeout in a row (R100). -/
theorem countNoReply_third_reach {s : State} {st : Fin 16} (reached : s.flc.reach[st] ≠ .unreachable)
    (third : min (s.flc.noReply[st] + 1) 3 = 3) : (countNoReply st s).flc.reach[st] = .unreachable := by
  simp only [countNoReply_third reached third, stationUnreachable_reach, checkUnreachable_frame, vector_set_self]

/-- With an attempt left at a station that is not UNREACHABLE, the next attempt is sent (R98). -/
theorem afterTimeout_sends {f : InFlight} {st : Fin 16} {s : State} (left : f.attempts < 3)
    (reached : s.flc.reach[st] ≠ .unreachable) :
    afterTimeout f st s = { s with flc := s.flc.attempt f.order (f.attempts + 1) f.voided } := if_pos ⟨left, reached⟩

/-- With no attempt left, or the station UNREACHABLE, the order resolves with NO_REPLY (R98). -/
theorem afterTimeout_resolves {f : InFlight} {st : Fin 16} {s : State}
    (ends : s.flc.reach[st] = .unreachable ∨ 3 ≤ f.attempts) : afterTimeout f st s
      = resolve f st .noReply none { s with flc := { s.flc with inFlight := some { f with timer := none } } } := by
  refine if_neg fun ⟨left, reached⟩ => ?_
  rcases ends with unreachable | spent
  · exact reached unreachable
  · omega

/-- The state at the moment of a timeout (R98; log 49). -/
def State.atTimeout (s : State) : State := { s with flc := { s.flc with timedOut := true } }

/-- REPLY_TIMEOUT at a running reply timer (R98; log 49). -/
theorem exec_replyTimeout {s : State} {f : InFlight} {st : Fin 16} {ms : Nat} (flying : s.flc.inFlight = some f)
    (station : f.order.station = some st) (runs : f.timer = some ms) :
    exec .replyTimeout s = .next (afterTimeout f st (countNoReply st s.atTimeout)) := by
  refine congrArg Host.Outcome.next ?_
  simp only [replyTimeout, flying, station, runs, State.atTimeout]

/-! ### The condition STATION_UNREACHABLE (R45, R101) -/

/-- The points that a load station carries, by number (f00 section 6.3). -/
theorem mem_stationPoints {p : Fin 64} {st : Fin 16} : p ∈ stationPoints st ↔ p.val / 4 = st.val := by
  have four : p ∈ stationPoints st ↔ p.val = 4 * st.val ∨ p.val = 4 * st.val + 1 ∨ p.val = 4 * st.val + 2
      ∨ p.val = 4 * st.val + 3 := by
    simp [stationPoints, pointAt, Fin.ext_iff]
  rw [four]
  omega

/-- A load station is configured while one of the points that it carries is in use (R45). -/
theorem Plan.configured_iff (pl : Plan) (st : Fin 16) :
    pl.configured st = true ↔ ∃ p : Fin 64, p.val / 4 = st.val ∧ pl.points[p].inUse = true := by
  simp only [Plan.configured, List.any_eq_true, mem_stationPoints]

/-- A configured station counts while it is UNREACHABLE (R101). -/
def State.unreachableAt (s : State) (st : Fin 16) : Prop :=
  s.pls.active.configured st = true ∧ s.flc.reach[st] = .unreachable

/-- The station found is the lowest that counts (R101, R178). -/
theorem State.lowestUnreachable_eq_some {s : State} {low : Fin 16} :
    s.lowestUnreachable = some low ↔ s.unreachableAt low ∧ ∀ st, st < low → ¬ s.unreachableAt st := by
  unfold State.lowestUnreachable
  rw [← Fin.find?_eq_find?_finRange, Fin.find?_eq_some_iff]
  simp [State.unreachableAt]

/-- None is found only where no station counts (R101). -/
theorem State.lowestUnreachable_eq_none {s : State} : s.lowestUnreachable = none ↔ ∀ st, ¬ s.unreachableAt st := by
  unfold State.lowestUnreachable
  rw [← Fin.find?_eq_find?_finRange, Fin.find?_eq_none_iff]
  simp [State.unreachableAt]

/-- The condition stands while it was true and a station counts (R101). -/
theorem checkUnreachable_stands {s : State} {st : Fin 16} (counts : s.unreachableAt st) (was : s.fmn.condUnreachable = true)
    (cause : Option (Fin 16)) : checkUnreachable cause s = s := by
  unfold checkUnreachable
  split
  · exact if_pos was
  · next none_found => exact absurd counts (State.lowestUnreachable_eq_none.mp none_found st)

/-- The condition that becomes true is reported with the station whose change is taken, or else the lowest (R101; log 9). -/
theorem checkUnreachable_rises {s : State} {low : Fin 16} (lowest : s.lowestUnreachable = some low)
    (was : s.fmn.condUnreachable = false) (cause : Option (Fin 16)) : checkUnreachable cause s
      = raiseFault .stationUnreachable (.loadStation (cause.getD low)) { s with fmn := { s.fmn with condUnreachable := true } } := by
  simp only [checkUnreachable, lowest, was]
  rfl

/-- The condition is false while no station counts (R101). -/
theorem checkUnreachable_falls {s : State} (none_counts : ∀ st, ¬ s.unreachableAt st) (cause : Option (Fin 16)) :
    checkUnreachable cause s = { s with fmn := { s.fmn with condUnreachable := false } } := by
  simp only [checkUnreachable, State.lowestUnreachable_eq_none.mpr none_counts]
  split
  · rfl
  · next was => simp only [← Bool.eq_false_iff.mpr was]

/-- Settles O33: the timeout is counted, then the attempts left decide; the condition by the lowest station that counts. -/
theorem replyTimeoutHandling : Obligations.ReplyTimeoutHandling := by
  refine ⟨fun s f st ms flying station runs _ => ⟨fun reached low left => ?_, fun reached third => ?_, fun ends => ?_⟩,
    Plan.configured_iff, fun s cause => ⟨fun ⟨st, counts⟩ was => checkUnreachable_stands counts was cause,
      fun low counts lowest was => checkUnreachable_rises (State.lowestUnreachable_eq_some.mpr ⟨counts, lowest⟩) was cause,
      fun none_counts => checkUnreachable_falls none_counts cause⟩⟩
  · rw [exec_replyTimeout flying station runs, countNoReply_counts (s := s.atTimeout) (.inr low),
      afterTimeout_sends left (by exact reached)]
    rfl
  · have gone := countNoReply_third_reach (s := s.atTimeout) reached third
    rw [exec_replyTimeout flying station runs, afterTimeout_resolves (.inl gone),
      countNoReply_third (s := s.atTimeout) reached third]
    rfl
  · rw [exec_replyTimeout flying station runs, countNoReply_counts (s := s.atTimeout) (ends.imp id And.left),
      afterTimeout_resolves (by exact ends.imp id And.right)]
    rfl

end Sys2Proof.Machine

/-! PROOFS of the family 06_shedding_and_the_sequencer. -/

namespace Sys2Proof.Machine

variable {s : State} {p : Fin 64} {k : Nat}

/-! ### The tracker at the ends of HALTED (R132) -/

/-- A tracker state set that differs from the one it had raises the CONSENT notice (R132). -/
theorem setTracker_changes {t : Tracker} (other : s.ctk.state ≠ t) :
    setTracker t s = raiseAll .consent { s with ctk := { s.ctk with state := t } } := if_neg other

/-- The tracker's state in HALTED as it is entered: OPEN after the quiet period, else WAIT_QUIET (R132). -/
def State.haltedTracker (s : State) : Tracker :=
  if s.pls.active.params.quietPeriod * 1000 ≤ s.mev.quiet then .openState else .waitQuiet

/-- The tracker begins in HALTED by quiet time (R132). -/
theorem enterHalted_eq (s : State) : enterHalted s = setTracker s.haltedTracker (setSequence .halted s) := by
  simp only [enterHalted, trackerEnterHalted, State.haltedTracker, State.quietLongEnough, Plan.quietMs, setSequence_frame,
    decide_eq_true_eq]
  split <;> rfl

/-- HALTED entered with no tracker under way: the SEQUENCE record, then the tracker with the CONSENT notice (R120, R132). -/
theorem enterHalted_inactive (inactive : s.ctk.state = .inactive) : enterHalted s
    = raiseAll .consent { setSequence .halted s with ctk := { s.ctk with state := s.haltedTracker } } := by
  have ctk : (setSequence .halted s).ctk = s.ctk := by simp
  rw [enterHalted_eq, setTracker_changes (by rw [ctk, inactive, State.haltedTracker]; split <;> nofun), ctk]

/-! ### The start and the end of a shed step (R121 to R126) -/

/-- A status set, read by its number. -/
theorem statusAt_set (v : Vector StepStatus 48) {k j : Nat} (st : StepStatus) (inside : j < 48) :
    statusAt (setStatusAt v k st) j = if j = k then st else statusAt v j := by
  simpa [statusAt, inside] using setStatusAt_get v k st ⟨j, inside⟩

/-- The Sequencer after a shed step has started: the step's status and its timers (R121). -/
theorem startShedStep_sequencer (k : Nat) (s : State) : (startShedStep k s).seq
    = { s.seq with
        shedStatus := setStatusAt s.seq.shedStatus k .running
        shedTimeout := some ((s.pls.active.shedStep k).timeout * 1000)
        shedDelay := delayStart (s.pls.active.shedStep k).wait (s.pls.active.shedStep k).delay } := by
  simp [startShedStep]

/-- Below the target the next shed step runs (R126). -/
theorem afterShedDone_runs (below : k + 1 < s.seq.target) : afterShedDone k s = startShedStep (k + 1) (s.shedDone k) :=
  if_pos below

/-- At the target the Sequencer halts (R120, R126). -/
theorem afterShedDone_halts (reached : s.seq.target ≤ k + 1) : afterShedDone k s = enterHalted (s.shedDone k) :=
  if_neg (Nat.not_lt.mpr reached)

/-- D, the pointer, the target and the step's status after a shed step is DONE (R126). -/
theorem afterShedDone_items (inside : k < 48) (s : State) :
    (afterShedDone k s).seq.depth = max s.seq.depth (k + 1) ∧ (afterShedDone k s).seq.pointer = k + 1
      ∧ statusAt (afterShedDone k s).seq.shedStatus k = .done ∧ (afterShedDone k s).seq.target = s.seq.target := by
  by_cases below : k + 1 < s.seq.target
  · rw [afterShedDone_runs below, startShedStep_sequencer]
    exact ⟨rfl, rfl, by simp [State.shedDone, statusAt_set _ _ inside], rfl⟩
  · rw [afterShedDone_halts (Nat.not_lt.mp below), enterHalted_seq]
    exact ⟨rfl, rfl, by simp [State.shedDone, statusAt_set _ _ inside], rfl⟩

/-- Below the target the Sequencer stays in SHEDDING with the next step running and its timeout set (R121, R126). -/
theorem afterShedDone_next (shedding : s.seq.state = .shedding) (below : k + 1 < s.seq.target) :
    (afterShedDone k s).seq.state = .shedding
      ∧ (k + 1 < 48 → statusAt (afterShedDone k s).seq.shedStatus (k + 1) = .running)
      ∧ (afterShedDone k s).seq.shedTimeout = some ((s.pls.active.shedStep (k + 1)).timeout * 1000) := by
  rw [afterShedDone_runs below, startShedStep_sequencer]
  exact ⟨shedding, fun inside => by simp [statusAt_set _ _ inside], rfl⟩

/-- At the target the Sequencer is HALTED and the shed timers are stopped (R120, R126). -/
theorem afterShedDone_halted (reached : s.seq.target ≤ k + 1) :
    (afterShedDone k s).seq.state = .halted ∧ (afterShedDone k s).seq.shedDelay = none
      ∧ (afterShedDone k s).seq.shedTimeout = none := by
  rw [afterShedDone_halts reached, enterHalted_seq]
  exact ⟨rfl, rfl, rfl⟩

/-- A running shed step is one of the 48, in SHEDDING. -/
theorem shedRunning_spec (running : s.shedRunning k = true) : s.seq.state = .shedding ∧ k < 48 := by
  obtain ⟨shedding, status⟩ : s.seq.state = .shedding ∧ statusAt s.seq.shedStatus k = .running := by
    simpa [State.shedRunning] using running
  exact ⟨shedding, statusAt_running status⟩

/-- The state in which a shed step has timed out and its end has not been taken: the record, the fault, the WARNED points (R125). -/
def State.shedTimedOut (s : State) (k : Nat) : State :=
  (s.pls.active.shedStep k).points.foldl shedWarned (raiseFault .stepTimeout (.step .shed k) (post (.step .shed k .timedOut) s))

/-- The timeout of a shed step: the timed-out step ends like any other (R125). -/
theorem shedTimeout_eq (k : Nat) (s : State) : shedTimeout k s = settle (afterShedDone k (s.shedTimedOut k)) := by
  simp only [shedTimeout, State.shedTimedOut, raiseFault_frame, post_frame]

/-- The Sequencer stands while a timeout is reported and the WARNED points are shed (R125). -/
theorem State.shedTimedOut_seq (s : State) (k : Nat) : (s.shedTimedOut k).seq = s.seq := by
  simp [State.shedTimedOut]

/-- STEP_TIMEOUT stands SET after a shed step has timed out (R125). -/
theorem State.shedTimedOut_status (s : State) (k : Nat) : (s.shedTimedOut k).fmn.status[FaultKind.stepTimeout.idx] = true :=
  foldl_status _ FaultKind.stepTimeout.idx.isLt _ (fun t p => shedWarned_status t p _ _) _ _ (raiseFault_sets ..)

/-! ### A point at the start of a shed step (R122) -/

/-- A point that is shed already, or that a shed step does not touch (R122). -/
theorem shedStepPoint_stands (state : s.pointState p = .locked ∨ s.pointState p = .shed ∨ s.pointState p = .warned
    ∨ s.pointState p = .unused ∨ s.pointState p = .await) : shedStepPoint s p = s := by
  rcases state with state | state | state | state | state <;> simp only [shedStepPoint, state]

/-- An ENERGISED point with an empty slot is warned first, if its mode says so, except at SEVERE (R122). -/
theorem shedStepPoint_warns (energised : s.pointState p = .energised) (slot : s.flc.motion[p] = .empty)
    (mode : s.pls.active.points[p].mode = .warnThenOpen ∧ s.mev.level ≠ .severe) :
    shedStepPoint s p = movePoint p .warning .orderDone (placeMotion .warn p s) := by
  simp only [shedStepPoint, energised, slot]
  exact if_pos mode

/-- Any other ENERGISED point has a SHED wanted (R122). -/
theorem shedStepPoint_sheds (energised : s.pointState p = .energised)
    (unwarned : ¬ (s.flc.motion[p] = .empty ∧ s.pls.active.points[p].mode = .warnThenOpen ∧ s.mev.level ≠ .severe)) :
    shedStepPoint s p = wantShed p .orderDone s := by
  simp only [shedStepPoint, energised]
  split
  · rfl
  · next slot => exact if_neg fun mode => unwarned ⟨slot, mode⟩
  · rfl

/-- A FAILED, UNKNOWN or SETTLING point has a SHED wanted (R122). -/
theorem shedStepPoint_wants (state : s.pointState p = .failed ∨ s.pointState p = .unknown ∨ s.pointState p = .settling) :
    shedStepPoint s p = wantShed p .orderDone s := by
  rcases state with state | state | state <;> simp only [shedStepPoint, state]

/-- A moving point has a SHED wanted if its order is in flight, and stands if it is not (R122). -/
theorem shedStepPoint_moving (state : s.pointState p = .warning ∨ s.pointState p = .opening ∨ s.pointState p = .closing) :
    ((∃ k, s.flc.motion[p] = .inFlight k) → shedStepPoint s p = wantShed p .orderDone s)
      ∧ ((∀ k, s.flc.motion[p] ≠ .inFlight k) → shedStepPoint s p = s) := by
  refine ⟨fun ⟨k, flies⟩ => ?_, fun rests => ?_⟩
  · rcases state with state | state | state <;> simp only [shedStepPoint, state, flies]
  · cases slot : s.flc.motion[p] with
    | inFlight k => exact absurd slot (rests k)
    | empty | pending => rcases state with state | state | state <;> simp only [shedStepPoint, state, slot]

/-- Settles O35: each expiry ends the running step, whose end and whose successor's start are the shed chain's own strokes. -/
theorem shedStepEnds : Obligations.ShedStepEnds := by
  refine ⟨fun s runs running => ?_, fun s runs running => ?_, fun s k => rfl,
    fun s p => ⟨shedStepPoint_stands, fun energised ⟨slot, mode⟩ => shedStepPoint_warns energised slot mode,
      shedStepPoint_sheds, shedStepPoint_wants, shedStepPoint_moving⟩, fun s k => ⟨afterShedDone_runs, fun reached inactive => ?_⟩⟩
  · intro k u
    obtain ⟨shedding, inside⟩ := shedRunning_spec running
    have seq : (post (.step .shed k .done) s).seq = s.seq := by simp
    have pls : (post (.step .shed k .done) s).pls = s.pls := by simp
    obtain ⟨depth, pointer, status, target⟩ := afterShedDone_items inside (post (.step .shed k .done) s)
    rw [seq] at depth target
    exact ⟨congrArg _ (if_pos ⟨runs, running⟩), depth, pointer, status, target,
      fun below => pls ▸ afterShedDone_next (seq.symm ▸ shedding) (seq.symm ▸ below),
      fun reached => afterShedDone_halted (seq.symm ▸ reached)⟩
  · intro k v u
    obtain ⟨-, inside⟩ := shedRunning_spec running
    have seq : v.seq = s.seq := s.shedTimedOut_seq k
    obtain ⟨depth, pointer, status, -⟩ := afterShedDone_items inside v
    rw [seq] at depth
    refine ⟨congrArg _ ((if_pos ⟨runs, running⟩).trans (shedTimeout_eq k s)),
      afterShedDone_status k v _ _ (s.shedTimedOut_status k), depth, pointer, status, fun reached => ?_⟩
    obtain ⟨halted, -⟩ := afterShedDone_halted (s := v) (seq.symm ▸ reached)
    exact halted
  · rw [afterShedDone_halts reached, enterHalted_inactive (s := s.shedDone k) inactive]
    rfl

end Sys2Proof.Machine

namespace Sys2Proof.Machine

variable {s t : State} {p : Fin 64} {k : Nat}

/-! ### An event opens and closes (R27, R41, R114, R118) -/

/-- A station's evaluation with its peaks reset (R27). -/
theorem resetPeaks_eval (s : State) (i : Fin 6) : (resetPeaks s).mev.evals[i] = s.mev.evals[i].resetPeaks := by
  have one : i = 0 ∨ i = 1 ∨ i = 2 ∨ i = 3 ∨ i = 4 ∨ i = 5 := by omega
  rcases one with rfl | rfl | rfl | rfl | rfl | rfl <;> rfl

/-- The greatest index is the same with the peaks reset (R27). -/
theorem resetPeaks_greatestIndex (s : State) : (resetPeaks s).greatestIndex = s.greatestIndex := by
  simp only [State.greatestIndex, State.healthyStations, resetPeaks_frame, resetPeaks_eval, StationEval.resetPeaks]

/-- The state in which an event has opened and its record has not been posted: the shed side afresh and the peaks reset (R114). -/
def State.eventBegun (s : State) : State :=
  resetPeaks { s with
    seq.eventOpen := true
    seq.depth := 0
    seq.shedStatus := Vector.replicate 48 .notStarted
    seq.pointer := 0
    seq.shedDelay := none
    seq.shedTimeout := none }

/-- The Sequencer after an event has opened (R114, R116). -/
theorem openEvent_sequencer (s : State) :
    (openEvent s).seq = { s.eventBegun.seq with target := max 0 (s.pls.active.depth s.mev.level) } := by
  simp [openEvent, State.eventBegun, resetPeaks]

/-- The evaluation after an event has opened: the peaks are reset and nothing else (R27). -/
theorem openEvent_mev (s : State) : (openEvent s).mev = s.eventBegun.mev := by
  simp [openEvent, State.eventBegun]

/-- An event opens: its record with the level and the greatest index, its notice, and the target (R114, R116). -/
theorem openEvent_eq (s : State) : openEvent s = { raiseAll .sequence (post (.event true s.mev.level s.greatestIndex) s.eventBegun) with
    seq := (openEvent s).seq } := by
  have index : s.eventBegun.greatestIndex = s.greatestIndex := resetPeaks_greatestIndex _
  rw [openEvent_sequencer, ← index]
  simp only [openEvent, post_frame, raiseAll_frame]
  rfl

/-- But for the target, the Sequencer and the evaluation of an event that has opened are those of its beginning (R114, R116). -/
theorem openEvent_begun (s : State) :
    { s with seq := { (openEvent s).seq with target := s.seq.target }, mev := (openEvent s).mev } = s.eventBegun := by
  rw [openEvent_sequencer, openEvent_mev]
  rfl

/-- A line that is ASSERTED is released with its record (R41). -/
theorem releaseLine_asserted {l : Fin 4} (asserted : s.dtu.lines[l] = true) :
    releaseLine l s = post (.dt l false) { s with dtu := ⟨s.dtu.lines.set l false⟩ } := if_pos asserted

/-- A line that is RELEASED stands (R41). -/
theorem releaseLine_released {l : Fin 4} (released : s.dtu.lines[l] = false) : releaseLine l s = s :=
  if_neg (by simp [released])

/-- Above QUIET a new event opens at the close of another, and may start shedding (R118). -/
theorem closeEvent_above_quiet (above : s.mev.level ≠ .quiet) : closeEvent s = checkShedding (openEvent s.shut) := by
  obtain ⟨-, -, mev, -⟩ := s.shut_items
  rw [closeEvent_eq, if_neg (by rw [mev]; exact above)]

/-- At a change of level the target of an open event rises to the depth of the level (R116). -/
theorem eventAtLevel_open (opened : s.seq.eventOpen = true) : eventAtLevel s
    = { s with seq := { s.seq with target := max s.seq.target (s.pls.active.depth s.mev.level) } } := if_pos opened

/-- With no event open, at QUIET or in LOADING, a change of level opens none (R114). -/
theorem eventAtLevel_stays (closed : s.seq.eventOpen = false)
    (low : s.mev.level = .quiet ∨ (s.seq.state = .startup ∧ s.seq.phase = .loading)) : eventAtLevel s = s := by
  rw [eventAtLevel, if_neg (by simp [closed]), if_pos low]

/-- With no event open, above QUIET and outside LOADING, a change of level opens one (R114). -/
theorem eventAtLevel_opens (closed : s.seq.eventOpen = false) (above : s.mev.level ≠ .quiet)
    (ended : ¬ (s.seq.state = .startup ∧ s.seq.phase = .loading)) : eventAtLevel s = openEvent s := by
  rw [eventAtLevel, if_neg (by simp [closed]), if_neg (not_or.mpr ⟨above, ended⟩)]

/-! ### Folds over points -/

/-- A fold whose steps leave the entries of other points leaves an entry that is not listed. -/
theorem foldl_entry_other {g : State → Fin 64 → State}
    (one : ∀ (t : State) (q : Fin 64), p ≠ q → (g t q).ptm.points[p] = t.ptm.points[p]) {l : List (Fin 64)} (out : p ∉ l)
    (s : State) : (l.foldl g s).ptm.points[p] = s.ptm.points[p] :=
  List.foldlRecOn (motive := fun t => t.ptm.points[p] = s.ptm.points[p]) l g rfl
    (fun t same q listed => (one t q (fun here => out (here ▸ listed))).trans same)

/-- A fold over all points takes each point once: what holds until its turn, what its turn brings, and what holds from then on. -/
theorem foldl_turn {g : State → Fin 64 → State} (until_turn from_turn : State → Prop) (start : until_turn s)
    (before : ∀ (t : State) (q : Fin 64), p ≠ q → until_turn t → until_turn (g t q))
    (turn : ∀ t, until_turn t → from_turn (g t p))
    (after : ∀ (t : State) (q : Fin 64), p ≠ q → from_turn t → from_turn (g t q)) :
    from_turn (allPoints.foldl g s) := by
  obtain ⟨l, r, split⟩ := List.append_of_mem (List.mem_finRange p)
  have once : (l ++ p :: r).Nodup := split ▸ List.nodup_finRange 64
  obtain ⟨-, once, apart⟩ := List.nodup_append.mp once
  rw [allPoints, split, List.foldl_append, List.foldl_cons]
  refine List.foldlRecOn r g (turn _ (List.foldlRecOn l g start fun t held q listed => ?_)) fun t held q listed => ?_
  · exact before t q (fun here => apart q listed p List.mem_cons_self here.symm) held
  · exact after t q (fun here => (List.nodup_cons.mp once).1 (here ▸ listed)) held

/-! ### What the start of shedding leaves of a point (R83, R119, R122) -/

/-- A SHED wanted leaves the entry of every other point (R66). -/
theorem wantShed_entry_other (c : Cause) (s : State) {q : Fin 64} (other : p ≠ q) :
    (wantShed q c s).ptm.points[p] = s.ptm.points[p] := by
  have opens (c : Cause) : (changePoint q .opening c (placeMotion .shed q s)).ptm.points[p] = s.ptm.points[p] := by
    simp [changePoint_entry_other _ _ _ other]
  rw [wantShed, settleLamp_entry_other _ _ other]
  unfold wantShedBare
  split
  · exact opens c
  · exact opens c
  · exact opens .cancelled
  · rfl
  · exact vector_set_other _ _ _ _ other.symm

/-- What the start of a shed step can do with a point: leave it, warn it, or want a SHED (R122). -/
theorem shedStepPoint_cases (s : State) (q : Fin 64) : shedStepPoint s q = s
    ∨ shedStepPoint s q = movePoint q .warning .orderDone (placeMotion .warn q s) ∨ shedStepPoint s q = wantShed q .orderDone s := by
  cases state : s.pointState q with
  | locked | shed | warned | unused | await => exact .inl (shedStepPoint_stands (by simp [state]))
  | failed | unknown | settling => exact .inr (.inr (shedStepPoint_wants (by simp [state])))
  | energised =>
    by_cases warns : s.flc.motion[q] = .empty ∧ s.pls.active.points[q].mode = .warnThenOpen ∧ s.mev.level ≠ .severe
    · exact .inr (.inl (shedStepPoint_warns state warns.1 warns.2))
    · exact .inr (.inr (shedStepPoint_sheds state warns))
  | warning | opening | closing =>
    obtain ⟨sheds, stands⟩ := shedStepPoint_moving (s := s) (p := q) (by simp [state])
    by_cases flies : ∃ k, s.flc.motion[q] = .inFlight k
    · exact .inr (.inr (sheds flies))
    · exact .inl (stands (not_exists.mp flies))

/-- A point at the start of a shed step leaves the entry of every other (R122). -/
theorem shedStepPoint_entry_other (s : State) (q : Fin 64) (other : p ≠ q) :
    (shedStepPoint s q).ptm.points[p] = s.ptm.points[p] := by
  rcases shedStepPoint_cases s q with done | done | done <;> rw [done]
  · simp [movePoint_entry_other _ _ _ other]
  · exact wantShed_entry_other _ s other

/-- The start of a shed step leaves the entry of a point that it does not list (R121, R122). -/
theorem startShedStep_entry_other (out : p ∉ (s.pls.active.shedStep k).points) :
    (startShedStep k s).ptm.points[p] = s.ptm.points[p] := by
  refine (foldl_entry_other shedStepPoint_entry_other out _).trans ?_
  simp

/-- A manual point in AWAIT, or in CLOSING with its RESTORE pending, is cancelled where WATCH ends (R83). -/
theorem withdrawManual_cancels (manual : s.ptm.points[p].manual = true)
    (waits : s.pointState p = .await ∨ (s.pointState p = .closing ∧ s.flc.motion[p] = .pending .restore)) :
    withdrawManual s p = cancelPoint p s := by
  rw [withdrawManual, if_pos manual]
  rcases waits with await | ⟨closing, slot⟩
  · simp only [await]
  · simp only [closing]
    exact if_pos slot

/-- Every other point stands where WATCH ends (R83). -/
theorem withdrawManual_stands (keeps : ¬ (s.ptm.points[p].manual = true
    ∧ (s.pointState p = .await ∨ (s.pointState p = .closing ∧ s.flc.motion[p] = .pending .restore)))) :
    withdrawManual s p = s := by
  unfold withdrawManual
  split
  · next manual =>
    split
    · next await => exact absurd ⟨manual, .inl await⟩ keeps
    · next closing => exact if_neg fun slot => keeps ⟨manual, .inr ⟨closing, slot⟩⟩
    · rfl
  · rfl

/-- The entry of a point after it is cancelled (R83). -/
theorem cancelPoint_entry (p : Fin 64) (s : State) :
    ∃ m, (cancelPoint p s).ptm.points[p] = { s.ptm.points[p].enter .shed .cancelled with lamp := m } := by
  obtain ⟨m, entry⟩ := movePoint_entry p .shed .cancelled (withdraw p s)
  exact ⟨m, by simpa [cancelPoint] using entry⟩

/-- A manual restore withdrawn leaves the entry of every other point (R83). -/
theorem withdrawManual_entry_other (s : State) (q : Fin 64) (other : p ≠ q) :
    (withdrawManual s q).ptm.points[p] = s.ptm.points[p] := by
  by_cases due : s.ptm.points[q].manual = true
      ∧ (s.pointState q = .await ∨ (s.pointState q = .closing ∧ s.flc.motion[q] = .pending .restore))
  · rw [withdrawManual_cancels due.1 due.2, cancelPoint, movePoint_entry_other _ _ _ other]
    simp
  · rw [withdrawManual_stands due]

/-- A manual point in AWAIT is SHED with cause CANCELLED once the manual restores are withdrawn (R83). -/
theorem withdrawManuals_await (manual : s.ptm.points[p].manual = true) (await : s.pointState p = .await) :
    ∃ m, (allPoints.foldl withdrawManual s).ptm.points[p] = { s.ptm.points[p].enter .shed .cancelled with lamp := m } := by
  refine foldl_turn (p := p) (fun t => t.ptm.points[p] = s.ptm.points[p])
    (fun t => ∃ m, t.ptm.points[p] = { s.ptm.points[p].enter .shed .cancelled with lamp := m }) rfl
    (fun t q other same => (withdrawManual_entry_other t q other).trans same) (fun t same => ?_)
    (fun t q other ⟨m, same⟩ => ⟨m, (withdrawManual_entry_other t q other).trans same⟩)
  rw [withdrawManual_cancels (same ▸ manual) (.inl ((congrArg PointEntry.state same).trans await)), ← same]
  exact cancelPoint_entry p t

/-- A point that is not manual keeps its entry while the manual restores are withdrawn (R83). -/
theorem withdrawManuals_unmanual (unmanual : s.ptm.points[p].manual = false) :
    (allPoints.foldl withdrawManual s).ptm.points[p] = s.ptm.points[p] := by
  refine foldl_turn (p := p) (fun t => t.ptm.points[p] = s.ptm.points[p]) (fun t => t.ptm.points[p] = s.ptm.points[p]) rfl
    (fun t q other same => (withdrawManual_entry_other t q other).trans same) (fun t same => ?_)
    (fun t q other same => (withdrawManual_entry_other t q other).trans same)
  rw [withdrawManual_stands fun ⟨manual, _⟩ => by simp only [same, unmanual, Bool.false_eq_true] at manual, same]

/-! ### The start of shedding (R119, R132) -/

/-- With no tracker under way SHEDDING is entered with its record alone (R113). -/
theorem setShedding_inactive (inactive : s.ctk.state = .inactive) : setShedding s = setSequence .shedding s := by
  have ctk : (setSequence .shedding s).ctk.state = .inactive := by simpa using inactive
  simp only [setShedding, trackerLeaveHalted, ctk]

/-- With no consent held the tracker ends after the SEQUENCE record (R132). -/
theorem setShedding_waiting (waiting : s.ctk.state = .waitQuiet ∨ s.ctk.state = .openState) : setShedding s
    = raiseAll .consent { setSequence .shedding s with ctk := { s.ctk with state := .inactive } } := by
  have ctk : (setSequence .shedding s).ctk = s.ctk := by simp
  have ends : setShedding s = setTracker .inactive (setSequence .shedding s) := by
    rcases waiting with state | state <;> simp only [setShedding, trackerLeaveHalted, ctk, state]
  rw [ends, setTracker_changes (by rcases waiting with state | state <;> simp [state]), ctk]

/-- A held consent is discarded with its record, after the SEQUENCE record (R132; log 41). -/
theorem setShedding_one {q : Fin 3} (one : s.ctk.state = .one) (held : s.ctk.held = some q) :
    let v := post (.consent q .discarded) { setSequence .shedding s with ctk := { s.ctk with held := none, window := none } }
    setShedding s = raiseAll .consent { v with ctk := { v.ctk with state := .inactive } } := by
  intro v
  have ctk : (setSequence .shedding s).ctk = s.ctk := by simp
  have dropped : dropConsent .discarded (setSequence .shedding s) = v := by
    simp only [dropConsent, ctk, held]
    rfl
  have tracker : v.ctk.state = .one := by simp [v, one]
  rw [← setTracker_changes (by simp [tracker]), ← dropped]
  simp only [setShedding, trackerLeaveHalted, ctk, one]

/-- The tracker is INACTIVE once HALTED is left for SHEDDING (R132). -/
theorem setShedding_tracker (s : State) : (setShedding s).ctk.state = .inactive := by
  have ctk : (setSequence .shedding s).ctk = s.ctk := by simp
  unfold setShedding trackerLeaveHalted
  split
  case h_4 inactive => exact inactive
  all_goals simp [setTracker_ctk]

/-- A target at or below D starts no shedding (R119). -/
theorem checkShedding_reached (reached : s.seq.target ≤ s.seq.depth) : checkShedding s = s :=
  if_neg (Nat.not_lt.mpr reached)

/-- Shedding starts in WATCH and HALTED alone (R119). -/
theorem checkShedding_elsewhere (watch : s.seq.state ≠ .watch) (halted : s.seq.state ≠ .halted) : checkShedding s = s := by
  unfold checkShedding
  split
  · split
    · next state => exact absurd state watch
    · next state => exact absurd state halted
    all_goals rfl
  · rfl

/-- A target above D starts shedding in WATCH (R119). -/
theorem checkShedding_watch (due : s.seq.depth < s.seq.target) (watch : s.seq.state = .watch) :
    checkShedding s = shedFromWatch s := by
  rw [checkShedding, if_pos due]
  simp only [watch]

/-- A target above D starts shedding in HALTED, at the step at D (R119). -/
theorem checkShedding_halted (due : s.seq.depth < s.seq.target) (halted : s.seq.state = .halted) :
    checkShedding s = shedFromHalted s := by
  rw [checkShedding, if_pos due]
  simp only [halted]

/-- Out of HALTED it is the step at D that starts (R119). -/
theorem shedFromHalted_step (s : State) :
    shedFromHalted s = startShedStep s.seq.depth (setShedding (s.atPointer s.seq.depth)) := by
  rw [shedFromHalted_eq, setShedding_seq]
  rfl

/-- The Sequencer once shedding has started at a step, as far as no timer counts (R119, R121). -/
theorem started_items {q : Seq} (same : t.seq.untimed
      = Seq.untimed { q with state := .shedding, pointer := k, shedStatus := setStatusAt q.shedStatus k .running }) :
    t.seq.state = .shedding ∧ t.seq.pointer = k ∧ t.seq.shedStatus = setStatusAt q.shedStatus k .running
      ∧ t.seq.depth = q.depth ∧ t.seq.target = q.target ∧ t.seq.eventOpen = q.eventOpen :=
  ⟨congrArg Seq.state same, congrArg Seq.pointer same, congrArg Seq.shedStatus same, (congrArg Seq.depth same :),
    (congrArg Seq.target same :), (congrArg Seq.eventOpen same :)⟩

/-- The entry of a point that H0 does not list, once shedding has started in WATCH: as the withdrawals leave it (R83, R119). -/
theorem shedFromWatch_entry (out : p ∉ (s.pls.active.shedStep 0).points) : (shedFromWatch s).ptm.points[p]
    = (allPoints.foldl withdrawManual (setShedding (s.atPointer 0))).ptm.points[p] := by
  rw [shedFromWatch_eq, startShedStep_entry_other]
  simpa [State.atPointer] using out

/-- A manual point in AWAIT is SHED with cause CANCELLED once shedding has started in WATCH (R83, R119). -/
theorem shedFromWatch_await (out : p ∉ (s.pls.active.shedStep 0).points) (manual : s.ptm.points[p].manual = true)
    (await : s.pointState p = .await) : (shedFromWatch s).pointState p = .shed
      ∧ (shedFromWatch s).ptm.points[p].cause = .cancelled ∧ (shedFromWatch s).ptm.points[p].manual = false := by
  have stands : (setShedding (s.atPointer 0)).ptm = s.ptm := by simp [State.atPointer]
  obtain ⟨m, entry⟩ := withdrawManuals_await (s := setShedding (s.atPointer 0)) (p := p) (by rwa [stands])
    (by rwa [State.pointState, stands])
  simp [State.pointState, shedFromWatch_entry out, entry, PointEntry.enter, PointState.keepsManual]

/-- A point that is not manual keeps its entry as shedding starts in WATCH, unless H0 lists it (R83, R119). -/
theorem shedFromWatch_unmanual (out : p ∉ (s.pls.active.shedStep 0).points) (unmanual : s.ptm.points[p].manual = false) :
    (shedFromWatch s).ptm.points[p] = s.ptm.points[p] := by
  have stands : (setShedding (s.atPointer 0)).ptm = s.ptm := by simp [State.atPointer]
  rw [shedFromWatch_entry out, withdrawManuals_unmanual (by rwa [stands]), stands]

/-- A point keeps its entry as shedding starts in HALTED, unless the step at D lists it (R119). -/
theorem shedFromHalted_entry (out : p ∉ (s.pls.active.shedStep s.seq.depth).points) :
    (shedFromHalted s).ptm.points[p] = s.ptm.points[p] := by
  rw [shedFromHalted_step, startShedStep_entry_other]
  · simp [State.atPointer]
  · simpa [State.atPointer] using out

/-- The tracker has ended once shedding has started in HALTED (R132). -/
theorem shedFromHalted_tracker (s : State) : (shedFromHalted s).ctk.state = .inactive := by
  simp [shedFromHalted_step, setShedding_tracker]

/-! ### The start-up decision (R111, R128) -/

/-- Some item of a vector of flags is set. -/
theorem vector_any_id {n : Nat} (v : Vector Bool n) : v.toList.any id = true ↔ ∃ i : Fin n, v[i] = true := by
  simp only [List.any_eq_true, id, exists_eq_right, Vector.mem_toList_iff, Vector.mem_iff_getElem]
  exact ⟨fun ⟨i, inside, set⟩ => ⟨⟨i, inside⟩, set⟩, fun ⟨i, set⟩ => ⟨i.val, i.isLt, set⟩⟩

/-- A point is listed below D when one of the shed steps below D lists it (R128). -/
theorem Plan.listedBelow_iff (pl : Plan) (d : Nat) (p : Fin 64) :
    pl.listedBelow d p = true ↔ ∃ k : Fin 48, k.val < d ∧ p ∈ pl.shed[k].points := by
  simp only [Plan.listedBelow, Plan.shedSteps, List.any_eq_true, List.contains_iff_mem, List.mem_take_iff_getElem]
  constructor
  · rintro ⟨_, ⟨j, below, rfl⟩, listed⟩
    simp only [Vector.length_toList, lt_min_iff] at below
    exact ⟨⟨j, below.2⟩, below.1, by simpa using listed⟩
  · rintro ⟨k, below, listed⟩
    exact ⟨pl.shed[k], ⟨k, by simp [below], by simp⟩, listed⟩

/-- Enforcement at a point is a SHED wanted with cause ENFORCED (R128). -/
theorem enforce_due (due : (s.seq.state = .shedding ∨ s.seq.state = .halted) ∧ s.inUse p = true ∧ s.pointState p = .energised
    ∧ (s.ptm.points[p].cause = .feedback ∨ s.ptm.points[p].cause = .lockout)
    ∧ ∃ k : Fin 48, k.val < s.seq.depth ∧ p ∈ s.pls.active.shed[k].points) : enforce p s = wantShed p .enforced s :=
  if_pos (by rwa [Plan.listedBelow_iff])

/-- No other point is enforced (R128). -/
theorem enforce_stands (other : ¬ ((s.seq.state = .shedding ∨ s.seq.state = .halted) ∧ s.inUse p = true
    ∧ s.pointState p = .energised ∧ (s.ptm.points[p].cause = .feedback ∨ s.ptm.points[p].cause = .lockout)
    ∧ ∃ k : Fin 48, k.val < s.seq.depth ∧ p ∈ s.pls.active.shed[k].points)) : enforce p s = s :=
  if_neg (by rwa [Plan.listedBelow_iff])

/-- The statuses of the present steps after the start-up decision (R111). -/
theorem allDone_get (v : Vector StepStatus 48) (n : Nat) (j : Fin 48) :
    (allDone v n)[j] = if j.val < n then .done else v[j] := by
  induction n with
  | zero => simp [allDone]
  | succ n ih =>
    have last : allDone v (n + 1) = setStatusAt (allDone v n) n .done := by simp [allDone, List.range_succ]
    rw [last, setStatusAt_get, ih]
    grind

/-- The choice leaves an empty motion slot (R91). -/
theorem Flc.choose_motion_empty {f : Flc} (empty : f.motion[p] = .empty) : f.choose.motion[p] = .empty := by
  rcases f.choose_cases with stays | ⟨o, -, waits, chose⟩
  · rwa [stays]
  · rw [chose]
    cases o with
    | motion j q =>
      have apart : q ≠ p := by
        rintro rfl
        cases empty.symm.trans waits
      exact (vector_set_other _ _ _ _ apart).trans empty
    | lamp | poll | tripAll => exact empty

/-- A lamp re-evaluated leaves an empty motion slot. -/
theorem settleLamp_motion_empty {q : Fin 64} (old : PointState) (empty : s.flc.motion[p] = .empty) :
    (settleLamp q old s).flc.motion[p] = .empty := by
  unfold settleLamp
  dsimp only
  split
  · exact Flc.choose_motion_empty empty
  · exact empty

/-- An order placed for a point leaves the empty slot of another (R87). -/
theorem placeMotion_motion_empty (k : MotionKind) {q : Fin 64} (other : p ≠ q) (empty : s.flc.motion[p] = .empty) :
    (placeMotion k q s).flc.motion[p] = .empty := by
  unfold placeMotion
  split
  · exact empty
  all_goals exact Flc.choose_motion_empty ((vector_set_other _ _ _ _ other.symm).trans empty)

/-- A SHED wanted for a point leaves the empty slot of another (R66). -/
theorem wantShed_motion_empty (c : Cause) {q : Fin 64} (other : p ≠ q) (empty : s.flc.motion[p] = .empty) :
    (wantShed q c s).flc.motion[p] = .empty := by
  have opens (c : Cause) : (changePoint q .opening c (placeMotion .shed q s)).flc.motion[p] = .empty := by
    simpa using placeMotion_motion_empty .shed other empty
  refine settleLamp_motion_empty _ ?_
  unfold wantShedBare
  split
  · exact opens c
  · exact opens c
  · exact opens .cancelled
  · exact empty
  · exact empty

/-- Whether the start-up decision enforces a point: an ENERGISED one of the shed chain (R111). -/
def State.enforcedAtStart (s : State) (p : Fin 64) : Prop :=
  s.inUse p = true ∧ s.pointState p = .energised ∧ ∃ k : Fin 48, k.val < s.seq.depth ∧ p ∈ s.pls.active.shed[k].points

/-- A point that the start-up decision enforces has a SHED wanted (R111). -/
theorem enforceAtStart_due (due : s.enforcedAtStart p) : enforceAtStart s p = wantShed p .enforced s :=
  if_pos (by rwa [Plan.listedBelow_iff])

/-- Any other point stands (R111). -/
theorem enforceAtStart_stands (other : ¬ s.enforcedAtStart p) : enforceAtStart s p = s :=
  if_neg (by rwa [Plan.listedBelow_iff])

/-- Enforcement at one point leaves the entry of another, and its slot if it is empty (R111). -/
theorem enforceAtStart_other (s : State) {q : Fin 64} (other : p ≠ q) :
    (enforceAtStart s q).ptm.points[p] = s.ptm.points[p]
      ∧ (s.flc.motion[p] = .empty → (enforceAtStart s q).flc.motion[p] = .empty) := by
  by_cases due : s.enforcedAtStart q
  · rw [enforceAtStart_due due]
    exact ⟨wantShed_entry_other _ s other, wantShed_motion_empty _ other⟩
  · rw [enforceAtStart_stands due]
    exact ⟨rfl, id⟩

/-- Two states that agree in what decides the enforcement of a point at start-up. -/
def SameAtStart (p : Fin 64) (s t : State) : Prop :=
  t.pls = s.pls ∧ t.seq = s.seq ∧ t.ptm.points[p] = s.ptm.points[p]

/-- States that agree so have the point enforced or not alike (R111). -/
theorem SameAtStart.enforced (h : SameAtStart p s t) : t.enforcedAtStart p ↔ s.enforcedAtStart p := by
  obtain ⟨pls, seq, entry⟩ := h
  simp only [State.enforcedAtStart, State.inUse, State.pointState, pls, seq, entry]

/-- Enforcement at another point keeps that agreement. -/
theorem SameAtStart.other {q : Fin 64} (h : SameAtStart p s t) (other : p ≠ q) : SameAtStart p s (enforceAtStart t q) := by
  obtain ⟨pls, seq, entry⟩ := h
  exact ⟨by simp [pls], by simp [seq], (enforceAtStart_other t other).1.trans entry⟩

/-- An enforced point with no order in its slot is OPENING with cause ENFORCED (R66, R111). -/
theorem enforcedAtStart_opens (due : s.enforcedAtStart p) (slot : s.flc.motion[p] = .empty) :
    (allPoints.foldl enforceAtStart s).pointState p = .opening
      ∧ (allPoints.foldl enforceAtStart s).ptm.points[p].cause = .enforced := by
  have turn (t : State) (waits : SameAtStart p s t ∧ t.flc.motion[p] = .empty) :
      (enforceAtStart t p).pointState p = .opening ∧ (enforceAtStart t p).ptm.points[p].cause = .enforced := by
    obtain ⟨same, empty⟩ := waits
    obtain ⟨⟨m, entry⟩, -⟩ := wantShed_opens .enforced empty
    simp only [enforceAtStart_due (same.enforced.mpr due), State.pointState, entry, PointEntry.enter, and_self]
  refine foldl_turn (fun t => SameAtStart p s t ∧ t.flc.motion[p] = .empty)
    (fun t => t.pointState p = .opening ∧ t.ptm.points[p].cause = .enforced) ⟨⟨rfl, rfl, rfl⟩, slot⟩
    (fun t q other ⟨same, empty⟩ => ⟨same.other other, (enforceAtStart_other t other).2 empty⟩) turn (fun t q other opened => ?_)
  simpa only [State.pointState, (enforceAtStart_other t other).1] using opened

/-- A point that the start-up decision does not enforce keeps its entry (R111). -/
theorem unenforcedAtStart_stands (other : ¬ s.enforcedAtStart p) :
    (allPoints.foldl enforceAtStart s).ptm.points[p] = s.ptm.points[p] := by
  have kept : SameAtStart p s (allPoints.foldl enforceAtStart s) :=
    foldl_turn (p := p) (SameAtStart p s) (SameAtStart p s) ⟨rfl, rfl, rfl⟩ (fun t q apart same => same.other apart)
      (fun t same => (enforceAtStart_stands (mt same.enforced.mp other)).symm ▸ same) (fun t q apart same => same.other apart)
  obtain ⟨-, -, entry⟩ := kept
  exact entry

/-- An event open: what it leaves of the blocks that the start-up decision reads. -/
theorem State.withEvent_frame (s : State) : s.withEvent.pls = s.pls ∧ s.withEvent.ptm = s.ptm ∧ s.withEvent.flc = s.flc
    ∧ s.withEvent.mev.quiet = s.mev.quiet ∧ s.withEvent.seq.eventOpen = true := by
  unfold State.withEvent
  split
  · next opened => exact ⟨rfl, rfl, rfl, rfl, opened⟩
  · simp [openEvent, resetPeaks]

/-- The state in which the start-up decision has halted and no point has been enforced (R111). -/
def State.haltedAtStart (s : State) : State := enterHalted s.withEvent.allShed

/-- The Sequencer that the start-up decision halts: D, the target and the pointer at the chain's length (R111). -/
theorem State.haltedAtStart_items (s : State) :
    s.haltedAtStart.seq.state = .halted ∧ s.haltedAtStart.seq.eventOpen = true ∧ s.haltedAtStart.seq.depth = s.pls.active.shedLen
      ∧ s.haltedAtStart.seq.target = s.pls.active.shedLen ∧ s.haltedAtStart.seq.pointer = s.pls.active.shedLen
      ∧ (∀ k : Fin 48, k.val < s.pls.active.shedLen → s.haltedAtStart.seq.shedStatus[k] = .done)
      ∧ s.haltedAtStart.ctk.state = s.haltedTracker := by
  obtain ⟨pls, -, -, quiet, opened⟩ := s.withEvent_frame
  have tracker : s.withEvent.allShed.haltedTracker = s.haltedTracker := by
    simp only [State.haltedTracker, State.allShed, pls, quiet]
  have seq : s.haltedAtStart.seq = { s.withEvent.allShed.seq with state := .halted } := enterHalted_seq _
  have len : s.withEvent.pls.active.shedLen = s.pls.active.shedLen := by rw [pls]
  rw [seq]
  refine ⟨rfl, opened, len, len, len, fun k below => ?_, ?_⟩
  · exact (allDone_get _ _ k).trans (if_pos (len ▸ below))
  · rw [State.haltedAtStart, enterHalted_eq, setTracker_ctk, tracker]

/-- The points and the plan as the start-up decision halts (R111). -/
theorem State.haltedAtStart_plant (s : State) : s.haltedAtStart.pls = s.pls ∧ s.haltedAtStart.ptm = s.ptm
    ∧ s.haltedAtStart.flc = s.flc := by
  obtain ⟨pls, ptm, flc, -⟩ := s.withEvent_frame
  simp [State.haltedAtStart, State.allShed, pls, ptm, flc]

/-- What makes the start-up decision halt: a SHED point in use, or an ASSERTED line (R111). -/
def State.shedFound (s : State) : Prop :=
  (∃ p : Fin 64, s.inUse p = true ∧ s.pointState p = .shed) ∨ ∃ l : Fin 4, s.dtu.lines[l] = true

/-- The start-up decision's test is the one of R111. -/
theorem State.shedFound_iff (s : State) :
    (allPoints.any (fun p => s.inUse p && s.pointState p == .shed) || s.dtu.lines.toList.any id) = true ↔ s.shedFound := by
  rw [Bool.or_eq_true, vector_any_id, State.shedFound]
  simp [allPoints]

/-- With a SHED point or an ASSERTED line the start-up decision halts and enforces the chain, in point order (R111; log 35). -/
theorem startupDecision_halts (taken : s.shedFound) : startupDecision s = allPoints.foldl enforceAtStart s.haltedAtStart := by
  rw [startupDecision_eq, if_pos (s.shedFound_iff.mpr taken)]
  rfl

/-- The Sequencer and the tracker stand while the chain is enforced at start-up (R111). -/
theorem enforceAtStart_all (s : State) : (allPoints.foldl enforceAtStart s).seq = s.seq
    ∧ (allPoints.foldl enforceAtStart s).ctk = s.ctk := by
  simp

/-- The points that the start-up decision enforces are the ENERGISED ones of the whole chain (R111). -/
theorem State.haltedAtStart_enforced (s : State) (p : Fin 64) : s.haltedAtStart.enforcedAtStart p
    ↔ s.inUse p = true ∧ s.pointState p = .energised
      ∧ ∃ k : Fin 48, k.val < s.pls.active.shedLen ∧ p ∈ s.pls.active.shed[k].points := by
  obtain ⟨pls, ptm, -⟩ := s.haltedAtStart_plant
  obtain ⟨-, -, depth, -⟩ := s.haltedAtStart_items
  simp only [State.enforcedAtStart, State.inUse, State.pointState, pls, ptm, depth]

/-- The poll round has ended in POLLING (R103). -/
def State.roundEnded (s : State) : Prop :=
  s.seq.state = .startup ∧ s.seq.phase = .polling ∧ ∀ st : Fin 16, s.flc.marks[st] = false

/-- The end of the poll round makes the start-up decision (R103, R111). -/
theorem checkRound_iff (s : State) : (s.roundEnded → checkRound s = startupDecision s) ∧ (¬ s.roundEnded → checkRound s = s) := by
  have marks : s.flc.marks.toList.any id = false ↔ ∀ st : Fin 16, s.flc.marks[st] = false := by
    rw [← Bool.not_eq_true, vector_any_id]
    simp
  unfold checkRound State.roundEnded
  rw [← marks]
  exact ⟨fun ended => if_pos ended, fun runs => if_neg runs⟩

/-- With nothing taken the start-up decision is WATCH, and what its target and its event bring (R111). -/
theorem startupDecision_watch (free : ¬ s.shedFound) :
    (s.seq.depth < s.seq.target → startupDecision s = checkShedding (setSequence .watch s))
      ∧ (s.seq.target ≤ s.seq.depth →
        let closes := s.seq.eventOpen = true ∧ s.mev.level = .quiet ∧ s.pls.active.params.quietPeriod * 1000 ≤ s.mev.quiet
        (closes → startupDecision s = closeEvent (setSequence .watch s))
          ∧ (¬ closes → startupDecision s = setSequence .watch s)) := by
  have seq : (setSequence .watch s).seq = { s.seq with state := .watch } := setSequence_seq .watch s
  have watching : (setSequence .watch s).seq.state = .watch := by rw [seq]
  rw [startupDecision_eq, if_neg (mt s.shedFound_iff.mp free)]
  refine ⟨fun due => ?_, fun reached => ?_⟩
  · have due : (setSequence .watch s).seq.depth < (setSequence .watch s).seq.target := by rwa [seq]
    rw [if_pos due, checkShedding_watch due watching]
  · intro closes
    have closing : ((setSequence .watch s).seq.eventOpen = true ∧ (setSequence .watch s).mev.level = .quiet
        ∧ (setSequence .watch s).quietLongEnough = true) ↔ closes := by
      simp [closes, seq, State.quietLongEnough, Plan.quietMs]
    rw [if_neg (by rw [seq]; exact Nat.not_lt.mpr reached)]
    exact ⟨fun due => if_pos (closing.mpr due), fun stays => if_neg (mt closing.mp stays)⟩

/-- Settles O37: the event's opening and close, the start of shedding, the start-up decision and enforcement, each by its own equations. -/
theorem eventOpens : Obligations.EventOpens := by
  refine ⟨fun s => ?opens, fun s => ⟨closeEvent_of_quiet, closeEvent_above_quiet⟩,
    fun s l => ⟨releaseLines_line l s, rfl, releaseLine_asserted, releaseLine_released⟩,
    fun s => ⟨eventAtLevel_open, eventAtLevel_stays, eventAtLevel_opens⟩,
    fun s => ⟨checkShedding_reached, checkShedding_elsewhere, ?sheds⟩, fun s => ?decides, fun s p => ⟨enforce_due, enforce_stands⟩,
    fun s due => ⟨fun watch => (checkShedding_watch due watch).trans (shedFromWatch_eq s),
      fun halted => (checkShedding_halted due halted).trans (shedFromHalted_step s)⟩,
    fun s p => ⟨fun ⟨manual, waits⟩ => withdrawManual_cancels manual waits, withdrawManual_stands⟩,
    fun s => ⟨setShedding_inactive, setShedding_waiting, fun q one held => setShedding_one one held⟩⟩
  case opens =>
    intro t
    have mev := openEvent_mev s
    refine ⟨openEvent_sequencer s, congrArg Mev.peakLevel mev, congrArg Mev.peakHealthy mev, congrArg Mev.peaksStand mev,
      fun i => ?_, ?_⟩
    · rw [mev]
      exact resetPeaks_eval _ i
    · rw [openEvent_begun]
      exact openEvent_eq s
  case sheds =>
    intro due state k
    rcases state with watch | halted
    · have here : k = 0 := if_pos watch
      have starts := checkShedding_watch due watch
      obtain ⟨state, pointer, status, depth, target, opened⟩ := started_items (shedFromWatch_seq s)
      rw [starts, here]
      refine ⟨state, pointer, status, depth, target, opened, fun halted => by simp [watch] at halted, fun p out =>
        ⟨fun _ => shedFromWatch_await out, fun keeps => shedFromWatch_unmanual out (keeps.resolve_left (by simp [watch]))⟩⟩
    · have here : k = s.seq.depth := if_neg (by simp [halted])
      have starts := checkShedding_halted due halted
      obtain ⟨state, pointer, status, depth, target, opened⟩ := started_items (shedFromHalted_seq s)
      rw [starts, here]
      refine ⟨state, pointer, status, depth, target, opened, fun _ => shedFromHalted_tracker s, fun p out =>
        ⟨fun watch => by simp [halted] at watch, fun _ => shedFromHalted_entry out⟩⟩
  case decides =>
    intro n taken due t watch
    obtain ⟨decides, waits⟩ := checkRound_iff s
    refine ⟨waits, fun ended taken => ?_, fun ended free => ?_, fun ended free reached => ?_⟩
    · obtain ⟨seq, ctk⟩ := enforceAtStart_all s.haltedAtStart
      obtain ⟨-, ptm, flc⟩ := s.haltedAtStart_plant
      obtain ⟨state, opened, depth, target, pointer, status, tracker⟩ := s.haltedAtStart_items
      have decided : t = allPoints.foldl enforceAtStart s.haltedAtStart := (decides ended).trans (startupDecision_halts taken)
      rw [decided, seq, ctk]
      refine ⟨state, opened, depth, target, pointer, status, tracker, fun p => ⟨fun enforced slot => ?_, fun other => ?_⟩⟩
      · exact enforcedAtStart_opens ((s.haltedAtStart_enforced p).mpr enforced) (by rwa [flc])
      · rw [unenforcedAtStart_stands (mt (s.haltedAtStart_enforced p).mp other), ptm]
    · exact fun rises => (decides ended).trans ((startupDecision_watch free).1 rises)
    · obtain ⟨closes, stays⟩ := (startupDecision_watch free).2 reached
      exact ⟨fun event => (decides ended).trans (closes event), fun other => (decides ended).trans (stays other)⟩

end Sys2Proof.Machine

/-! PROOFS of the family 07_restart_and_consent. -/

namespace Sys2Proof.Machine

variable {s t : State}

/-! ### Plans in range (R44 to R48, R53, R184) -/

/-- The factory defaults are in range (R49). -/
theorem factory_inRange : Plan.factory.inRange := by
  simp [Plan.inRange, Plan.factory, Params.inRange, Params.factory, StationRec.inRange, StationRec.factory, PointRec.inRange,
    PointRec.factory, ShedStep.inRange, ShedStep.factory, RestartStep.inRange, RestartStep.factory, labelInRange]

/-- The factory defaults do not pass validation: they have no H0 (R49, R55). -/
theorem factory_invalid : Plan.factory.validate ≠ none := fun valid => by
  have := Plan.shedLen_pos valid
  exact absurd this (by decide)

/-- A record in range written keeps a plan in range (R53). -/
theorem Plan.write_inRange {p : Plan} {r : PlanRecord} (good : p.inRange) (record : r.inRange) : (p.write r).inRange := by
  have item {α : Type} {n : Nat} {v : Vector α n} {ok : α → Prop} (all : ∀ j : Fin n, ok v[j]) (i : Fin n) {a : α} (new : ok a)
      (j : Fin n) : ok (v.set i a)[j] := by
    by_cases here : i = j
    · subst here
      rwa [vector_set_self]
    · rw [vector_set_other _ _ _ _ here]
      exact all j
  obtain ⟨params, stations, points, shed, restart, labels⟩ := good
  cases r with
  | params q =>
    obtain ⟨t1, t2, t3, vote, fall, quiet, window, abort, budget, spacing, poll, link, mark, -⟩ := record
    obtain ⟨-, -, -, -, -, -, -, -, -, -, -, -, -, generation⟩ := params
    exact ⟨⟨t1, t2, t3, vote, fall, quiet, window, abort, budget, spacing, poll, link, mark, generation⟩, stations, points, shed,
      restart, labels⟩
  | station i q => exact ⟨params, item stations i record, points, shed, restart, labels⟩
  | point i q => exact ⟨params, stations, item points i record, shed, restart, labels⟩
  | shedStep i q => exact ⟨params, stations, points, item shed i record, restart, labels⟩
  | restartStep i q => exact ⟨params, stations, points, shed, item restart i record, labels⟩
  | rights i q | policy i q => exact ⟨params, stations, points, shed, restart, labels⟩
  | label i l => exact ⟨params, stations, points, shed, restart, item labels i record⟩

/-- The record of a PLAN_WRITE payload is in range (R52). -/
theorem planWriteRecord_inRange {payload : List Byte} {r : PlanRecord} (read : planWriteRecord payload = some r) : r.inRange := by
  match payload, read with
  | kind :: index :: content, read => exact ((planWriteRecord_iff kind index content r).mp read).2.2
  | [], read | [_], read => cases read

/-- A committed shadow stays in range: its generation wraps at 65,535 (R58). -/
theorem committedPlan_inRange (old : Plan) {shadow : Plan} (good : shadow.inRange) : (committedPlan old shadow).inRange := by
  have generation : nextGeneration old.params.generation ≤ 65535 := by
    unfold nextGeneration
    split <;> omega
  obtain ⟨⟨t1, t2, t3, vote, fall, quiet, window, abort, budget, spacing, poll, link, mark, -⟩, others⟩ := good
  exact ⟨⟨t1, t2, t3, vote, fall, quiet, window, abort, budget, spacing, poll, link, mark, generation⟩, others⟩

/-- Every block that a walk holds is in range (R184, check 4). -/
structure Walk.InRange (w : Walk) : Prop where
  params : ∀ v ∈ w.params, v.inRange
  stations : ∀ v ∈ w.stations, ∀ i : Fin 6, v[i].inRange
  points : ∀ v ∈ w.points, ∀ i : Fin 64, v[i].inRange
  shed : ∀ v ∈ w.shed, ∀ i : Fin 48, v[i].inRange
  restart : ∀ v ∈ w.restart, ∀ i : Fin 48, v[i].inRange
  labels : ∀ v ∈ w.labels, ∀ i : Fin 64, labelInRange v[i]

/-- A walk that holds nothing (R184). -/
theorem Walk.start_inRange : Walk.start.InRange := by
  constructor <;> simp [Walk.start]

/-- A block that is entered holds a value of its decoder's, which it puts into the walk (R184). -/
theorem enterBlock_ok {α : Type} {d : Decoder α} {encode : α → List Byte} {ok : α → Prop} (decodes : Decodes d encode ok)
    {content : List Byte} {check : Byte} {held : Option α} {put : α → Walk} {w : Walk}
    (entered : enterBlock d content check held put = .ok w) : ∃ v, ok v ∧ w = put v := by
  unfold enterBlock at entered
  split at entered
  · cases entered
  · next v read =>
    split at entered
    · cases entered
    · split at entered
      · cases entered
      · cases entered
        exact ⟨v, ((decodes.exactly_iff content v).mp read).1, rfl⟩

/-- A vector's values are all in range when its list's are. -/
theorem vector_all {α : Type} {n : Nat} {ok : α → Prop} {v : Vector α n} (all : ∀ x ∈ v.toList, ok x) (i : Fin n) : ok v[i] :=
  all _ (by simp)

/-- A block taken keeps what the walk holds in range (R184). -/
theorem Walk.InRange.block {w next : Walk} {type check : Byte} {content : List Byte} (h : w.InRange)
    (taken : Walk.block w type content check = .ok next) : next.InRange := by
  obtain ⟨params, stations, points, shed, restart, labels⟩ := h
  unfold Walk.block at taken
  split at taken
  case h_1 =>
    obtain ⟨v, good, rfl⟩ := enterBlock_ok decodes_params taken
    exact ⟨by simpa using good, stations, points, shed, restart, labels⟩
  case h_2 =>
    obtain ⟨v, good, rfl⟩ := enterBlock_ok (decodes_vector decodes_station 6) taken
    exact ⟨params, by simpa using vector_all good, points, shed, restart, labels⟩
  case h_3 =>
    obtain ⟨v, good, rfl⟩ := enterBlock_ok (decodes_vector decodes_pointRec 64) taken
    exact ⟨params, stations, by simpa using vector_all good, shed, restart, labels⟩
  case h_4 =>
    obtain ⟨v, good, rfl⟩ := enterBlock_ok (decodes_vector decodes_shedStep 48) taken
    exact ⟨params, stations, points, by simpa using vector_all good, restart, labels⟩
  case h_5 =>
    obtain ⟨v, good, rfl⟩ := enterBlock_ok (decodes_vector decodes_restartStep 48) taken
    exact ⟨params, stations, points, shed, by simpa using vector_all good, labels⟩
  case h_6 =>
    unfold enterBlock at taken
    repeat' split at taken
    all_goals cases taken
    exact ⟨params, stations, points, shed, restart, labels⟩
  case h_7 =>
    obtain ⟨v, good, rfl⟩ := enterBlock_ok (decodes_vector decodes_label 64) taken
    exact ⟨params, stations, points, shed, restart, by simpa using vector_all good⟩
  case h_8 =>
    cases taken
    exact ⟨params, stations, points, shed, restart, labels⟩

/-- The plan of a walk is in range, with empty labels where there is no LABELS block (R183). -/
theorem Walk.InRange.plan {w : Walk} {pl : Plan} (h : w.InRange) (made : Walk.plan w = some pl) : pl.inRange := by
  simp only [Walk.plan, Option.bind_eq_bind, Option.bind_eq_some_iff, pure, Option.some.injEq, Prod.exists] at made
  obtain ⟨params, p, stations, st, points, pt, shed, sh, restart, re, rights, policy, -, rfl⟩ := made
  refine ⟨h.params _ p, h.stations _ st, h.points _ pt, h.shed _ sh, h.restart _ re, fun i => ?_⟩
  cases found : w.labels with
  | none => simp [labelInRange]
  | some v => exact h.labels v found i

/-- A computation that goes on from another's value. -/
theorem ok_of_bind {ε α β : Type} {x : Except ε α} {k : α → Except ε β} {b : β} (runs : x >>= k = .ok b) :
    ∃ a, x = .ok a ∧ k a = .ok b := by
  cases x with
  | error => cases runs
  | ok a => exact ⟨a, rfl, runs⟩

/-- The walk over an image ends in a plan in range (R184). -/
theorem walkFrom_inRange (fuel pos : Nat) (rest : List Byte) (w : Walk) {pl : Plan} (h : w.InRange)
    (read : walkFrom fuel pos rest w = .ok pl) : pl.inRange := by
  induction fuel generalizing pos rest w with
  | zero => cases read
  | succ fuel ih =>
    unfold walkFrom at read
    split at read
    · cases read
    · split at read
      · unfold Walk.finish at read
        split at read
        · cases read
        · next made =>
          split at read
          · cases read
          · cases read
            exact h.plan made
      · split at read
        · dsimp only at read
          split at read
          · cases read
          · split at read
            · cases read
            · obtain ⟨next, taken, read⟩ := ok_of_bind read
              exact ih _ _ next (h.block taken) read
        · cases read

/-- A plan that a load reads is in range (R184). -/
theorem loadImage_inRange {image : List Byte} {pl : Plan} (read : loadImage image = .ok pl) : pl.inRange := by
  unfold loadImage at read
  split at read
  · split at read
    · exact walkFrom_inRange _ _ _ _ Walk.start_inRange read
    · cases read
  · cases read

end Sys2Proof.Machine

namespace Sys2Proof.Machine

/-! ### The plan in force (R42, R49, R58) -/

variable {s t u : State}

/-- In LOADING and in NO_PLAN the factory defaults are in force (R42, R49). -/
def State.onFactory (s : State) : Prop := s.seq.state = .noPlan ∨ (s.seq.state = .startup ∧ s.seq.phase = .loading)

/-- How the Sequencer goes on under the same plan: its state and phase stand, or it is beyond LOADING and NO_PLAN and does not go to
STARTUP. -/
def GoesOn (s t : State) : Prop :=
  (t.seq.state = s.seq.state ∧ t.seq.phase = s.seq.phase) ∨ (¬ s.onFactory ∧ t.seq.state ≠ .startup)

/-- The state and the phase standing, LOADING and NO_PLAN stand. -/
theorem onFactory_of_same (state : t.seq.state = s.seq.state) (phase : t.seq.phase = s.seq.phase) : t.onFactory ↔ s.onFactory := by
  rw [State.onFactory, State.onFactory, state, phase]

/-- One way after another. -/
theorem GoesOn.trans (first : GoesOn s t) (second : GoesOn t u) : GoesOn s u := by
  rcases first with ⟨state, phase⟩ | ⟨beyond, started⟩ <;> rcases second with ⟨state', phase'⟩ | ⟨beyond', started'⟩
  · exact .inl ⟨state'.trans state, phase'.trans phase⟩
  · exact .inr ⟨mt (onFactory_of_same state phase).mpr beyond', started'⟩
  · exact .inr ⟨beyond, state' ▸ started⟩
  · exact .inr ⟨beyond, started'⟩

/-- STARTUP is not entered. -/
theorem GoesOn.started (h : GoesOn s t) (started : s.seq.state ≠ .startup) : t.seq.state ≠ .startup :=
  h.elim (fun same => same.1 ▸ started) (fun beyond => beyond.2)

/-- A state other than STARTUP and NO_PLAN is beyond LOADING and NO_PLAN. -/
theorem not_onFactory (startup : s.seq.state ≠ .startup) (noPlan : s.seq.state ≠ .noPlan) : ¬ s.onFactory :=
  not_or.mpr ⟨noPlan, fun loading => startup loading.1⟩

/-- An event opens in the state and the phase (R114). -/
theorem openEvent_state (s : State) : (openEvent s).seq.state = s.seq.state ∧ (openEvent s).seq.phase = s.seq.phase := by
  simp [openEvent]

/-- A restart step starts in the state (R143). -/
theorem startRestartStep_state (k : Nat) (s : State) : (startRestartStep k s).seq.state = s.seq.state := by
  simp [startRestartStep]

/-- SHEDDING after it has started in WATCH or in HALTED (R119). -/
theorem shedFrom_state (s : State) : (shedFromWatch s).seq.state = .shedding ∧ (shedFromHalted s).seq.state = .shedding :=
  ⟨(started_items (shedFromWatch_seq s)).1, (started_items (shedFromHalted_seq s)).1⟩

/-- The check of R119. -/
theorem checkShedding_goesOn (s : State) : GoesOn s (checkShedding s) := by
  by_cases due : s.seq.depth < s.seq.target
  · by_cases watch : s.seq.state = .watch
    · exact .inr ⟨not_onFactory (by simp [watch]) (by simp [watch]), by simp [checkShedding_watch due watch, shedFrom_state]⟩
    · by_cases halted : s.seq.state = .halted
      · exact .inr ⟨not_onFactory (by simp [halted]) (by simp [halted]), by simp [checkShedding_halted due halted, shedFrom_state]⟩
      · exact .inl (by simp [checkShedding_elsewhere watch halted])
  · exact .inl (by simp [checkShedding_reached (Nat.not_lt.mp due)])

/-- The close of an event (R118). -/
theorem closeEvent_goesOn (s : State) : GoesOn s (closeEvent s) := by
  obtain ⟨seq, -⟩ := s.shut_items
  have shut : GoesOn s s.shut := .inl (by simp [seq])
  rw [closeEvent_eq]
  split
  · exact shut
  · exact shut.trans (GoesOn.trans (.inl (openEvent_state _)) (checkShedding_goesOn _))

/-- The quiet rule (R117). -/
theorem quietRule_goesOn (s : State) : GoesOn s (quietRule s) := by
  unfold quietRule
  split
  · exact closeEvent_goesOn s
  · exact .inl ⟨rfl, rfl⟩

/-- The event and the target at a change of level (R114, R116). -/
theorem eventAtLevel_goesOn (s : State) : GoesOn s (eventAtLevel s) := by
  unfold eventAtLevel
  (repeat' split)
  · exact .inl ⟨rfl, rfl⟩
  · exact .inl ⟨rfl, rfl⟩
  · exact .inl (openEvent_state s)

/-- SHEDDING after an abort (R152). -/
theorem abortRestart_state (s : State) : (abortRestart s).seq.state = .shedding := by
  rw [abortRestart_eq, startShedStep_sequencer]
  simp [State.shedCleared, setShedding_seq]

/-- STARTUP is not entered by a veto stop (R154). -/
theorem vetoStop_started (s : State) : (vetoStop s).seq.state ≠ .startup := by
  rw [vetoStop_eq]
  refine (checkShedding_goesOn _).started ?_
  rw [enterHalted_seq]
  nofun

/-- STARTUP is not entered after a shed step (R126). -/
theorem afterShedDone_started {k : Nat} (started : s.seq.state ≠ .startup) : (afterShedDone k s).seq.state ≠ .startup := by
  rw [afterShedDone_eq]
  split
  · rw [startShedStep_sequencer]
    exact started
  · rw [enterHalted_seq]
    nofun

/-- The state stands after a restart step (R147). -/
theorem afterRestartDone_state (k : Nat) (s : State) : (afterRestartDone k s).seq.state = s.seq.state := by
  rw [afterRestartDone_eq]
  split
  · exact startRestartStep_state _ _
  · rfl

/-- STARTUP is not entered by the completion of a restart (R148). -/
theorem completeRestart_started (s : State) : (completeRestart s).seq.state ≠ .startup := by
  unfold completeRestart
  exact (closeEvent_goesOn _).started (by simp)

/-- STARTUP is left by the start-up decision (R111). -/
theorem startupDecision_started (s : State) : (startupDecision s).seq.state ≠ .startup := by
  rw [startupDecision_eq]
  split
  · simp [enterHalted_seq]
  · split
    · simp [shedFrom_state]
    · split
      · exact (closeEvent_goesOn _).started (by simp)
      · simp

/-- The state stands as the restart begins (R142). -/
theorem beginRestart_state (s : State) : (beginRestart s).seq.state = s.seq.state := by
  rw [beginRestart_eq]
  split
  · exact startRestartStep_state _ _
  · rfl

/-- A plan that passes validation is in force beyond LOADING, or the factory defaults are, in LOADING or NO_PLAN. Within a commit out of
NO_PLAN the new plan stands beside NO_PLAN, which is therefore not excluded beside a valid plan. -/
def Planned (s : State) : Prop :=
  Linked s ∧ ((s.pls.active.validate = none ∧ ¬ (s.seq.state = .startup ∧ s.seq.phase = .loading))
    ∨ (s.pls.active = Plan.factory ∧ s.onFactory))

/-- Beyond LOADING and NO_PLAN the plan in force passes validation. -/
theorem Planned.valid (h : Planned s) (beyond : ¬ s.onFactory) : s.pls.active.validate = none := by
  obtain ⟨-, ⟨valid, -⟩ | ⟨-, state⟩⟩ := h
  · exact valid
  · exact absurd state beyond

/-- The plan stands while the Sequencer goes on. -/
theorem Planned.goesOn (h : Planned s) (linked : Linked t) (pls : t.pls = s.pls) (goes : GoesOn s t) : Planned t := by
  rcases goes with ⟨state, phase⟩ | ⟨beyond, started⟩
  · refine ⟨linked, ?_⟩
    rw [onFactory_of_same state phase, pls, state, phase]
    exact h.2
  · exact ⟨linked, .inl ⟨pls ▸ h.valid beyond, fun loading => started loading.1⟩⟩

/-- The phase is one of the control blocks. -/
theorem phase_of_control (same : t.control = s.control) : t.seq.phase = s.seq.phase := by
  simp only [State.control, Prod.mk.injEq] at same
  exact (Seq.mk.inj same.2.1).2.1

/-- The plan in force is one of the control blocks. -/
theorem active_of_control (same : t.control = s.control) : t.pls.active = s.pls.active := congrArg Prod.fst same

/-- The plan stands beside the sequence state. -/
theorem planned_control : ControlInvariant Planned where
  linked h := h.1
  same {s t} same h := by
    refine ⟨h.1.same same, ?_⟩
    rw [onFactory_of_same (state_of_control same) (phase_of_control same), active_of_control same, state_of_control same,
      phase_of_control same]
    exact h.2
  start {t} same := ⟨linked_control.start same,
    .inr ⟨active_of_control same, .inr ⟨state_of_control same, phase_of_control same⟩⟩⟩
  quietCleared h := h.goesOn (linked_control.quietCleared h.1) (by simp) (.inl (by simp))
  quietReached h := h.goesOn (linked_control.quietReached h.1) (by simp) (.inl (by simp))
  backToOpen mark one h := h.goesOn (linked_control.backToOpen mark one h.1) (by simp) (.inl (by simp))
  firstConsent i n opened h := h.goesOn (linked_control.firstConsent i n opened h.1) (by simp) (.inl (by simp))
  grant {s} one h := by
    have halted : s.seq.state = .halted := by
      by_contra other
      simp [h.1.2.2.2 other] at one
    exact h.goesOn (linked_control.grant one h.1) (by simp)
      (.inr ⟨not_onFactory (by simp [halted]) (by simp [halted]), by simp [beginRestart_state]⟩)
  eventAtLevel h := h.goesOn (linked_control.eventAtLevel h.1) (by simp) (eventAtLevel_goesOn _)
  checkShedding h := h.goesOn (linked_control.checkShedding h.1) (by simp) (checkShedding_goesOn _)
  quietRule h := h.goesOn (linked_control.quietRule h.1) (by simp) (quietRule_goesOn _)
  abort restarting h := h.goesOn (linked_control.abort restarting h.1) (by simp)
    (.inr ⟨not_onFactory (by simp [restarting]) (by simp [restarting]), by simp [abortRestart_state]⟩)
  vetoStop restarting h := h.goesOn (linked_control.vetoStop restarting h.1) (by simp)
    (.inr ⟨not_onFactory (by simp [restarting]) (by simp [restarting]), vetoStop_started _⟩)
  afterShedDone runs h := by
    obtain ⟨shedding, -⟩ := shedRunning_items runs
    exact h.goesOn (linked_control.afterShedDone runs h.1) (by simp)
      (.inr ⟨not_onFactory (by simp [shedding]) (by simp [shedding]), afterShedDone_started (by simp [shedding])⟩)
  afterRestartDone runs h := by
    obtain ⟨restarting, -⟩ := restartRunning_items runs
    exact h.goesOn (linked_control.afterRestartDone runs h.1) (by simp)
      (.inr ⟨not_onFactory (by simp [restarting]) (by simp [restarting]), by simp [afterRestartDone_state, restarting]⟩)
  completeRestart complete h := by
    obtain ⟨restarting, -⟩ := restartComplete_items complete
    exact h.goesOn (linked_control.completeRestart complete h.1) (by simp)
      (.inr ⟨not_onFactory (by simp [restarting]) (by simp [restarting]), completeRestart_started _⟩)
  startupDecision startup polling h := h.goesOn (linked_control.startupDecision startup polling h.1) (by simp)
    (.inr ⟨not_or.mpr ⟨by simp [startup], by simp [polling]⟩, startupDecision_started _⟩)
  loaded pl valid loading h := ⟨linked_control.loaded pl valid loading h.1, .inl ⟨valid, fun loads => nomatch loads.2⟩⟩
  noPlan {s} startup unloaded h := by
    refine ⟨linked_control.noPlan startup unloaded h.1, ?_⟩
    rw [setSequence_frame .noPlan s |>.2.2.2.1]
    exact h.2.imp (fun passes => ⟨passes.1, by simp⟩) (fun defaults => ⟨defaults.1, .inl (by simp)⟩)
  recast pl valid state quiet h := by
    refine ⟨linked_control.recast pl valid state quiet h.1, .inl ⟨valid, fun loading => ?_⟩⟩
    have startup := loading.1
    rcases state with state | state <;> simp [commitSequencer, state] at startup
  polling noPlan valid h := ⟨linked_control.polling noPlan valid h.1, .inl ⟨by simpa using valid, by simp [setSequence_seq]⟩⟩
  link l unloaded h := ⟨linked_control.link l unloaded h.1, h.2⟩

end Sys2Proof.Machine

namespace Sys2Proof.Machine

/-! ### The plan in force over the commands (O11) -/

variable {s t : State}

/-- The active plan and a shadow are in range (R42, R53). -/
def Pls.InRange (q : Pls) : Prop := q.active.inRange ∧ ∀ c, q.claim = some c → c.shadow.inRange

/-- A port's claim is given up, or was never held (R51). -/
theorem Pls.InRange.unclaimed {q : Pls} (h : q.InRange) : Pls.InRange ⟨q.active, none⟩ := ⟨h.1, nofun⟩

/-- The plan in force, with its ranges told apart: it is the factory defaults exactly in LOADING and NO_PLAN, and where it passes
validation NO_PLAN does not stand. -/
theorem planOk_iff (s : State) : PlanOk s
    ↔ Planned s ∧ s.pls.InRange ∧ (s.pls.active.validate = none → s.seq.state ≠ .noPlan) := by
  constructor
  · rintro ⟨loading, tracker, active, shadow⟩
    split at active
    · next factory =>
      exact ⟨⟨⟨loading, tracker⟩, .inr ⟨active, factory⟩⟩, ⟨active ▸ factory_inRange, shadow⟩,
        fun valid => absurd (active ▸ valid) factory_invalid⟩
    · next beyond =>
      exact ⟨⟨⟨loading, tracker⟩, .inl ⟨active.2, fun loads => beyond (.inr loads)⟩⟩, ⟨active.1, shadow⟩,
        fun _ noPlan => beyond (.inl noPlan)⟩
  · rintro ⟨⟨⟨loading, tracker⟩, planned⟩, ⟨active, shadow⟩, awake⟩
    refine ⟨loading, tracker, ?_, shadow⟩
    rcases planned with ⟨valid, ended⟩ | ⟨factory, state⟩
    · rw [if_neg (not_or.mpr ⟨awake valid, ended⟩)]
      exact ⟨active, valid⟩
    · exact (if_pos state).mpr factory

/-- The plan in force stays where the active plan stands, a shadow is in range, and NO_PLAN is not entered. -/
theorem PlanOk.stands (h : PlanOk s) (planned : Planned s → Planned t) (active : t.pls.active = s.pls.active)
    (range : s.pls.InRange → t.pls.InRange) (awake : s.seq.state ≠ .noPlan → t.seq.state ≠ .noPlan) : PlanOk t := by
  obtain ⟨was, good, out⟩ := (planOk_iff s).mp h
  exact (planOk_iff t).mpr ⟨planned was, range good, fun valid => awake (out (active ▸ valid))⟩

/-- The plan in force stays where the plans stand and NO_PLAN is not entered. -/
theorem PlanOk.same_pls (h : PlanOk s) (planned : Planned s → Planned t) (pls : t.pls = s.pls)
    (awake : s.seq.state ≠ .noPlan → t.seq.state ≠ .noPlan) : PlanOk t :=
  h.stands planned (by rw [pls]) (fun good => pls ▸ good) awake

/-- The plan in force stays where the Sequencer, the tracker, the load and the active plan stand and a shadow is in range. -/
theorem PlanOk.same (h : PlanOk s) (control : t.control = s.control) (range : s.pls.InRange → t.pls.InRange) : PlanOk t :=
  h.stands (planned_control.same control) (active_of_control control) range (fun awake => state_of_control control ▸ awake)

/-- Right after a reset the factory defaults are in force (R49, R181). -/
theorem planOk_of_start (control : t.control = State.reset.control) (claim : t.pls.claim = none) : PlanOk t := by
  have planned := planned_control.start control
  have factory : t.pls.active = Plan.factory := active_of_control control
  exact (planOk_iff t).mpr ⟨planned, ⟨factory ▸ factory_inRange, by simp [claim]⟩, fun valid => absurd (factory ▸ valid) factory_invalid⟩

/-- The end of a load (R185). -/
theorem PlanOk.imageLoadEnd (h : PlanOk s) (image : List Byte) : PlanOk (Machine.imageLoadEnd image s) := by
  have planned := planned_control.kept.imageLoadEnd_keeps image ((planOk_iff s).mp h).1
  unfold Machine.imageLoadEnd at *
  split
  · next loading =>
    rw [if_pos loading] at planned
    have startup : s.seq.state = .startup ∧ s.seq.phase = .loading := h.1 loading
    obtain ⟨-, ⟨-, shadow⟩, -⟩ := (planOk_iff s).mp h
    split
    · next pl read =>
      simp only [read] at planned
      have pls : (loadSucceeds pl s).pls = ⟨pl, s.pls.claim⟩ := by simp [loadSucceeds]
      exact (planOk_iff _).mpr ⟨planned, pls ▸ ⟨loadImage_inRange read, shadow⟩,
        fun _ => loadSucceeds_awake pl s (by simp [startup.1])⟩
    · next reason read =>
      simp only [read] at planned
      have factory : s.pls.active = Plan.factory := by
        obtain ⟨-, -, active, -⟩ := h
        rwa [if_pos (.inr startup)] at active
      have pls : (loadFails reason s).pls = s.pls := by simp
      refine (planOk_iff _).mpr ⟨planned, ?_, fun valid => ?_⟩
      · rw [pls]
        exact ⟨by rw [factory]; exact factory_inRange, shadow⟩
      · rw [pls, factory] at valid
        exact absurd valid factory_invalid
  · exact h

/-- CLAIM: the shadow is the active plan (R50). -/
theorem ownerClaim_pls (p : Fin 3) (s : State) : (ownerClaim p s).pls = s.pls ∨ (ownerClaim p s).pls = ⟨s.pls.active, some ⟨p, s.pls.active⟩⟩ := by
  unfold ownerClaim
  split
  · exact .inr (by simp)
  · split <;> exact .inl (by simp)

/-- PLAN_WRITE: a record of the shadow is replaced (R53). -/
theorem ownerPlanWrite_pls (p : Fin 3) (r : PlanRecord) (s : State) : (ownerPlanWrite p r s).pls = s.pls
    ∨ ∃ c, s.pls.claim = some c ∧ (ownerPlanWrite p r s).pls = ⟨s.pls.active, some { c with shadow := c.shadow.write r }⟩ := by
  unfold ownerPlanWrite
  split
  · exact .inl (by simp)
  · next c claimed =>
    split
    · exact .inr ⟨c, claimed, by simp⟩
    · exact .inl (by simp)

/-- A request behind the check of a right, and one with no parameter, is served or replied to (R160). -/
theorem withRight_cases (p : Fin 3) (holds : Bool) (s taken : State) :
    withRight p holds s taken = taken ∨ withRight p holds s taken = refuse p .noRight s := by
  unfold withRight
  split
  · exact .inl rfl
  · exact .inr rfl

/-- A request with no parameter is served or replied to (R160). -/
theorem withNoParam_cases (p : Fin 3) (payload : List Byte) (s taken : State) :
    withNoParam p payload s taken = taken ∨ withNoParam p payload s taken = refuse p .badParam s := by
  unfold withNoParam
  split
  · exact .inl rfl
  · exact .inr rfl

/-- CLAIM, RELEASE and PLAN_WRITE leave the active plan and keep a shadow in range (R50 to R53). -/
theorem serveShadow_plans (p : Fin 3) (payload : List Byte) (s : State) {t : State}
    (served : t = serveClaim p payload s ∨ t = serveRelease p payload s ∨ t = servePlanWrite p payload s) :
    t.pls.active = s.pls.active ∧ (s.pls.InRange → t.pls.InRange) := by
  have stands {u : State} (pls : u.pls = s.pls) : u.pls.active = s.pls.active ∧ (s.pls.InRange → u.pls.InRange) :=
    ⟨by rw [pls], fun good => pls ▸ good⟩
  rcases served with rfl | rfl | rfl
  · rcases withRight_cases p (s.rightsOf p).edit s (withNoParam p payload s (ownerClaim p s)) with taken | refused
    · rcases withNoParam_cases p payload s (ownerClaim p s) with parsed | refused
      · rw [serveClaim, taken, parsed]
        rcases ownerClaim_pls p s with pls | pls
        · exact stands pls
        · exact pls ▸ ⟨rfl, fun good => ⟨good.1, by rintro c ⟨⟩; exact good.1⟩⟩
      · exact stands (by rw [serveClaim, taken, refused]; simp)
    · exact stands (by rw [serveClaim, refused]; simp)
  · rcases withNoParam_cases p payload s (if s.holdsClaim p then reply p .ok [] (dropClaim s) else reply p .notClaimed [] s)
      with taken | refused
    · rw [serveRelease, taken]
      split
      · have pls : (reply p .ok [] (dropClaim s)).pls = ⟨s.pls.active, none⟩ := by simp [dropClaim]
        exact pls ▸ ⟨rfl, fun good => good.unclaimed⟩
      · exact stands (by simp)
    · exact stands (by rw [serveRelease, refused]; simp)
  · unfold servePlanWrite
    generalize read : planWriteRecord payload = record
    cases record with
    | none => exact stands (by simp only [withRight]; split <;> simp)
    | some r =>
      rcases withRight_cases p (s.rightsOf p).edit s (ownerPlanWrite p r s) with taken | refused
      · simp only [taken]
        rcases ownerPlanWrite_pls p r s with pls | ⟨c, claimed, pls⟩
        · exact stands pls
        · refine pls ▸ ⟨rfl, fun good => ⟨good.1, ?_⟩⟩
          rintro d ⟨⟩
          exact Plan.write_inRange (good.2 c claimed) (planWriteRecord_inRange read)
      · simp only [refused]
        exact stands (by simp)

/-- Every request but COMMIT leaves the active plan and keeps a shadow in range (R42). -/
theorem serveCode_plans (p : Fin 3) {code : Byte} (payload : List Byte) (s : State) (other : code ≠ 0x14) :
    (serveCode p code payload s).pls.active = s.pls.active
      ∧ (s.pls.InRange → (serveCode p code payload s).pls.InRange) := by
  by_cases listed : code ∈ [0x10, 0x11, 0x12, 0x14]
  · simp only [List.mem_cons, List.not_mem_nil, or_false] at listed
    rcases listed with rfl | rfl | rfl | commit
    · exact serveShadow_plans p payload s (.inl rfl)
    · exact serveShadow_plans p payload s (.inr (.inl rfl))
    · exact serveShadow_plans p payload s (.inr (.inr rfl))
    · exact absurd commit other
  · have pls := (serveCode_frame p code payload s).2.1 listed
    exact ⟨by rw [pls], fun good => pls ▸ good⟩

/-- No request goes to NO_PLAN (R112). -/
theorem serveCode_awake (p : Fin 3) (code : Byte) (payload : List Byte) (awake : s.seq.state ≠ .noPlan) :
    (serveCode p code payload s).seq.state ≠ .noPlan := by
  rcases serveCode_core p code payload s with (req | req | req | req | req | req | req) | same
  case inr => exact same.seq ▸ awake
  all_goals
    rw [req]
    simp only [serveCommit, serveSave, serveConsent, serveVeto, serveVetoClear, serveManualShed, serveManualRestore, withRight,
      withNoParam, withPoint]
    (repeat' split) <;> simp [awake]

/-- COMMIT (R57, R58). -/
theorem PlanOk.ownerCommit (h : PlanOk s) (p : Fin 3) (save : Bool) : PlanOk (Machine.ownerCommit p save s) := by
  have replied (status : ReplyStatus) (payload : List Byte) : PlanOk (reply p status payload s) :=
    h.same (control_of_blocks (by simp) (by simp) (by simp) (by simp)) (by simp)
  obtain ⟨planned, ⟨-, shadow⟩, -⟩ := (planOk_iff s).mp h
  have kept := planned_control.kept.ownerCommit_keeps p save planned
  unfold Machine.ownerCommit at *
  split
  · exact replied _ _
  · next c claimed =>
    simp only [claimed] at kept
    split
    · exact replied _ _
    · next own =>
      rw [if_neg own] at kept
      split
      · exact replied _ _
      · next may =>
        rw [if_neg may] at kept
        split
        · exact replied _ _
        · next valid =>
          simp only [valid] at kept
          obtain ⟨pls, -, left⟩ := commitPlan_leaves p c.shadow s
          refine (planOk_iff _).mpr ⟨kept, ?_, fun _ => by simpa using left⟩
          simp only [finishCommit_frame, pls]
          exact ⟨committedPlan_inRange _ (shadow c claimed), nofun⟩

/-- A request in service (R161). -/
theorem PlanOk.serveCode (h : PlanOk s) (p : Fin 3) (code : Byte) (payload : List Byte) :
    PlanOk (Machine.serveCode p code payload s) := by
  by_cases commit : code = 0x14
  · have refused (status : ReplyStatus) : PlanOk (refuse p status s) :=
      h.same (control_of_blocks (by simp) (by simp) (by simp) (by simp)) (by simp)
    subst commit
    show PlanOk (serveCommit p payload s)
    unfold serveCommit withRight
    (repeat' split)
    · exact h.ownerCommit p false
    · exact h.ownerCommit p true
    all_goals exact refused _
  · obtain ⟨active, range⟩ := serveCode_plans p payload s commit
    exact h.stands (planned_control.kept.serveCode_keeps p code payload) active range (serveCode_awake p code payload)

/-- A frame at a supervisory port (R157 to R159). -/
theorem PlanOk.takeFrame (h : PlanOk s) (p : Fin 3) (code : Byte) (payload : List Byte) :
    PlanOk (Machine.takeFrame p code payload (Machine.serveCode p code payload) s) := by
  rcases takeFrame_cases p code payload (Machine.serveCode p code payload) s with ⟨_, long⟩ | ⟨_, _, busy⟩ | ⟨_, _, free⟩
  · exact long ▸ h.same (control_of_blocks (by simp) (by simp) (by simp) (by simp)) (by simp)
  · exact busy ▸ h.same (control_of_blocks (by simp) (by simp) (by simp) (by simp)) (by simp)
  · exact free ▸ PlanOk.serveCode (h.same (t := s.taken p code) rfl id) p code payload

/-- Bytes at a supervisory port (R157). -/
theorem PlanOk.requestBytes (h : PlanOk s) (p : Fin 3) (bytes : List LineByte) : PlanOk (bytes.foldl (requestByte p) s) := by
  refine List.foldlRecOn bytes _ h fun u kept b _ => ?_
  have moved (rx : Rx) : PlanOk (u.modPort p (fun q => { q with rx := rx })) := kept.same rfl id
  obtain ⟨rx, gathered | counted | ⟨code, payload, frame⟩⟩ := requestByte_cases p u b
  · exact gathered ▸ moved rx
  · exact counted ▸ (moved rx).same (control_of_blocks (by simp) (by simp) (by simp) (by simp)) (by simp)
  · exact frame ▸ (moved rx).takeFrame p code payload

/-- A port reset (R158). -/
theorem portReset_plans (p : Fin 3) (s : State) :
    (portReset p s).pls = s.pls ∨ (portReset p s).pls = ⟨s.pls.active, none⟩ := by
  unfold portReset
  dsimp only
  split
  · exact .inr (by simp [dropClaim])
  · exact .inl (by simp)

end Sys2Proof.Machine

namespace Sys2Proof.Machine

variable {s t : State}

/-! ### The tracker and the plan over a step (O11) -/

/-- A field-loop, sensor or timer command that does not touch the plan does not go to NO_PLAN either (R112). -/
theorem exec_awake {c : Instr} (untouched : c.touchesPlan = false) (unasked : c.request = none) (ran : exec c s = .next t)
    (awake : s.seq.state ≠ .noPlan) : t.seq.state ≠ .noPlan := by
  cases c with
  | status | ident | stationDetail | pointDetail | sequenceDetail | journalRead | noticeMask | claim | release | planWrite | planRead
  | commit | save | consent | veto | vetoClear | faultClear | manualShed | manualRestore | requestWhileBusy | unknownRequest =>
    nomatch unasked
  | requestFrameInvalid | requestIdleAbandon | coldReset | warmReset | imageLoadEnd | linkTimeout => nomatch untouched
  | loopReplyFrame bytes =>
    cases ran
    exact List.foldlRecOn bytes loopByte awake fun u kept b _ => loopByte_awake u b kept
  | loopIdleAbandon b =>
    cases ran
    exact List.foldlRecOn _ loopByte (by simp [awake]) fun u kept b _ => loopByte_awake u b kept
  | sensorFrame i bytes =>
    cases ran
    exact List.foldlRecOn bytes (sensorByte i) awake fun u kept b _ => sensorByte_awake i u b kept
  | sensorIdleAbandon i b =>
    cases ran
    split
    · exact awake
    · exact List.foldlRecOn _ (sensorByte i) (by simp [awake]) fun u kept b _ => sensorByte_awake i u b kept
  | gapTimerExpiry i => cases ran; simp [awake]
  | orderFrameEnd | tripAllFrameEnd | replyTimeout => cases ran; simp [awake]
  | graceTimerExpiry | settleTimerExpiry | replySent => cases ran; simp [awake]
  | saveEnd => cases ran; (repeat' split) <;> simp [awake]
  | blindTimerExpiry | quietReached | pollTimerExpiry | restoreSpacingExpiry | shedDelayExpiry | shedStepTimeout
  | restartDelayExpiry | restartStepTimeout | consentWindowExpiry =>
    cases ran
    split <;> simp [awake]

/-- A port reset (R158). -/
theorem PlanOk.portReset (h : PlanOk s) (p : Fin 3) : PlanOk (Machine.portReset p s) := by
  have planned : Planned s → Planned (Machine.portReset p s) := planned_control.kept.portReset_keeps p
  rcases portReset_plans p s with pls | pls
  · exact h.same_pls planned pls (by simp)
  · exact h.stands planned (by rw [pls]) (fun good => pls ▸ good.unclaimed) (by simp)

/-- A command. -/
theorem PlanOk.exec {c : Instr} (h : PlanOk s) (ran : Machine.exec c s = .next t) : PlanOk t := by
  cases asked : c.request with
  | some q =>
    rw [exec_request asked] at ran
    cases ran
    exact h.takeFrame q.1 q.2.1 q.2.2
  | none =>
    by_cases touched : c.touchesPlan = true
    · cases c with
      | requestFrameInvalid p bytes => cases ran; exact h.requestBytes p bytes
      | requestIdleAbandon p b =>
        cases ran
        refine PlanOk.requestBytes ?_ p _
        unfold abandonRequest
        split
        · exact h
        · exact h.same rfl id
      | coldReset => cases ran; exact planOk_of_start rfl rfl
      | warmReset => cases ran; exact planOk_of_start (by simp [warmReset, State.control, State.reset]) (by simp [warmReset, State.reset])
      | imageLoadEnd image => cases ran; exact h.imageLoadEnd image
      | linkTimeout p =>
        cases ran
        split
        · exact h.portReset p
        · exact h
      | requestWhileBusy | unknownRequest | claim | release | planWrite | commit => nomatch asked
      | _ => nomatch touched
    · have untouched : c.touchesPlan = false := by simpa using touched
      exact h.same_pls (fun planned => planned_control.kept.exec_keeps c planned ran) ((exec_keepsOwners ran).1 untouched)
        (exec_awake untouched asked ran)

/-- A step. -/
theorem PlanOk.step (h : PlanOk s) (ran : Machine.step s = .next t) : PlanOk t := by
  rcases step_cases ran with ⟨c, rest, -, run⟩ | rfl | ⟨l, rfl⟩
  · exact (h.same (t := { s with pending := rest }) rfl id).exec run
  · exact h.same_pls planned_control.kept.elapse_keeps rfl (by simp [elapse])
  · exact h.same rfl id

/-- Settles O11: the tracker beside the sequence state by `linked_control`, the plan by the state it is kept beside, over every operation
that changes the sequence state, and by the ranges that each record of a shadow and each block of an image is checked for. -/
theorem trackerKept : Obligations.TrackerKept :=
  ⟨fun _ _ h ran => linked_control.kept.step_keeps h ran, fun _ _ h ran => h.step ran⟩

end Sys2Proof.Machine

namespace Sys2Proof.Machine

variable {s : State} {p q : Fin 3}

/-! ### Consent and veto at the tracker (O38 to O40) -/

/-- A held consent given up, the tracker back to OPEN: the record of the held port, then the state with its notice (R135, R138). -/
theorem consentBackToOpen_of_held (mark : ConsentMark) (held : s.ctk.held = some q) (one : s.ctk.state = .one) :
    let v := post (.consent q mark) { s with ctk := { s.ctk with held := none, window := none } }
    consentBackToOpen mark s = raiseAll .consent { v with ctk := { v.ctk with state := .openState } }
      ∧ v.ctk = { s.ctk with held := none, window := none } := by
  intro v
  have ctk : v.ctk = { s.ctk with held := none, window := none } := by simp [v]
  have dropped : dropConsent mark s = v := by
    unfold dropConsent
    rw [held]
  exact ⟨by rw [consentBackToOpen, dropped, setTracker_changes (by simp [ctk, one])], ctk⟩

/-- Settles O38: the expiry is the consent given up, with the mark EXPIRED. -/
theorem consentWindowExpires : Obligations.ConsentWindowExpires := by
  intro s q running one held v
  obtain ⟨opened, ctk⟩ := consentBackToOpen_of_held .expired held one
  exact ⟨congrArg _ ((if_pos ⟨running, one⟩).trans opened), ctk⟩

/-- No veto stands where no port's flag is set (R133, row 4). -/
theorem noVeto_iff (s : State) : s.ctk.veto.toList.any id = false ↔ ∀ q : Fin 3, s.ctk.veto[q] = false := by
  rw [← Bool.not_eq_true, vector_any_id]
  simp

/-- A veto of any port stands (R133, row 4). -/
theorem someVeto_iff (s : State) : s.ctk.veto.toList.any id = true ↔ ¬ ∀ q : Fin 3, s.ctk.veto[q] = false := by
  rw [← noVeto_iff, Bool.not_eq_false]

/-- CONSENT at a free port that holds the CONSENT right. -/
theorem exec_consent (ready : Ready s p) (right : s.pls.active.rights[p].consent = true) :
    exec (.consent p []) s = .next (ownerConsent p (s.taken p 0x20)) := by
  rw [exec_taken ready (Nat.zero_le _) rfl]
  exact congrArg _ (withRight_of_held right _ _)

/-- CONSENT at a free port without the CONSENT right. -/
theorem exec_consent_noRight (ready : Ready s p) (right : s.pls.active.rights[p].consent = false) :
    exec (.consent p []) s = .next (s.answered p 0x20 .noRight []) := by
  rw [exec_taken ready (Nat.zero_le _) rfl, ← refuse_answered]
  exact congrArg _ (if_neg (Bool.eq_false_iff.mp right))

/-- CONSENT before the tracker asks for it (R133, rows 2 and 3). -/
theorem ownerConsent_closed (p : Fin 3) : (s.ctk.state = .inactive → ownerConsent p s = reply p .wrongState [] s)
    ∧ (s.ctk.state = .waitQuiet → ownerConsent p s = reply p .notQuiet [] s) := by
  constructor <;> intro state <;> rw [ownerConsent, state]

/-- CONSENT while a veto stands (R133, row 4). -/
theorem ownerConsent_vetoed (p : Fin 3) (asked : s.ctk.state = .openState ∨ s.ctk.state = .one)
    (veto : ¬ ∀ q : Fin 3, s.ctk.veto[q] = false) : ownerConsent p s = reply p .vetoed [] s := by
  rw [← someVeto_iff] at veto
  rcases asked with state | state <;> simp only [ownerConsent, state, veto, if_true]

/-- The first CONSENT (R133, row 5). -/
theorem ownerConsent_first (p : Fin 3) (state : s.ctk.state = .openState) (noVeto : ∀ q : Fin 3, s.ctk.veto[q] = false) :
    ownerConsent p s = firstConsent p s := by
  rw [← noVeto_iff] at noVeto
  simp [ownerConsent, state, noVeto]

/-- CONSENT in ONE: again from the port that is held, or the grant from another one (R133, rows 6 and 7). -/
theorem ownerConsent_second (p : Fin 3) (state : s.ctk.state = .one) (noVeto : ∀ q : Fin 3, s.ctk.veto[q] = false) :
    ownerConsent p s = if s.ctk.held = some p then reply p .already [] s else grantRestart p s := by
  rw [← noVeto_iff] at noVeto
  simp [ownerConsent, state, noVeto]

/-- A first consent held, the tracker in ONE (R133, row 5). -/
theorem firstConsent_of_open (state : s.ctk.state = .openState) :
    let held := post (.consent p .first)
      { s with ctk := { s.ctk with held := some p, window := some (s.pls.active.params.consentWindow * 1000) } }
    firstConsent p s = reply p .acceptedFirst [] (raiseAll .consent { held with ctk := { held.ctk with state := .one } }) := by
  intro held
  rw [firstConsent, setTracker_changes (by simp [state])]

/-- A restart granted out of ONE (R134). -/
theorem grantRestart_of_one (state : s.ctk.state = .one) :
    let spent := post (.consent p .granted) s
    let granted := setSequence .restarting { spent with ctk := { s.ctk with held := none, window := none } }
    grantRestart p s = reply p .granted [] (settle (beginRestart (raiseAll .consent
      { granted with ctk := { granted.ctk with state := .inactive } }))) := by
  intro spent granted
  have ctk : spent.ctk = s.ctk := by simp [spent]
  have granting : setSequence .restarting { spent with ctk := { spent.ctk with held := none, window := none } } = granted := by
    rw [ctk]
  simp only [grantRestart]
  rw [show post (.consent p .granted) s = spent from rfl, granting, setTracker_changes (by simp [granted, state])]

/-- Settles O39: the conditions in the order of `ownerConsent`, and the effects of the first and the second consent. -/
theorem consentChecks : Obligations.ConsentChecks := by
  intro s p ready noVeto taken held spent granted
  refine ⟨exec_consent_noRight ready, fun right => ?_⟩
  rw [exec_consent ready right]
  refine ⟨fun state => ?_, fun state => ?_, fun state veto => ?_, fun state free => ?_, fun state free own => ?_,
    fun state free other => ?_⟩
  · rw [(ownerConsent_closed (s := s.taken p 0x20) p).1 state, reply_answered]
  · rw [(ownerConsent_closed (s := s.taken p 0x20) p).2 state, reply_answered]
  · rw [ownerConsent_vetoed (s := s.taken p 0x20) p state veto, reply_answered]
  · rw [ownerConsent_first (s := s.taken p 0x20) p state free, firstConsent_of_open (s := s.taken p 0x20) state,
      reply_replied p 0x20 .acceptedFirst [] _ (by simp)]
    rfl
  · rw [ownerConsent_second (s := s.taken p 0x20) p state free, if_pos (show (s.taken p 0x20).ctk.held = some p from own), reply_answered]
  · rw [ownerConsent_second (s := s.taken p 0x20) p state free,
      if_neg (show (s.taken p 0x20).ctk.held ≠ some p from other), grantRestart_of_one (s := s.taken p 0x20) state,
      reply_replied p 0x20 .granted [] _ (by simp)]
    rfl

/-- VETO at a free port that holds the VETO right. -/
theorem exec_veto (ready : Ready s p) (right : s.pls.active.rights[p].veto = true) :
    exec (.veto p []) s = .next (ownerVeto p (s.taken p 0x21)) := by
  rw [exec_taken ready (Nat.zero_le _) rfl]
  exact congrArg _ (withRight_of_held right _ _)

/-- VETO_CLEAR at a free port. -/
theorem exec_vetoClear (ready : Ready s p) : exec (.vetoClear p []) s
    = .next (reply p .ok [] (if s.ctk.veto[p] then setVeto p false (s.taken p 0x22) else s.taken p 0x22)) :=
  exec_taken (serve := fun u => reply p .ok [] (if u.ctk.veto[p] then setVeto p false u else u)) ready (Nat.zero_le _) rfl

/-- VETO of a port whose flag is clear, past STARTUP (R138). -/
theorem ownerVeto_clear (started : s.seq.state ≠ .startup) (clear : s.ctk.veto[p] = false) :
    ownerVeto p s = reply p .ok [] (vetoEffect (setVeto p true s)) := by
  rw [ownerVeto, if_neg started, if_neg (by rw [clear]; nofun)]

/-- A veto flag changed leaves the sequence state, and of the tracker all but the flag (R138, R139). -/
theorem setVeto_items (p : Fin 3) (v : Bool) (s : State) :
    (setVeto p v s).seq = s.seq ∧ (setVeto p v s).ctk = { s.ctk with veto := s.ctk.veto.set p v } := by
  simp [setVeto]

/-- VETO in STARTUP, and of a port whose flag is set (R138). -/
theorem ownerVeto_stands (p : Fin 3) : (s.seq.state = .startup → ownerVeto p s = reply p .wrongState [] s)
    ∧ (s.seq.state ≠ .startup → s.ctk.veto[p] = true → ownerVeto p s = reply p .ok [] s) :=
  ⟨fun startup => if_pos startup, fun started set => (if_neg started).trans (if_pos set)⟩

/-- Settles O40: VETO by the sequence state, the flag and the tracker, and VETO_CLEAR by the flag. -/
theorem vetoAndVetoClear : Obligations.VetoAndVetoClear := by
  constructor
  · intro s p ready right u
    obtain ⟨seq, tracker, holds⟩ : u.seq = s.seq ∧ u.ctk.state = s.ctk.state ∧ u.ctk.held = s.ctk.held := by simp [u]
    have serving : u.spu.ports[p.val].service = some 0x21 := by simp [u]
    have replied {w : State} (service : w.spu.ports[p.val].service = u.spu.ports[p.val].service) :
        reply p .ok [] w = w.replied p 0x21 .ok [] := reply_replied p 0x21 .ok [] w (service.trans serving)
    have effect (started : s.seq.state ≠ .startup) (clear : s.ctk.veto[p] = false) :
        ownerVeto p (s.taken p 0x21) = reply p .ok [] (vetoEffect u) := ownerVeto_clear (s := s.taken p 0x21) started clear
    rw [exec_veto ready right]
    refine ⟨fun startup => ?_, fun started set => ?_, fun started clear => ?_⟩
    · rw [(ownerVeto_stands (s := s.taken p 0x21) p).1 startup, reply_answered]
    · rw [(ownerVeto_stands (s := s.taken p 0x21) p).2 started set, reply_answered]
    · rw [effect started clear]
      refine ⟨fun restarting => ?_, fun other state => ?_, ?_⟩
      · rw [vetoEffect, if_pos (seq ▸ restarting), replied (by simp)]
      · rw [vetoEffect, if_neg (seq ▸ other), if_neg (tracker ▸ state), replied rfl]
      · intro q other one held v
        have opened := (consentBackToOpen_of_held .discarded (s := u) (holds ▸ held) (tracker ▸ one)).1
        rw [vetoEffect, if_neg (seq ▸ other), if_pos (tracker ▸ one), replied (by simp), opened]
  · intro s p ready u
    rw [exec_vetoClear ready]
    refine ⟨fun set => ⟨?_, (setVeto_items p false (s.taken p 0x22)).2⟩, fun clear => ?_⟩
    · rw [if_pos set, reply_replied p 0x22 .ok [] _ (by simp [setVeto])]
      rfl
    · rw [if_neg (by rw [clear]; nofun), reply_answered]

end Sys2Proof.Machine

namespace Sys2Proof.Machine

variable {s : State} {p : Fin 64}

/-! ### The head of the restore gate (R149, R150) -/

/-- The ranks tell the points apart: each holds the point's number. -/
theorem gateRank_injective {q : Fin 64} (same : s.gateRank p = s.gateRank q) : p = q := by
  have := p.isLt
  have := q.isLt
  simp only [State.gateRank] at same
  split at same <;> omega

/-- One point beside the best found: an eligible point of a lower rank takes its place (R149). -/
def State.betterAtGate (s : State) (best : Option (Fin 64)) (p : Fin 64) : Option (Fin 64) :=
  if s.gateEligible p then
    match best with
    | none => some p
    | some q => if s.gateRank p < s.gateRank q then some p else some q
  else best

/-- The head of the gate is the best of all points. -/
theorem gateHead_eq (s : State) : s.gateHead = allPoints.foldl s.betterAtGate none := rfl

/-- The best of some points: an eligible one of the lowest rank, or none when none is eligible. -/
def State.LeadsAmong (s : State) (points : List (Fin 64)) (best : Option (Fin 64)) : Prop :=
  (∀ b, best = some b → s.gateEligible b = true)
    ∧ ∀ q ∈ points, s.gateEligible q = true → ∃ b, best = some b ∧ s.gateRank b ≤ s.gateRank q

/-- The fold over some points finds the best of them. -/
theorem foldl_leadsAmong (s : State) (points : List (Fin 64)) : s.LeadsAmong points (points.foldl s.betterAtGate none) := by
  induction points using List.reverseRecOn with
  | nil => exact ⟨nofun, nofun⟩
  | append_singleton points p ih =>
    rw [List.foldl_append, List.foldl_cons, List.foldl_nil]
    generalize points.foldl s.betterAtGate none = best at ih
    obtain ⟨eligible, least⟩ := ih
    by_cases joins : s.gateEligible p = true
    · cases best with
      | none =>
        simp only [State.betterAtGate, joins, if_true]
        refine ⟨by rintro b ⟨⟩; exact joins, fun q among wants => ?_⟩
        rcases List.mem_append.mp among with earlier | last
        · obtain ⟨b, own, -⟩ := least q earlier wants
          cases own
        · exact ⟨p, rfl, by rw [List.mem_singleton.mp last]⟩
      | some b =>
        simp only [State.betterAtGate, joins, if_true]
        split
        · next lower =>
          refine ⟨by rintro c ⟨⟩; exact joins, fun q among wants => ?_⟩
          rcases List.mem_append.mp among with earlier | last
          · obtain ⟨c, ⟨⟩, below⟩ := least q earlier wants
            exact ⟨p, rfl, lower.le.trans below⟩
          · exact ⟨p, rfl, by rw [List.mem_singleton.mp last]⟩
        · next higher =>
          refine ⟨eligible, fun q among wants => ?_⟩
          rcases List.mem_append.mp among with earlier | last
          · exact least q earlier wants
          · exact ⟨b, rfl, by rw [List.mem_singleton.mp last]; exact not_lt.mp higher⟩
    · rw [show s.betterAtGate best p = best from if_neg joins]
      refine ⟨eligible, fun q among wants => ?_⟩
      rcases List.mem_append.mp among with earlier | last
      · exact least q earlier wants
      · exact absurd (List.mem_singleton.mp last ▸ wants) joins

/-- The head of the gate is the first eligible point in gate order (R149). -/
theorem gateHead_iff (s : State) (p : Fin 64) : s.gateHead = some p
    ↔ s.gateEligible p = true ∧ ∀ q : Fin 64, s.gateEligible q = true → s.gateRank p ≤ s.gateRank q := by
  obtain ⟨eligible, least⟩ := foldl_leadsAmong s allPoints
  rw [gateHead_eq]
  constructor
  · intro head
    refine ⟨eligible p head, fun q wants => ?_⟩
    obtain ⟨b, own, below⟩ := least q (List.mem_finRange q) wants
    rw [head] at own
    exact Option.some.inj own ▸ below
  · rintro ⟨wants, first⟩
    obtain ⟨b, own, below⟩ := least p (List.mem_finRange p) wants
    rw [own, gateRank_injective (le_antisymm below (first b (eligible b own)))]

/-- A RESTORE waits or flies where a slot holds one (R104). -/
theorem restoreOutstanding_iff (f : Flc) : f.restoreOutstanding = false
    ↔ ∀ q : Fin 64, f.motion[q] ≠ .pending .restore ∧ f.motion[q] ≠ .inFlight .restore := by
  simp only [Flc.restoreOutstanding, List.any_eq_false, Vector.mem_toList_iff, Bool.or_eq_true, beq_iff_eq, not_or]
  constructor
  · exact fun all q => all _ (by simp)
  · rintro all m among
    obtain ⟨i, inside, rfl⟩ := Vector.mem_iff_getElem.mp among
    exact all ⟨i, inside⟩

/-- The gate admits its head when it is open and the head's weight fits (R149). -/
theorem gateAdmits_iff (s : State) (p : Fin 64) : s.gateAdmits = some p
    ↔ (s.gateOpen = true ∧ s.flc.restoreOutstanding = false ∧ s.flc.spacing = none) ∧ s.gateHead = some p ∧ s.gateFits p = true := by
  unfold State.gateAdmits
  split
  · next gate =>
    simp only [Bool.and_eq_true, Bool.not_eq_true', Option.isNone_iff_eq_none, and_assoc] at gate
    cases head : s.gateHead with
    | none => simp
    | some q =>
      by_cases fits : s.gateFits q = true
      · simp only [fits, if_true, Option.some.injEq, gate, true_and, and_true]
        exact ⟨fun own => ⟨own, own ▸ fits⟩, fun ⟨own, _⟩ => own⟩
      · simp only [fits, Bool.false_eq_true, if_false, reduceCtorEq, Option.some.injEq, false_iff]
        rintro ⟨-, rfl, also⟩
        exact fits also
  · next shut =>
    simp only [Bool.and_eq_true, Bool.not_eq_true', Option.isNone_iff_eq_none, and_assoc] at shut
    simp [shut]

/-- The gate is open in RESTARTING and in WATCH (R150). -/
theorem gateOpen_iff (s : State) : s.gateOpen = true ↔ s.seq.state = .restarting ∨ s.seq.state = .watch := by
  simp [State.gateOpen]

/-- An AWAIT point with its slot EMPTY is eligible by hand, by its button, or where no step requires the button (R149; log 19). -/
theorem gateEligible_iff (s : State) (p : Fin 64) : s.gateEligible p = true ↔ s.pointState p = .await ∧ s.flc.motion[p] = .empty
    ∧ (s.ptm.points[p].manual = true ∨ s.ptm.points[p].buttonSeen = true
      ∨ ∀ k, s.pls.active.restartStepOf p = some k → (s.pls.active.restartStep k).button = false) := by
  have unrequired : (!s.pls.active.buttonRequired p) = true
      ↔ ∀ k, s.pls.active.restartStepOf p = some k → (s.pls.active.restartStep k).button = false := by
    rw [Bool.not_eq_true', ← Bool.not_eq_true, Plan.buttonRequired_iff]
    simp
  simp only [State.gateEligible, Bool.and_eq_true, beq_iff_eq, Bool.or_eq_true, unrequired, and_assoc]
  rw [or_assoc, or_comm (a := ∀ _, _)]

/-- The restart step of a point is the first that lists it (R149). -/
theorem restartStepOf_iff (pl : Plan) (p : Fin 64) (k : Nat) : pl.restartStepOf p = some k
    ↔ (k < 48 ∧ p ∈ (pl.restartStep k).points) ∧ ∀ j, j < k → ¬ (j < 48 ∧ p ∈ (pl.restartStep j).points) := by
  simp only [Plan.restartStepOf, List.find?_range_eq_some, List.contains_iff_mem, List.mem_range, Bool.not_eq_true',
    ← Bool.not_eq_true]
  constructor
  · rintro ⟨lists, inside, first⟩
    exact ⟨⟨inside, lists⟩, fun j below ⟨_, also⟩ => first j below also⟩
  · rintro ⟨⟨inside, lists⟩, first⟩
    exact ⟨lists, inside, fun j below also => first j below ⟨below.trans inside, also⟩⟩

/-- The gate's order: by number in WATCH, else by restart step, a point of no step last (R149). -/
theorem gateRank_elsewhere (other : s.seq.state ≠ .watch) (p : Fin 64) :
    s.gateRank p = (s.pls.active.restartStepOf p).getD 48 * 64 + p.val := if_neg other

/-- The gate posts a RESTORE for an AWAIT point, which becomes CLOSING with its weight counted (R150). -/
theorem gatePost_of_await (await : s.pointState p = .await) :
    (gatePost p s).pointState p = .closing ∧ (gatePost p s).ptm.points[p].cause = .orderDone
      ∧ (gatePost p s).ptm.inrush = s.ptm.inrush + s.pls.active.points[p].weight := by
  obtain ⟨m, entry⟩ := movePoint_entry p .closing .orderDone (placeMotion .restore p s)
  have held : (placeMotion .restore p s).ptm.points[p] = s.ptm.points[p] := by simp
  refine ⟨by simp only [gatePost, State.pointState, entry, PointEntry.enter], by simp only [gatePost, entry, PointEntry.enter], ?_⟩
  have was : s.ptm.points[p.val].state = .await := await
  simp [gatePost, movePoint, changePoint, inrushAfter, was, PointState.counts]

/-- The RESTORE that the gate posts into an EMPTY slot waits there, or flies from there (R150). -/
theorem gatePost_holds (empty : s.flc.motion[p] = .empty) : (gatePost p s).flc.holds .restore p := by
  unfold gatePost movePoint
  refine settleLamp_holds _ ?_
  rw [placeMotion_free .restore (by simp [empty])]
  have placed : (choose (s.setSlot p (.pending .restore))).flc.holds .restore p :=
    Flc.choose_holds (.inl (vector_set_self ..))
  simpa [changePoint, State.modPoint] using placed

/-! ### What follows of itself, in the model's order (log 7) -/

/-- A point finished for a shed step is SHED, LOCKED or FAILED (R123). -/
theorem shedFinished_iff (st : PointState) : st.shedFinished = true ↔ st = .shed ∨ st = .locked ∨ st = .failed := by
  cases st <;> simp [PointState.shedFinished]

/-- A point finished for a restart step is ENERGISED, LOCKED or FAILED (R145). -/
theorem restartFinished_iff (st : PointState) : st.restartFinished = true ↔ st = .energised ∨ st = .locked ∨ st = .failed := by
  cases st <;> simp [PointState.restartFinished]

/-- The wait of a shed step, by its kind (R123, R124). -/
theorem shedMet_iff (s : State) (k : Nat) : s.shedMet k = true ↔ match (s.pls.active.shedStep k).wait with
    | .points => ∀ p ∈ (s.pls.active.shedStep k).points, s.pointState p = .shed ∨ s.pointState p = .locked ∨ s.pointState p = .failed
    | .timer => (s.pls.active.shedStep k).delay = 0
    | .none => True := by
  cases wait : (s.pls.active.shedStep k).wait <;> simp [State.shedMet, wait, shedFinished_iff]

/-- The wait of a restart step, by its kind (R145). -/
theorem restartMet_iff (s : State) (k : Nat) : s.restartMet k = true ↔ match (s.pls.active.restartStep k).wait with
    | .points =>
      ∀ p ∈ (s.pls.active.restartStep k).points, s.pointState p = .energised ∨ s.pointState p = .locked ∨ s.pointState p = .failed
    | .timer => (s.pls.active.restartStep k).delay = 0
    | .none => True := by
  cases wait : (s.pls.active.restartStep k).wait <;> simp [State.restartMet, wait, restartFinished_iff]

/-- A restart is complete at the end of its chain with no point in AWAIT, CLOSING or SETTLING (R148). -/
theorem restartComplete_iff (s : State) : s.restartComplete = true
    ↔ s.seq.state = .restarting ∧ s.pls.active.restartLen ≤ s.seq.restartPointer
      ∧ ∀ p : Fin 64, s.pointState p ≠ .await ∧ s.pointState p ≠ .closing ∧ s.pointState p ≠ .settling := by
  have rests (st : PointState) : (st != .await && !st.counts) = true ↔ st ≠ .await ∧ st ≠ .closing ∧ st ≠ .settling := by
    cases st <;> simp [PointState.counts]
  simp [State.restartComplete, rests, allPoints, and_assoc]

/-- The running shed step, met, is DONE before anything else (R123, R124). -/
theorem settleOnce_shed (met : (s.shedRunning s.seq.pointer && s.shedMet s.seq.pointer) = true) :
    settleOnce s = some (shedStepDone s.seq.pointer s) := if_pos met

/-- The running restart step, met, is DONE (R145). -/
theorem settleOnce_restart (unmet : ¬ (s.shedRunning s.seq.pointer && s.shedMet s.seq.pointer) = true)
    (met : (s.restartRunning s.seq.restartPointer && s.restartMet s.seq.restartPointer) = true) :
    settleOnce s = some (restartStepDone s.seq.restartPointer s) := (if_neg unmet).trans (if_pos met)

/-- A complete restart goes to WATCH (R148). -/
theorem settleOnce_complete (unmet : ¬ (s.shedRunning s.seq.pointer && s.shedMet s.seq.pointer) = true)
    (unmetRestart : ¬ (s.restartRunning s.seq.restartPointer && s.restartMet s.seq.restartPointer) = true)
    (complete : s.restartComplete = true) : settleOnce s = some (completeRestart s) :=
  (if_neg unmet).trans ((if_neg unmetRestart).trans (if_pos complete))

/-- The gate posts when nothing else follows (R150). -/
theorem settleOnce_gate (unmet : ¬ (s.shedRunning s.seq.pointer && s.shedMet s.seq.pointer) = true)
    (unmetRestart : ¬ (s.restartRunning s.seq.restartPointer && s.restartMet s.seq.restartPointer) = true)
    (incomplete : ¬ s.restartComplete = true) : settleOnce s = s.gateAdmits.map (fun p => gatePost p s) := by
  rw [settleOnce, if_neg unmet, if_neg unmetRestart, if_neg incomplete]
  cases s.gateAdmits <;> rfl

/-- Settles O34: the gate's conditions and its head, its post at a spacing expiry, and what follows of itself in the order of
`settleOnce`. -/
theorem restoreGate : Obligations.RestoreGate := by
  refine ⟨fun s p => ?admits, fun s running => ?expiry, fun s p => ?order, fun s => ?once, fun s => ⟨rfl, rfl, fun n => rfl⟩,
    fun s k => ⟨by simp [State.shedRunning], by simp [State.restartRunning]⟩, fun new s => rfl⟩
  case admits =>
    rw [gateAdmits_iff, gateOpen_iff, restoreOutstanding_iff, gateHead_iff, State.gateFits, decide_eq_true_eq]
    simp only [and_assoc]
  case expiry =>
    intro u
    refine ⟨congrArg _ (if_pos running), fun p admits => ?_⟩
    obtain ⟨await, -, -⟩ := gateAdmits_items admits
    obtain ⟨closing, cause, inrush⟩ := gatePost_of_await await
    exact ⟨closing, cause, gatePost_holds, inrush⟩
  case order =>
    refine ⟨restartStepOf_iff _ p, gateEligible_iff s p, fun watch => if_pos watch, fun other => ?_, gateHead_iff s p, rfl⟩
    rw [gateRank_elsewhere other]
    exact ⟨fun k step => by rw [step]; rfl, fun none => by rw [none]; rfl⟩
  case once =>
    intro h r shedMet restartMet complete
    have shed : (s.shedRunning s.seq.pointer && s.shedMet s.seq.pointer) = true ↔ shedMet :=
      (iff_of_eq (Bool.and_eq_true ..)).trans (and_congr_right fun _ => shedMet_iff s _)
    have restart : (s.restartRunning s.seq.restartPointer && s.restartMet s.seq.restartPointer) = true ↔ restartMet :=
      (iff_of_eq (Bool.and_eq_true ..)).trans (and_congr_right fun _ => restartMet_iff s _)
    have ends : s.restartComplete = true ↔ complete := restartComplete_iff s
    rw [← shed, ← restart, ← ends]
    exact ⟨settleOnce_shed, settleOnce_restart, settleOnce_complete, settleOnce_gate⟩

end Sys2Proof.Machine

namespace Sys2Proof.Machine

variable {s t : State} {p : Fin 64} {k : Nat}

/-- What each step of a fold keeps, the fold keeps. -/
theorem foldl_holds {g : State → Fin 64 → State} {P : State → Prop} (step : ∀ (t : State) (q : Fin 64), P t → P (g t q))
    (l : List (Fin 64)) (start : P s) : P (l.foldl g s) :=
  List.foldlRecOn l g start (fun t held q _ => step t q held)

/-! ### The motion slots under the choice and the withdrawals (R90, R91) -/

/-- What the choice and the withdrawals do to a motion slot: it stands, or a PENDING order flies or is withdrawn. -/
def MotionSlot.Leaves (a b : MotionSlot) : Prop := b = a ∨ ∃ k, a = .pending k ∧ (b = .inFlight k ∨ b = .empty)

/-- A slot whose order is in flight stands. -/
theorem MotionSlot.Leaves.flies {a b : MotionSlot} {k : MotionKind} (h : a.Leaves b) (flies : a = .inFlight k) : b = .inFlight k := by
  rcases h with rfl | ⟨j, rfl, -⟩
  · exact flies
  · cases flies

/-- An order that waits has waited before. -/
theorem MotionSlot.Leaves.waited {a b : MotionSlot} {k : MotionKind} (h : a.Leaves b) (waits : b = .pending k) : a = .pending k := by
  rcases h with rfl | ⟨j, -, rfl | rfl⟩
  · exact waits
  all_goals cases waits

/-- One change after another. -/
theorem MotionSlot.Leaves.trans {a b c : MotionSlot} (first : a.Leaves b) (second : b.Leaves c) : a.Leaves c := by
  rcases first with rfl | ⟨k, rfl, rfl | rfl⟩
  · exact second
  · exact .inr ⟨k, rfl, .inl (second.flies rfl)⟩
  · rcases second with rfl | ⟨j, waits, -⟩
    · exact .inr ⟨k, rfl, .inr rfl⟩
    · cases waits

/-- The choice (R91). -/
theorem Flc.choose_slot (f : Flc) (p : Fin 64) : f.motion[p].Leaves f.choose.motion[p] := by
  rcases f.choose_cases with stays | ⟨o, -, waits, chose⟩
  · exact .inl (by rw [stays])
  · rw [chose]
    cases o with
    | motion j q =>
      by_cases own : q = p
      · subst own
        exact .inr ⟨j, waits, .inl (vector_set_self ..)⟩
      · exact .inl (vector_set_other _ _ _ _ own)
    | lamp | poll | tripAll => exact .inl rfl

/-- A lamp re-evaluated (R78). -/
theorem settleLamp_slot (q : Fin 64) (old : PointState) (s : State) (p : Fin 64) :
    s.flc.motion[p].Leaves (settleLamp q old s).flc.motion[p] := by
  unfold settleLamp
  dsimp only
  split
  · exact Flc.choose_slot _ p
  · exact .inl rfl

/-- A withdrawal (R90). -/
theorem withdraw_slot (q : Fin 64) (s : State) (p : Fin 64) : s.flc.motion[p].Leaves (withdraw q s).flc.motion[p] := by
  unfold withdraw
  split
  · next k waits =>
    by_cases own : q = p
    · subst own
      exact .inr ⟨k, waits, .inr (vector_set_self ..)⟩
    · exact .inl (vector_set_other _ _ _ _ own)
  · exact .inl rfl
  · exact .inl rfl

/-- A point that is cancelled (R152, R154). -/
theorem cancelPoint_slot (q : Fin 64) (s : State) (p : Fin 64) : s.flc.motion[p].Leaves (cancelPoint q s).flc.motion[p] := by
  refine (withdraw_slot q s p).trans ?_
  have lamp := settleLamp_slot q (withdraw q s).ptm.points[q].state (changePoint q .shed .cancelled (withdraw q s)) p
  rwa [show (changePoint q .shed .cancelled (withdraw q s)).flc = (withdraw q s).flc by simp] at lamp

/-- A slot whose order is in flight stands while an order is placed, for its point or another (R87). -/
theorem placeMotion_flies {j : MotionKind} (k : MotionKind) (q : Fin 64) (flies : s.flc.motion[p] = .inFlight j) :
    (placeMotion k q s).flc.motion[p] = .inFlight j := by
  by_cases free : ∀ i, s.flc.motion[q] ≠ .inFlight i
  · have apart : q ≠ p := fun own => free j (own ▸ flies)
    rw [placeMotion_free k free]
    exact Flc.choose_motion_inFlight ((vector_set_other _ _ _ _ apart).trans flies)
  · obtain ⟨i, own⟩ := not_forall_not.mp free
    simpa only [placeMotion, own] using flies

/-- A slot whose order is in flight stands while a SHED is wanted (R66). -/
theorem wantShed_flies {j : MotionKind} (c : Cause) (q : Fin 64) (flies : s.flc.motion[p] = .inFlight j) :
    (wantShed q c s).flc.motion[p] = .inFlight j := by
  refine (settleLamp_slot q _ _ p).flies ?_
  have opens (c : Cause) : (changePoint q .opening c (placeMotion .shed q s)).flc.motion[p] = .inFlight j := by
    simpa using placeMotion_flies .shed q flies
  unfold wantShedBare
  split
  · exact opens c
  · exact opens c
  · exact opens .cancelled
  · exact flies
  · exact flies

/-- A slot whose order is in flight stands at the start of a shed step (R122). -/
theorem startShedStep_flies {j : MotionKind} (k : Nat) (flies : s.flc.motion[p] = .inFlight j) :
    (startShedStep k s).flc.motion[p] = .inFlight j := by
  have handled (t : State) (q : Fin 64) (flying : t.flc.motion[p] = .inFlight j) : (shedStepPoint t q).flc.motion[p] = .inFlight j := by
    rcases shedStepPoint_cases t q with done | done | done <;> rw [done]
    · exact flying
    · refine (settleLamp_slot q _ _ p).flies ?_
      simpa using placeMotion_flies .warn q flying
    · exact wantShed_flies _ q flying
  exact foldl_holds (P := fun t => t.flc.motion[p] = .inFlight j) handled _ (by simpa using flies)

/-- With an order in flight a lamp re-evaluated leaves the motion slots and the order (R78, R92). -/
theorem settleLamp_busy (q : Fin 64) (old : PointState) (busy : s.flc.inFlight.isSome = true) :
    (settleLamp q old s).flc.motion = s.flc.motion ∧ (settleLamp q old s).flc.inFlight = s.flc.inFlight := by
  unfold settleLamp
  dsimp only
  split
  · rw [postLamp, choose_busy (by simpa [State.modPoint] using busy)]
    exact ⟨rfl, rfl⟩
  · exact ⟨rfl, rfl⟩

/-- With an order in flight a point that is cancelled leaves the order and the slots of the others (R92, R152). -/
theorem cancelPoint_busy {q : Fin 64} (other : p ≠ q) (busy : s.flc.inFlight.isSome = true) :
    (cancelPoint q s).flc.motion[p] = s.flc.motion[p] ∧ (cancelPoint q s).flc.inFlight = s.flc.inFlight := by
  have gone : (withdraw q s).flc.motion[p] = s.flc.motion[p] ∧ (withdraw q s).flc.inFlight = s.flc.inFlight := by
    unfold withdraw
    split
    · exact ⟨vector_set_other _ _ _ _ other.symm, rfl⟩
    · exact ⟨rfl, rfl⟩
    · exact ⟨rfl, rfl⟩
  have flc : (changePoint q .shed .cancelled (withdraw q s)).flc = (withdraw q s).flc := by simp
  obtain ⟨motion, flight⟩ := settleLamp_busy (s := changePoint q .shed .cancelled (withdraw q s)) q
    (withdraw q s).ptm.points[q].state (by rwa [flc, gone.2])
  rw [cancelPoint, movePoint, motion, flight, flc]
  exact gone

/-! ### The three passes of an abort (R152) -/

/-- A fold over all points brings to the entry of a point what its own turn brings, as the others leave it. -/
theorem foldl_entry_turn {g : State → Fin 64 → State} {P : PointEntry → Prop}
    (one : ∀ (t : State) (q : Fin 64), p ≠ q → (g t q).ptm.points[p] = t.ptm.points[p])
    (turn : ∀ t : State, t.ptm.points[p] = s.ptm.points[p] → P (g t p).ptm.points[p]) : P (allPoints.foldl g s).ptm.points[p] :=
  foldl_turn (p := p) (fun t => t.ptm.points[p] = s.ptm.points[p]) (fun t => P t.ptm.points[p]) rfl
    (fun t q other same => (one t q other).trans same) turn (fun t q other done => (one t q other).symm ▸ done)

/-- A point withdrawn from the gate: SHED with cause CANCELLED, its manual flag no (R80, R82). -/
def PointEntry.Cancelled (e : PointEntry) : Prop := e.state = .shed ∧ e.cause = .cancelled ∧ e.manual = false

/-- A point that is cancelled (R152). -/
theorem cancelPoint_cancelled (p : Fin 64) (s : State) : (cancelPoint p s).ptm.points[p].Cancelled := by
  obtain ⟨m, entry⟩ := cancelPoint_entry p s
  rw [entry]
  exact ⟨rfl, rfl, by simp [PointEntry.enter, PointState.keepsManual]⟩

/-- A point that is cancelled leaves the entry of every other. -/
theorem cancelPoint_entry_other (s : State) {q : Fin 64} (other : p ≠ q) :
    (cancelPoint q s).ptm.points[p] = s.ptm.points[p] := by
  simp [cancelPoint, movePoint_entry_other _ _ _ other]

/-- The withdrawal of a pending RESTORE leaves the entry of every other point (R152). -/
theorem cancelPendingRestore_entry_other (s : State) (q : Fin 64) (other : p ≠ q) :
    (cancelPendingRestore s q).ptm.points[p] = s.ptm.points[p] := by
  unfold cancelPendingRestore
  split
  · exact cancelPoint_entry_other s other
  · rfl

/-- An AWAIT point that leaves the gate leaves the entry of every other (R152). -/
theorem cancelAwait_entry_other (s : State) (q : Fin 64) (other : p ≠ q) : (cancelAwait s q).ptm.points[p] = s.ptm.points[p] := by
  unfold cancelAwait
  split
  · exact cancelPoint_entry_other s other
  · rfl

/-- A RESTORE in flight taken back leaves the entry of every other point (R152). -/
theorem shedInFlightRestore_entry_other (s : State) (q : Fin 64) (other : p ≠ q) :
    (shedInFlightRestore s q).ptm.points[p] = s.ptm.points[p] := by
  unfold shedInFlightRestore
  split
  · exact wantShed_entry_other _ s other
  · rfl

/-- The slots while pending RESTOREs are withdrawn (R152). -/
theorem cancelPendingRestore_slot (s : State) (q p : Fin 64) : s.flc.motion[p].Leaves (cancelPendingRestore s q).flc.motion[p] := by
  unfold cancelPendingRestore
  split
  · exact cancelPoint_slot q s p
  · exact .inl rfl

/-- The slots while the AWAIT points leave the gate (R152). -/
theorem cancelAwait_slot (s : State) (q p : Fin 64) : s.flc.motion[p].Leaves (cancelAwait s q).flc.motion[p] := by
  unfold cancelAwait
  split
  · exact cancelPoint_slot q s p
  · exact .inl rfl

/-- A slot whose order is in flight stands while the RESTOREs in flight are taken back (R152). -/
theorem shedInFlightRestore_flies {j : MotionKind} (q : Fin 64) (flies : s.flc.motion[p] = .inFlight j) :
    (shedInFlightRestore s q).flc.motion[p] = .inFlight j := by
  unfold shedInFlightRestore
  split
  · exact wantShed_flies _ q flies
  · exact flies

/-- A point in CLOSING whose RESTORE is pending is cancelled in its turn: with an order in flight, none leaves its slot before (R152). -/
theorem withdrawn_waiting (closing : s.pointState p = .closing) (waits : s.flc.motion[p] = .pending .restore)
    (busy : s.flc.inFlight.isSome = true) : (allPoints.foldl cancelPendingRestore s).ptm.points[p].Cancelled := by
  refine foldl_turn (p := p) (fun t => t.ptm.points[p] = s.ptm.points[p] ∧ t.flc.motion[p] = .pending .restore
      ∧ t.flc.inFlight.isSome = true) (fun t => t.ptm.points[p].Cancelled) ⟨rfl, waits, busy⟩
    (fun t q other ⟨same, waiting, flying⟩ => ⟨(cancelPendingRestore_entry_other t q other).trans same, ?_⟩)
    (fun t ⟨same, waiting, _⟩ => ?_) (fun t q other done => (cancelPendingRestore_entry_other t q other).symm ▸ done)
  · unfold cancelPendingRestore
    split
    · obtain ⟨slot, flight⟩ := cancelPoint_busy other flying
      exact ⟨slot.trans waiting, flight.symm ▸ flying⟩
    · exact ⟨waiting, flying⟩
  · rw [cancelPendingRestore, if_pos ⟨(congrArg PointEntry.state same).trans closing, waiting⟩]
    exact cancelPoint_cancelled p t

/-- Every other point keeps its entry while the pending RESTOREs are withdrawn (R152). -/
theorem withdrawn_other (out : ¬ (s.pointState p = .closing ∧ s.flc.motion[p] = .pending .restore)) :
    (allPoints.foldl cancelPendingRestore s).ptm.points[p] = s.ptm.points[p]
      ∧ s.flc.motion[p].Leaves (allPoints.foldl cancelPendingRestore s).flc.motion[p] := by
  refine foldl_holds (P := fun t => t.ptm.points[p] = s.ptm.points[p] ∧ s.flc.motion[p].Leaves t.flc.motion[p])
    (fun t q ⟨same, slot⟩ => ⟨?_, slot.trans (cancelPendingRestore_slot t q p)⟩) allPoints ⟨rfl, .inl rfl⟩
  by_cases own : p = q
  · subst own
    rw [cancelPendingRestore, if_neg fun ⟨closing, waits⟩ =>
      out ⟨(congrArg PointEntry.state same).symm.trans closing, slot.waited waits⟩]
    exact same
  · exact (cancelPendingRestore_entry_other t q own).trans same

/-- A point that is not in CLOSING keeps its entry while the RESTOREs in flight are taken back (R152). -/
theorem takenBack_other (other : s.pointState p ≠ .closing) :
    (allPoints.foldl shedInFlightRestore s).ptm.points[p] = s.ptm.points[p] := by
  refine foldl_entry_turn (P := (· = s.ptm.points[p])) shedInFlightRestore_entry_other fun t same => ?_
  rw [shedInFlightRestore, if_neg fun due => other ((congrArg PointEntry.state same).symm.trans due.1)]
  exact same

/-- A point in CLOSING that waits for its RESTORE in flight with a SHED deferred (R66, R152). -/
def State.defersAt (s : State) (p : Fin 64) : Prop :=
  s.pointState p = .closing ∧ s.ptm.points[p].deferred = true ∧ s.flc.motion[p] = .inFlight .restore

/-- The entry of a point whose SHED is deferred (R66). -/
theorem wantShed_entry_deferred {j : MotionKind} (c : Cause) (flies : s.flc.motion[p] = .inFlight j) :
    ∃ m, (wantShed p c s).ptm.points[p] = { s.ptm.points[p] with deferred := true, lamp := m } := by
  obtain ⟨m, points⟩ := settleLamp_points p s.ptm.points[p].state (s.modPoint p (fun e => { e with deferred := true }))
  refine ⟨m, ?_⟩
  rw [wantShed, wantShedBare_defers c flies, points, vector_set_self, State.modPoint, vector_set_self]

/-- A RESTORE in flight taken back: a deferred SHED (R66, R152). -/
theorem shedInFlightRestore_defers (closing : s.pointState p = .closing) (flies : s.flc.motion[p] = .inFlight .restore) :
    (shedInFlightRestore s p).defersAt p := by
  obtain ⟨m, entry⟩ := wantShed_entry_deferred .orderDone flies
  have slot := shedInFlightRestore_flies p flies
  rw [shedInFlightRestore, if_pos ⟨closing, flies⟩] at slot ⊢
  exact ⟨(congrArg PointEntry.state entry).trans closing, congrArg PointEntry.deferred entry, slot⟩

/-- A point whose RESTORE is in flight stays in CLOSING with a deferred SHED (R66, R152). -/
theorem takenBack_flying (closing : s.pointState p = .closing) (flies : s.flc.motion[p] = .inFlight .restore) :
    (allPoints.foldl shedInFlightRestore s).defersAt p := by
  refine foldl_turn (p := p) (fun t => t.ptm.points[p] = s.ptm.points[p] ∧ t.flc.motion[p] = .inFlight .restore)
    (fun t => t.defersAt p) ⟨rfl, flies⟩
    (fun t q other ⟨same, held⟩ => ⟨(shedInFlightRestore_entry_other t q other).trans same, shedInFlightRestore_flies q held⟩)
    (fun t ⟨same, held⟩ => shedInFlightRestore_defers ((congrArg PointEntry.state same).trans closing) held)
    (fun t q other ⟨state, deferred, held⟩ => ?_)
  have same := shedInFlightRestore_entry_other t q other
  exact ⟨(congrArg PointEntry.state same).trans state, (congrArg PointEntry.deferred same).trans deferred, shedInFlightRestore_flies q held⟩

/-- An AWAIT point is cancelled as the gate is emptied (R152, R154). -/
theorem emptied_await (await : s.pointState p = .await) : (allPoints.foldl cancelAwait s).ptm.points[p].Cancelled := by
  refine foldl_entry_turn cancelAwait_entry_other fun t same => ?_
  have waiting : t.pointState p = .await := (congrArg PointEntry.state same).trans await
  rw [cancelAwait, if_pos waiting]
  exact cancelPoint_cancelled p t

/-- Every other point keeps its entry as the gate is emptied (R152, R154). -/
theorem emptied_other (other : s.pointState p ≠ .await) : (allPoints.foldl cancelAwait s).ptm.points[p] = s.ptm.points[p] := by
  refine foldl_entry_turn (P := (· = s.ptm.points[p])) cancelAwait_entry_other fun t same => ?_
  have stays : t.pointState p ≠ .await := fun await => other ((congrArg PointEntry.state same).symm.trans await)
  rw [cancelAwait, if_neg stays]
  exact same

/-- A slot whose order is in flight stands as the gate is emptied (R152). -/
theorem emptied_flies {j : MotionKind} (flies : s.flc.motion[p] = .inFlight j) :
    (allPoints.foldl cancelAwait s).flc.motion[p] = .inFlight j :=
  foldl_holds (P := fun t => t.flc.motion[p] = .inFlight j) (fun t q held => (cancelAwait_slot t q p).flies held) allPoints flies

end Sys2Proof.Machine

namespace Sys2Proof.Machine

variable {s t : State} {p : Fin 64} {k : Nat}

/-! ### The abort and the veto stop (R152, R154) -/

/-- The Sequencer with its running restart step stopped (R152, R154). -/
theorem stopRestartStep_running (running : s.restartRunning s.seq.restartPointer = true) : (stopRestartStep s).seq
    = { s.seq with
        restartStatus := setStatusAt s.seq.restartStatus s.seq.restartPointer .stopped
        restartDelay := none
        restartTimeout := none } := by
  rw [stopRestartStep, if_pos running]

/-- The running restart step stopped leaves the rest of the Sequencer. -/
theorem stopRestartStep_rest (s : State) : (stopRestartStep s).seq.depth = s.seq.depth ∧ (stopRestartStep s).seq.target = s.seq.target
    ∧ (stopRestartStep s).seq.eventOpen = s.seq.eventOpen ∧ (stopRestartStep s).seq.restartPointer = s.seq.restartPointer
    ∧ (stopRestartStep s).seq.shedStatus = s.seq.shedStatus ∧ (stopRestartStep s).seq.pointer = s.seq.pointer := by
  unfold stopRestartStep
  split <;> exact ⟨rfl, rfl, rfl, rfl, rfl, rfl⟩

/-- The state in which an abort has cancelled and taken back the points of the gate (R152). -/
def State.abortedPoints (s : State) : State :=
  allPoints.foldl cancelAwait (allPoints.foldl shedInFlightRestore (allPoints.foldl cancelPendingRestore (stopRestartStep s)))

/-- The state in which a veto stop has cancelled the points of the gate (R154). -/
def State.vetoedPoints (s : State) : State := allPoints.foldl cancelAwait (allPoints.foldl cancelPendingRestore (stopRestartStep s))

/-- The Sequencer, the plan and the level stand while the points are taken. -/
theorem State.abortedPoints_frame (s : State) : s.abortedPoints.seq = (stopRestartStep s).seq ∧ s.abortedPoints.pls = s.pls
    ∧ s.abortedPoints.mev = s.mev := by
  simp [State.abortedPoints]

/-- The Sequencer and the plan stand while the points are taken. -/
theorem State.vetoedPoints_frame (s : State) : s.vetoedPoints.seq = (stopRestartStep s).seq ∧ s.vetoedPoints.pls = s.pls := by
  simp [State.vetoedPoints]

/-- The abort after its points' turns (R152). -/
theorem abortRestart_after (s : State) : abortRestart s = startShedStep 0 (setShedding s.abortedPoints).shedCleared := by
  rw [abortRestart_eq, State.abortedPoints]

/-- The veto stop after its points' turns (R154). -/
theorem vetoStop_after (s : State) : vetoStop s = checkShedding (enterHalted s.vetoedPoints) := by
  rw [vetoStop_eq, State.vetoedPoints]

/-- The Sequencer after an abort: H0 started afresh toward the greater of D and the depth of the level (R152). -/
theorem abortRestart_sequencer (s : State) : (abortRestart s).seq
    = { (stopRestartStep s).seq with
        state := .shedding
        pointer := 0
        target := max s.seq.depth (s.pls.active.depth s.mev.level)
        shedStatus := setStatusAt (Vector.replicate 48 .notStarted) 0 .running
        shedTimeout := some ((s.pls.active.shedStep 0).timeout * 1000)
        shedDelay := delayStart (s.pls.active.shedStep 0).wait (s.pls.active.shedStep 0).delay } := by
  obtain ⟨seq, pls, mev⟩ := s.abortedPoints_frame
  obtain ⟨depth, -⟩ := stopRestartStep_rest s
  rw [abortRestart_after, startShedStep_sequencer]
  simp only [State.shedCleared, setShedding_seq, setShedding_frame, seq, pls, mev, depth]

/-- A point that H0 does not list ends an abort as the points' turns left it. -/
theorem abortRestart_entry (out : p ∉ (s.pls.active.shedStep 0).points) :
    (abortRestart s).ptm.points[p] = s.abortedPoints.ptm.points[p] := by
  obtain ⟨-, pls, -⟩ := s.abortedPoints_frame
  rw [abortRestart_after, startShedStep_entry_other (by simpa [State.shedCleared, pls] using out)]
  simp [State.shedCleared]

/-- A motion order in flight after the points' turns stays in flight to the end of an abort. -/
theorem abortRestart_flies {j : MotionKind} (flies : s.abortedPoints.flc.motion[p] = .inFlight j) :
    (abortRestart s).flc.motion[p] = .inFlight j := by
  rw [abortRestart_after]
  refine startShedStep_flies 0 ?_
  simpa [State.shedCleared] using flies

/-- Where the idle loop cannot choose it, a RESTORE that waits does so beside an order in flight (R92). -/
theorem busy_of_waiting (quiet : s.flc.inFlight.isSome = true ∨ ∀ q : Fin 64, s.flc.motion[q] ≠ .pending .restore)
    (waits : s.flc.motion[p] = .pending .restore) : s.flc.inFlight.isSome = true :=
  quiet.resolve_right fun none_waits => none_waits p waits

/-- A point at the gate, in AWAIT or with its RESTORE pending, is cancelled by the first and the last pass, whatever a pass between
leaves of the others (R152, R154). -/
theorem cancelled_between {mid : State → State}
    (keeps : ∀ u : State, u.pointState p ≠ .closing → (mid u).ptm.points[p] = u.ptm.points[p])
    (quiet : s.flc.inFlight.isSome = true ∨ ∀ q : Fin 64, s.flc.motion[q] ≠ .pending .restore)
    (waits : s.pointState p = .await ∨ (s.pointState p = .closing ∧ s.flc.motion[p] = .pending .restore)) :
    (allPoints.foldl cancelAwait (mid (allPoints.foldl cancelPendingRestore s))).ptm.points[p].Cancelled := by
  rcases waits with await | ⟨closing, slot⟩
  · obtain ⟨first, -⟩ := withdrawn_other (s := s) (p := p) fun due => by simp [await] at due
    have awaits : (allPoints.foldl cancelPendingRestore s).pointState p = .await := (congrArg PointEntry.state first).trans await
    have second := keeps (allPoints.foldl cancelPendingRestore s) (by simp [awaits])
    exact emptied_await ((congrArg PointEntry.state second).trans awaits)
  · have first := withdrawn_waiting closing slot (busy_of_waiting quiet slot)
    have shed : (allPoints.foldl cancelPendingRestore s).pointState p = .shed := first.1
    have second := keeps (allPoints.foldl cancelPendingRestore s) (by simp [shed])
    have still : (mid (allPoints.foldl cancelPendingRestore s)).pointState p = .shed := (congrArg PointEntry.state second).trans shed
    have third := emptied_other (s := mid (allPoints.foldl cancelPendingRestore s)) (p := p) (by simp [still])
    rw [third, second]
    exact first

/-- A point at the gate is cancelled by an abort (R152). -/
theorem State.abortedPoints_cancelled
    (quiet : s.flc.inFlight.isSome = true ∨ ∀ q : Fin 64, s.flc.motion[q] ≠ .pending .restore)
    (waits : s.pointState p = .await ∨ (s.pointState p = .closing ∧ s.flc.motion[p] = .pending .restore)) :
    s.abortedPoints.ptm.points[p].Cancelled := by
  unfold State.abortedPoints
  exact cancelled_between (s := stopRestartStep s) (mid := allPoints.foldl shedInFlightRestore) (fun u other => takenBack_other other) (by simpa using quiet)
    (by simpa [State.pointState] using waits)

/-- A point at the gate is cancelled by a veto stop (R154). -/
theorem State.vetoedPoints_cancelled
    (quiet : s.flc.inFlight.isSome = true ∨ ∀ q : Fin 64, s.flc.motion[q] ≠ .pending .restore)
    (waits : s.pointState p = .await ∨ (s.pointState p = .closing ∧ s.flc.motion[p] = .pending .restore)) :
    s.vetoedPoints.ptm.points[p].Cancelled := by
  unfold State.vetoedPoints
  exact cancelled_between (s := stopRestartStep s) (mid := fun u => u) (fun u _ => rfl) (by simpa using quiet)
    (by simpa [State.pointState] using waits)

/-- A point neither in AWAIT nor in CLOSING keeps its entry over an abort's turns (R152). -/
theorem State.abortedPoints_other (await : s.pointState p ≠ .await) (closing : s.pointState p ≠ .closing) :
    s.abortedPoints.ptm.points[p] = s.ptm.points[p] := by
  have stopped : (stopRestartStep s).ptm.points[p] = s.ptm.points[p] := by simp
  obtain ⟨first, -⟩ := withdrawn_other (s := stopRestartStep s) (p := p) fun due => closing (by simpa [State.pointState] using due.1)
  have second := takenBack_other (s := allPoints.foldl cancelPendingRestore (stopRestartStep s)) (p := p)
    (by rw [State.pointState, first, stopped]; exact closing)
  have third := emptied_other (s := allPoints.foldl shedInFlightRestore (allPoints.foldl cancelPendingRestore (stopRestartStep s)))
    (p := p) (by rw [State.pointState, second, first, stopped]; exact await)
  unfold State.abortedPoints
  exact third.trans (second.trans (first.trans stopped))

/-- A point whose RESTORE is in flight is left in CLOSING by an abort's turns, with its SHED deferred (R152). -/
theorem State.abortedPoints_flying (closing : s.pointState p = .closing) (flies : s.flc.motion[p] = .inFlight .restore) :
    s.abortedPoints.defersAt p := by
  obtain ⟨first, slot⟩ := withdrawn_other (s := stopRestartStep s) (p := p) fun due => by simp [flies] at due
  obtain ⟨state, deferred, flying⟩ := takenBack_flying (s := allPoints.foldl cancelPendingRestore (stopRestartStep s)) (p := p)
    (by rw [State.pointState, first]; simpa [State.pointState] using closing) (slot.flies (by simpa using flies))
  have third := emptied_other (s := allPoints.foldl shedInFlightRestore (allPoints.foldl cancelPendingRestore (stopRestartStep s)))
    (p := p) (by simp [state])
  unfold State.abortedPoints
  exact ⟨(congrArg PointEntry.state third).trans state, (congrArg PointEntry.deferred third).trans deferred, emptied_flies flying⟩

/-- A point that is not at the gate keeps its entry over a veto stop's turns (R154). -/
theorem State.vetoedPoints_other (await : s.pointState p ≠ .await)
    (waits : ¬ (s.pointState p = .closing ∧ s.flc.motion[p] = .pending .restore)) :
    s.vetoedPoints.ptm.points[p] = s.ptm.points[p] := by
  have stopped : (stopRestartStep s).ptm.points[p] = s.ptm.points[p] := by simp
  obtain ⟨first, -⟩ := withdrawn_other (s := stopRestartStep s) (p := p) (by simpa [State.pointState] using waits)
  have third := emptied_other (s := allPoints.foldl cancelPendingRestore (stopRestartStep s)) (p := p)
    (by rw [State.pointState, first, stopped]; exact await)
  unfold State.vetoedPoints
  exact third.trans (first.trans stopped)

/-- A veto stop with the target above D starts the step at D (R119, R154). -/
theorem vetoStop_again (again : s.seq.depth < s.seq.target) :
    vetoStop s = startShedStep s.seq.depth (setShedding ((enterHalted s.vetoedPoints).atPointer s.seq.depth)) := by
  obtain ⟨seq, -⟩ := s.vetoedPoints_frame
  obtain ⟨depth, target, -⟩ := stopRestartStep_rest s
  have halted : (enterHalted s.vetoedPoints).seq.depth = s.seq.depth ∧ (enterHalted s.vetoedPoints).seq.target = s.seq.target := by
    rw [enterHalted_seq, seq]
    exact ⟨depth, target⟩
  rw [vetoStop_after, checkShedding_halted (by rwa [halted.1, halted.2]) (by rw [enterHalted_seq]), shedFromHalted_step, halted.1]

/-- A veto stop with the target at D is HALTED (R154). -/
theorem vetoStop_halts (reached : ¬ s.seq.depth < s.seq.target) : vetoStop s = enterHalted s.vetoedPoints := by
  obtain ⟨seq, -⟩ := s.vetoedPoints_frame
  obtain ⟨depth, target, -⟩ := stopRestartStep_rest s
  rw [vetoStop_after]
  exact checkShedding_reached (by rw [enterHalted_seq, seq, depth, target]; exact not_lt.mp reached)

/-- The Sequencer after a veto stop (R154). -/
theorem vetoStop_sequencer (s : State) :
    (¬ s.seq.depth < s.seq.target → (vetoStop s).seq = { (stopRestartStep s).seq with state := .halted })
      ∧ (s.seq.depth < s.seq.target → (vetoStop s).seq = { (stopRestartStep s).seq with
        state := .shedding
        pointer := s.seq.depth
        shedStatus := setStatusAt s.seq.shedStatus s.seq.depth .running
        shedTimeout := some ((s.pls.active.shedStep s.seq.depth).timeout * 1000)
        shedDelay := delayStart (s.pls.active.shedStep s.seq.depth).wait (s.pls.active.shedStep s.seq.depth).delay }) := by
  obtain ⟨seq, pls⟩ := s.vetoedPoints_frame
  obtain ⟨-, -, -, -, status, -⟩ := stopRestartStep_rest s
  refine ⟨fun reached => ?_, fun again => ?_⟩
  · rw [vetoStop_halts reached, enterHalted_seq, seq]
  · rw [vetoStop_again again, startShedStep_sequencer]
    simp only [setShedding_seq, setShedding_frame, State.atPointer, enterHalted_seq, enterHalted_frame, seq, pls, status]

/-- What a veto stop leaves of the Sequencer as the stopped restart step left it (R154). -/
theorem vetoStop_rest (s : State) : (vetoStop s).seq.depth = (stopRestartStep s).seq.depth
    ∧ (vetoStop s).seq.target = (stopRestartStep s).seq.target ∧ (vetoStop s).seq.eventOpen = (stopRestartStep s).seq.eventOpen
    ∧ (vetoStop s).seq.restartPointer = (stopRestartStep s).seq.restartPointer
    ∧ (vetoStop s).seq.restartStatus = (stopRestartStep s).seq.restartStatus
    ∧ (vetoStop s).seq.restartDelay = (stopRestartStep s).seq.restartDelay
    ∧ (vetoStop s).seq.restartTimeout = (stopRestartStep s).seq.restartTimeout := by
  obtain ⟨halts, sheds⟩ := vetoStop_sequencer s
  by_cases due : s.seq.depth < s.seq.target
  · rw [sheds due]
    exact ⟨rfl, rfl, rfl, rfl, rfl, rfl, rfl⟩
  · rw [halts due]
    exact ⟨rfl, rfl, rfl, rfl, rfl, rfl, rfl⟩

/-- A point that no started step lists ends a veto stop as the points' turns left it. -/
theorem vetoStop_entry (out : s.seq.depth < s.seq.target → p ∉ (s.pls.active.shedStep s.seq.depth).points) :
    (vetoStop s).ptm.points[p] = s.vetoedPoints.ptm.points[p] := by
  obtain ⟨-, pls⟩ := s.vetoedPoints_frame
  by_cases again : s.seq.depth < s.seq.target
  · rw [vetoStop_again again, startShedStep_entry_other (by simpa [State.atPointer, pls] using out again)]
    simp [State.atPointer]
  · simp [vetoStop_halts again]

/-! ### The end of a restart step (R145 to R147) -/

/-- The state in which a restart step has timed out and its end has not been taken (R146). -/
def State.restartTimedOut (s : State) (k : Nat) : State :=
  (s.pls.active.restartStep k).points.foldl failAwait
    (raiseFault .stepTimeout (.step .restart k) (post (.step .restart k .timedOut) s))

/-- The timeout of a restart step: the timed-out step ends like any other (R146). -/
theorem restartTimeout_eq (k : Nat) (s : State) : restartTimeout k s = settle (afterRestartDone k (s.restartTimedOut k)) := by
  simp only [restartTimeout, State.restartTimedOut, raiseFault_frame, post_frame]

/-- The Sequencer and the plan stand while a timeout is reported and the AWAIT points fail (R146). -/
theorem State.restartTimedOut_frame (s : State) (k : Nat) : (s.restartTimedOut k).seq = s.seq ∧ (s.restartTimedOut k).pls = s.pls := by
  simp [State.restartTimedOut]

/-- The Sequencer after a restart step has started (R143). -/
theorem startRestartStep_sequencer (k : Nat) (s : State) : (startRestartStep k s).seq
    = { s.seq with
        restartStatus := setStatusAt s.seq.restartStatus k .running
        restartTimeout := some ((s.pls.active.restartStep k).timeout * 1000)
        restartDelay := delayStart (s.pls.active.restartStep k).wait (s.pls.active.restartStep k).delay } := by
  simp [startRestartStep]

/-- With a restart step left the next one starts (R147). -/
theorem afterRestartDone_runs (left : k + 1 < s.pls.active.restartLen) :
    afterRestartDone k s = startRestartStep (k + 1) (s.restartDone k) := if_pos left

/-- At the end of the chain no step starts (R147). -/
theorem afterRestartDone_ends (ended : s.pls.active.restartLen ≤ k + 1) : afterRestartDone k s = s.restartDone k :=
  if_neg (Nat.not_lt.mpr ended)

/-- The pointer, the statuses and the timers after a restart step has ended, in the state of its restart (R147). -/
theorem afterRestartDone_items (inside : k < 48) (s : State) :
    (afterRestartDone k s).seq.restartPointer = k + 1 ∧ statusAt (afterRestartDone k s).seq.restartStatus k = .done
      ∧ (afterRestartDone k s).seq.state = s.seq.state
      ∧ (k + 1 < s.pls.active.restartLen → k + 1 < 48 → statusAt (afterRestartDone k s).seq.restartStatus (k + 1) = .running)
      ∧ (s.pls.active.restartLen ≤ k + 1 →
        (afterRestartDone k s).seq.restartDelay = none ∧ (afterRestartDone k s).seq.restartTimeout = none) := by
  by_cases left : k + 1 < s.pls.active.restartLen
  · rw [afterRestartDone_runs left, startRestartStep_sequencer]
    exact ⟨rfl, by simp [State.restartDone, statusAt_set _ _ inside], rfl, fun _ next => by simp [statusAt_set _ _ next],
      fun ended => absurd left (Nat.not_lt.mpr ended)⟩
  · rw [afterRestartDone_ends (Nat.not_lt.mp left)]
    exact ⟨rfl, by simp [State.restartDone, statusAt_set _ _ inside], rfl, fun next => absurd next left, fun _ => ⟨rfl, rfl⟩⟩

/-- A point at the start of a restart step, by its state (R143). -/
theorem restartStepPoint_by_state (s : State) (p : Fin 64) :
    (s.pointState p = .locked → restartStepPoint s p = post (.point p .locked .locked .lockout) s)
      ∧ (s.pointState p = .shed ∨ s.pointState p = .failed ∨ s.pointState p = .unknown →
        restartStepPoint s p = movePoint p .await .orderDone s)
      ∧ (s.pointState p ≠ .locked → s.pointState p ≠ .shed → s.pointState p ≠ .failed → s.pointState p ≠ .unknown →
        restartStepPoint s p = s) := by
  unfold restartStepPoint
  cases s.pointState p <;> simp [placeAwait]

/-- A point withdrawn from its slot (R90). -/
theorem withdraw_waiting {j : MotionKind} (waits : s.flc.motion[p] = .pending j) :
    withdraw p s = { s with flc := { s.flc with motion := s.flc.motion.set p .empty } } := by
  simp only [withdraw, waits]

/-- A withdrawal with no order that waits (R90). -/
theorem withdraw_stands (stands : ∀ j, s.flc.motion[p] ≠ .pending j) : withdraw p s = s := by
  unfold withdraw
  split
  · next j waits => exact absurd waits (stands j)
  · rfl
  · rfl

/-- The Sequencer stays in RESTARTING through the event and the grace cut of a change of level (R114, R127). -/
theorem sequencerAtLevel_restarting (restarting : s.seq.state = .restarting) :
    let told := eventAtLevel s
    let cut := if s.mev.level = .severe then allPoints.foldl cutGrace told else told
    sequencerAtLevel s = settle (if s.mev.level.atLeast s.pls.active.params.abortLevel then abortRestart cut else cut) := by
  intro told cut
  have level : told.mev.level = s.mev.level := by
    simp only [told, eventAtLevel]
    (repeat' split) <;> simp
  have told_state : told.seq.state = .restarting := by
    simp only [told, eventAtLevel]
    (repeat' split) <;> simp [openEvent_state, restarting]
  have items : cut.seq.state = .restarting ∧ cut.mev.level = s.mev.level ∧ cut.pls = s.pls := by
    simp only [cut]
    split <;> simp [told_state, level, told]
  simp only [sequencerAtLevel]
  rw [show (eventAtLevel s).mev.level = s.mev.level from level]
  show settle (if cut.seq.state = .restarting then
    if cut.mev.level.atLeast cut.pls.active.params.abortLevel then abortRestart cut else cut else checkShedding cut) = _
  rw [if_pos items.1, items.2.1, items.2.2]

/-- What every end of a running restart step brings, for the two states it is taken in (R145, R146). -/
theorem restartEnd_items (running : s.restartRunning s.seq.restartPointer = true) {v : State} (seq : v.seq = s.seq) (pls : v.pls = s.pls) :
    let k := s.seq.restartPointer
    let t := afterRestartDone k v
    t.seq.restartPointer = k + 1 ∧ statusAt t.seq.restartStatus k = .done ∧ t.seq.state = .restarting
      ∧ (k + 1 < s.pls.active.restartLen → k + 1 < 48 → statusAt t.seq.restartStatus (k + 1) = .running)
      ∧ (s.pls.active.restartLen ≤ k + 1 → t.seq.restartDelay = none ∧ t.seq.restartTimeout = none) := by
  obtain ⟨restarting, status⟩ := restartRunning_items running
  obtain ⟨pointer, done, state, next, ended⟩ := afterRestartDone_items (statusAt_running status) v
  rw [pls] at next ended
  exact ⟨pointer, done, state.trans (seq ▸ restarting), next, ended⟩

/-- Settles O36: the ends of a restart step, the abort and the veto stop by the passes over the points, and the start of a restart and of
its steps. -/
theorem restartStepEnds : Obligations.RestartStepEnds := by
  refine ⟨fun s running => ?ends, fun s restarting => ?level, fun s restarting => ?abort, fun s restarting => ?veto,
    fun s k => rfl, fun s p => ?point, fun s => ⟨fun none => if_neg (Nat.not_lt.mpr none.le), fun some => if_pos some⟩,
    fun s k => ⟨afterRestartDone_runs, afterRestartDone_ends⟩, fun s => ?stop, fun s p => ?turn,
    fun s inactive => ⟨enterHalted_inactive inactive, setShedding_inactive inactive⟩⟩
  case ends =>
    intro k u w
    refine ⟨fun runs => congrArg _ (if_pos ⟨runs, running⟩),
      fun runs => congrArg _ ((if_pos ⟨runs, running⟩).trans (restartTimeout_eq k s)), fun t taken => ?_⟩
    obtain ⟨seq, pls⟩ := s.restartTimedOut_frame k
    rcases taken with rfl | rfl
    · exact restartEnd_items running (by simp) (by simp)
    · exact restartEnd_items running seq pls
  case level =>
    intro told cut
    rw [sequencerAtLevel_restarting restarting]
    exact ⟨fun above => congrArg settle (if_pos (decide_eq_true above)),
      fun below => congrArg settle (if_neg (by simpa [Level.atLeast] using below))⟩
  case abort =>
    dsimp only
    have seq := abortRestart_sequencer s
    obtain ⟨depth, -, opened, pointer, -, -⟩ := stopRestartStep_rest s
    refine ⟨by rw [seq], by rw [seq]; exact depth, by rw [seq]; exact opened, by rw [seq], by rw [seq], fun k => ?_,
      by rw [seq]; exact pointer, fun running => ?_, fun p out quiet => ⟨fun waits => ?_, fun closing flies => ?_, fun await closing => ?_⟩⟩
    · rw [seq, setStatusAt_get]
      simp
    · rw [seq, stopRestartStep_running running]
      exact ⟨rfl, rfl, rfl⟩
    · rw [State.pointState, abortRestart_entry out]
      exact State.abortedPoints_cancelled quiet waits
    · obtain ⟨state, deferred, flying⟩ := State.abortedPoints_flying closing flies
      rw [State.pointState, abortRestart_entry out]
      exact ⟨state, deferred, abortRestart_flies flying⟩
    · exact (abortRestart_entry out).trans (State.abortedPoints_other await closing)
  case veto =>
    dsimp only
    obtain ⟨halts, sheds⟩ := vetoStop_sequencer s
    obtain ⟨depth, target, opened, pointer, status, shedPointer⟩ := stopRestartStep_rest s
    obtain ⟨depth', target', opened', pointer', restarts, delay, timeout⟩ := vetoStop_rest s
    refine ⟨depth'.trans depth, target'.trans target, opened'.trans opened, pointer'.trans pointer, fun running => ?_,
      fun reached => ?_, fun due => ?_, fun p out quiet => ⟨fun waits => ?_, fun await stays => ?_⟩⟩
    · rw [restarts, delay, timeout, stopRestartStep_running running]
      exact ⟨rfl, rfl, rfl⟩
    · rw [halts reached]
      exact ⟨rfl, status, shedPointer⟩
    · rw [sheds due]
      exact ⟨rfl, rfl, rfl⟩
    · rw [State.pointState, vetoStop_entry out]
      exact State.vetoedPoints_cancelled quiet waits
    · exact (vetoStop_entry out).trans (State.vetoedPoints_other await stays)
  case stop =>
    dsimp only
    have abort := abortRestart_eq s
    have veto := vetoStop_eq s
    rw [stopRestartStep, allPoints] at abort veto
    rw [State.shedCleared] at abort
    exact ⟨by rw [abort], veto⟩
  case point =>
    obtain ⟨locked, placed, stands⟩ := restartStepPoint_by_state s p
    refine ⟨locked, placed, stands, fun joins => ?_, fun apart => ?_⟩
    · exact if_pos (by simpa using joins)
    · exact if_neg (by simpa using apart)
  case turn =>
    intro gone
    exact ⟨fun closing waits => if_pos ⟨closing, waits⟩, fun stays => if_neg stays, fun closing flies => if_pos ⟨closing, flies⟩,
      fun stays => if_neg stays, fun await => if_pos await, fun stays => if_neg stays, fun _ => withdraw_waiting, withdraw_stands⟩

end Sys2Proof.Machine

namespace Sys2Proof.Machine

variable {s t u : State} {p : Fin 64} {k : Nat}

/-! ### What D, the lines and the restart do while no restart completes (R41, R115, R118, R148; O14) -/

/-- D does not fall, no line is released, no restart begins, and outside RESTARTING the restart pointer stands, under the same plan. -/
structure EventCalm (s t : State) : Prop where
  depth : s.seq.depth ≤ t.seq.depth
  lines : ∀ l : Fin 4, s.dtu.lines[l] = true → t.dtu.lines[l] = true
  restarts : t.seq.state = .restarting → s.seq.state = .restarting
  pointer : s.seq.state ≠ .restarting → t.seq.restartPointer = s.seq.restartPointer
  plan : t.pls.active = s.pls.active

/-- RESTARTING is left with the restart pointer at the end of the chain, as it is where a restart completes (R148). -/
def RestartLeft (s t : State) : Prop :=
  s.seq.state = .restarting ∧ t.seq.state ≠ .restarting ∧ t.pls.active.restartLen ≤ t.seq.restartPointer

/-- D falls and a line is released only where RESTARTING is left at the end of the chain. -/
def EventGoesOn (s t : State) : Prop := EventCalm s t ∨ RestartLeft s t

/-- Nothing happens. -/
theorem EventCalm.refl (s : State) : EventCalm s s := ⟨le_rfl, fun _ => id, id, fun _ => rfl, rfl⟩

/-- One after another. -/
theorem EventCalm.trans (first : EventCalm s t) (second : EventCalm t u) : EventCalm s u :=
  ⟨first.depth.trans second.depth, fun l held => second.lines l (first.lines l held),
    fun restarting => first.restarts (second.restarts restarting),
    fun other => (second.pointer (mt first.restarts other)).trans (first.pointer other), second.plan.trans first.plan⟩

/-- One after another: RESTARTING is left at most once. -/
theorem EventGoesOn.trans (first : EventGoesOn s t) (second : EventGoesOn t u) : EventGoesOn s u := by
  rcases first with calm | ⟨restarting, left, ended⟩ <;> rcases second with calm' | ⟨restarting', left', ended'⟩
  · exact .inl (calm.trans calm')
  · exact .inr ⟨calm.restarts restarting', left', ended'⟩
  · exact .inr ⟨restarting, mt calm'.restarts left, by rw [calm'.plan, calm'.pointer left]; exact ended⟩
  · exact absurd restarting' left

/-- The Sequencer, the lines and the plan stand. -/
theorem EventCalm.of_blocks (seq : t.seq = s.seq) (dtu : t.dtu = s.dtu) (pls : t.pls = s.pls) : EventCalm s t :=
  ⟨by rw [seq], fun l held => dtu ▸ held, fun restarting => seq ▸ restarting, fun _ => by rw [seq], by rw [pls]⟩

/-- The lines and the plan stand. -/
theorem EventCalm.of_sequencer (dtu : t.dtu = s.dtu) (pls : t.pls = s.pls) (depth : s.seq.depth ≤ t.seq.depth)
    (restarts : t.seq.state = .restarting → s.seq.state = .restarting)
    (pointer : s.seq.state ≠ .restarting → t.seq.restartPointer = s.seq.restartPointer) : EventCalm s t :=
  ⟨depth, fun l held => by rw [dtu]; exact held, restarts, pointer, by rw [pls]⟩

/-- Outside RESTARTING the event goes on calmly. -/
theorem EventGoesOn.calm (h : EventGoesOn s t) (other : s.seq.state ≠ .restarting) : EventCalm s t :=
  h.resolve_right fun left => other left.1

/-- The check of R119. -/
theorem checkShedding_calm (s : State) : EventCalm s (checkShedding s) := by
  have started {k : Nat} {r : State} (seq : r.seq = { s.seq with state := .shedding, pointer := k }) (dtu : r.dtu = s.dtu)
      (pls : r.pls = s.pls) {j : Nat} : EventCalm s (startShedStep j r) := by
    refine ⟨?_, fun l held => by simpa [dtu] using held, ?_, fun _ => ?_, by simp [pls]⟩ <;> rw [startShedStep_sequencer, seq]
    · nofun
  by_cases due : s.seq.depth < s.seq.target
  · by_cases watch : s.seq.state = .watch
    · rw [checkShedding_watch due watch, shedFromWatch_eq]
      exact started (k := 0) (by simp [State.atPointer, setShedding_seq]) (by simp [State.atPointer]) (by simp [State.atPointer])
    · by_cases halted : s.seq.state = .halted
      · rw [checkShedding_halted due halted, shedFromHalted_step]
        exact started (k := s.seq.depth) (by simp [State.atPointer, setShedding_seq]) (by simp [State.atPointer])
          (by simp [State.atPointer])
      · rw [checkShedding_elsewhere watch halted]
        exact .refl s
  · rw [checkShedding_reached (not_lt.mp due)]
    exact .refl s

/-- An event that opens with D 0 (R114). -/
theorem openEvent_calm (low : s.seq.depth = 0) : EventCalm s (openEvent s) := by
  refine ⟨by simp [low], fun l held => by simpa using held, ?_, fun _ => ?_, by simp⟩
  · simp [openEvent_sequencer, State.eventBegun, resetPeaks]
  · simp [openEvent_sequencer, State.eventBegun, resetPeaks]

/-- The event and the target at a change of level: an event opens only where none is open (R114, R116). -/
theorem eventAtLevel_calm (chains : ChainsOk s) : EventCalm s (eventAtLevel s) := by
  obtain ⟨-, steps⟩ := (chainsOk_iff s).mp chains
  unfold eventAtLevel
  split
  · exact ⟨le_rfl, fun _ => id, id, fun _ => rfl, rfl⟩
  · next closed =>
    split
    · exact .refl s
    · exact openEvent_calm (steps.low (steps.closed (by simpa using closed))).2

/-- The close of an event out of RESTARTING does not lead into it, and leaves the restart pointer and the plan (R118). -/
theorem closeEvent_restart (other : s.seq.state ≠ .restarting) : (closeEvent s).seq.state ≠ .restarting
    ∧ (closeEvent s).seq.restartPointer = s.seq.restartPointer := by
  obtain ⟨seq, -⟩ := s.shut_items
  rw [closeEvent_eq]
  split
  · rw [seq]
    exact ⟨other, rfl⟩
  · have opened : (openEvent s.shut).seq.state = s.seq.state ∧ (openEvent s.shut).seq.restartPointer = s.seq.restartPointer := by
      simp [openEvent_sequencer, State.eventBegun, resetPeaks, seq]
    have checked := checkShedding_calm (openEvent s.shut)
    have outside : (openEvent s.shut).seq.state ≠ .restarting := by rwa [opened.1]
    exact ⟨mt checked.restarts outside, (checked.pointer outside).trans opened.2⟩

/-- The completion of a restart (R148). -/
theorem completeRestart_left (complete : s.restartComplete = true) : RestartLeft s (completeRestart s) := by
  obtain ⟨restarting, ended⟩ := restartComplete_items complete
  obtain ⟨state, pointer⟩ := closeEvent_restart (s := setSequence .watch s) (by rw [setSequence_seq]; nofun)
  have plan : (completeRestart s).pls = s.pls := by simp
  unfold RestartLeft
  rw [plan, show completeRestart s = closeEvent (setSequence .watch s) by rw [completeRestart], pointer, setSequence_seq]
  exact ⟨restarting, state, ended⟩

/-- A shed step that ends (R126). -/
theorem afterShedDone_calm (shedding : s.seq.state = .shedding) : EventCalm s (afterShedDone k s) := by
  obtain ⟨dtu, pls⟩ : (afterShedDone k s).dtu = s.dtu ∧ (afterShedDone k s).pls = s.pls := by simp
  by_cases below : k + 1 < s.seq.target
  · refine .of_sequencer dtu pls ?_ ?_ fun _ => ?_ <;> rw [afterShedDone_runs below, startShedStep_sequencer]
    · exact le_max_left _ _
    · simp [State.shedDone, shedding]
    · rfl
  · refine .of_sequencer dtu pls ?_ ?_ fun _ => ?_ <;> rw [afterShedDone_halts (not_lt.mp below), enterHalted_seq]
    · exact le_max_left _ _
    · nofun
    · rfl

/-- A restart step that ends (R147). -/
theorem afterRestartDone_calm (restarting : s.seq.state = .restarting) : EventCalm s (afterRestartDone k s) := by
  obtain ⟨dtu, pls⟩ : (afterRestartDone k s).dtu = s.dtu ∧ (afterRestartDone k s).pls = s.pls := by simp
  have depth : (afterRestartDone k s).seq.depth = s.seq.depth := by
    by_cases left : k + 1 < s.pls.active.restartLen
    · rw [afterRestartDone_runs left, startRestartStep_sequencer]
      rfl
    · rw [afterRestartDone_ends (not_lt.mp left)]
      rfl
  exact .of_sequencer dtu pls depth.ge (fun _ => restarting) (fun other => absurd restarting other)

/-- A running shed step is done (R123, R124). -/
theorem shedStepDone_calm (runs : s.shedRunning k = true) : EventCalm s (shedStepDone k s) := by
  have told : EventCalm s (post (.step .shed k .done) s) := .of_blocks (by simp) (by simp) (by simp)
  exact told.trans (afterShedDone_calm (by simpa using (shedRunning_items runs).1))

/-- A running restart step is done (R145). -/
theorem restartStepDone_calm (runs : s.restartRunning k = true) : EventCalm s (restartStepDone k s) := by
  have told : EventCalm s (post (.step .restart k .done) s) := .of_blocks (by simp) (by simp) (by simp)
  exact told.trans (afterRestartDone_calm (by simpa using (restartRunning_items runs).1))

/-- An abort (R152). -/
theorem abortRestart_calm (restarting : s.seq.state = .restarting) : EventCalm s (abortRestart s) := by
  obtain ⟨dtu, pls⟩ : (abortRestart s).dtu = s.dtu ∧ (abortRestart s).pls = s.pls := by simp
  obtain ⟨depth, -⟩ := stopRestartStep_rest s
  exact .of_sequencer dtu pls (by rw [abortRestart_sequencer]; exact depth.ge) (fun _ => restarting) (fun other => absurd restarting other)

/-- A veto stop (R154). -/
theorem vetoStop_calm (restarting : s.seq.state = .restarting) : EventCalm s (vetoStop s) := by
  obtain ⟨dtu, pls⟩ : (vetoStop s).dtu = s.dtu ∧ (vetoStop s).pls = s.pls := by simp
  obtain ⟨depth, -⟩ := stopRestartStep_rest s
  obtain ⟨depth', -⟩ := vetoStop_rest s
  exact .of_sequencer dtu pls (depth'.trans depth).ge (fun _ => restarting) (fun other => absurd restarting other)

/-- The start-up decision: with an ASSERTED line it halts, and so releases none (R111). -/
theorem startupDecision_calm (low : s.seq.depth = 0) : EventCalm s (startupDecision s) := by
  by_cases taken : s.shedFound
  · have halted : EventCalm s s.haltedAtStart := by
      have opened : EventCalm s s.withEvent := by
        unfold State.withEvent
        split
        · exact .refl s
        · exact openEvent_calm low
      obtain ⟨pls, -⟩ := s.withEvent_frame
      refine ⟨by simp [low], fun l held => ?_, fun restarting => ?_, fun other => ?_, ?_⟩
      · simpa [State.haltedAtStart, State.allShed] using opened.lines l held
      · rw [State.haltedAtStart, enterHalted_seq] at restarting
        cases restarting
      · rw [State.haltedAtStart, enterHalted_seq]
        exact opened.pointer other
      · rw [s.haltedAtStart_plant.1]
    rw [startupDecision_halts taken]
    exact halted.trans (.of_blocks (by simp) (by simp) (by simp))
  · have watch : EventCalm s (setSequence .watch s) := by
      refine ⟨?_, fun l held => by simpa using held, ?_, fun _ => ?_, by simp⟩ <;> rw [setSequence_seq]
      nofun
    rw [startupDecision_eq, if_neg (mt s.shedFound_iff.mp taken)]
    split
    · next due =>
      rw [← checkShedding_watch due (by rw [setSequence_seq])]
      exact watch.trans (checkShedding_calm _)
    · split
      · obtain ⟨state, pointer⟩ := closeEvent_restart (s := setSequence .watch s) (by rw [setSequence_seq]; nofun)
        refine ⟨by simp [low], fun l held => absurd (.inr ⟨l, held⟩) taken, fun restarting => absurd restarting state,
          fun other => pointer.trans (watch.pointer other), by simp⟩
      · exact watch

end Sys2Proof.Machine

namespace Sys2Proof.Machine

/-! ### What the ground side does to the event: it votes, and it clears quiet time (R5 to R35; O14) -/

/-- What a property of `GroundInvariant` reads: the six blocks, the lines, the device level and quiet time. -/
def State.ground (s : State) : (Pls × Ptm × Seq × Ctk × Flc × Iml) × Dtu × Level × Nat := (s.units, s.dtu, s.mev.level, s.mev.quiet)

/-- A property that the vote and a clearing of quiet time keep: each other stroke of the ground side leaves what it reads. -/
structure GroundInvariant (P : State → Prop) : Prop where
  same {s t : State} : t.ground = s.ground → P s → P t
  clearQuiet {s : State} : P s → P (clearQuiet s)
  recompute {s : State} : P s → P (recompute s)

namespace GroundInvariant

variable {P : State → Prop} {s : State}

/-- A channel's items change. -/
theorem modChannel (I : GroundInvariant P) (i : Fin 6) (f : Channel → Channel) (h : P s) : P (s.modChannel i f) := I.same (s := s) rfl h

/-- An evaluation record's items change. -/
theorem modEval (I : GroundInvariant P) (i : Fin 6) (f : StationEval → StationEval) (h : P s) : P (s.modEval i f) :=
  I.same (s := s) rfl h

/-- A change of a channel's health (R14, R15, R33, R34). -/
theorem setHealth_keeps (I : GroundInvariant P) (i : Fin 6) (new : Health) (h : P s) : P (setHealth i new s) := by
  have edge {t : State} (before : Nat) (h : P t) : P (healthyCountEdge before t) := by
    unfold healthyCountEdge
    dsimp only
    split
    · split
      · exact I.same (s := t) rfl h
      · exact I.same (s := t) rfl h
    · split
      · exact I.clearQuiet (I.same (s := t) rfl h)
      · exact h
  unfold setHealth
  dsimp only
  rw [healthChange_eq]
  exact I.recompute (edge _ (I.same (s := s) (by simp [State.ground, State.units]) h))

/-- The vote after a change of a station's level (R30). -/
theorem revote_keeps (I : GroundInvariant P) (i : Fin 6) (old : Level) (h : P s) : P (revote i old s) := by
  unfold revote
  split
  · exact I.recompute h
  · exact h

/-- An arrival at a station (R21 to R30). -/
theorem enterArrival_keeps (I : GroundInvariant P) (i : Fin 6) (v : Nat) (h : P s) : P (enterArrival i v s) :=
  I.revote_keeps i _ (I.same (s := s) (by simp [State.ground, State.units]) h)

/-- The settle count after an arrival (R11). -/
theorem settleArrival_keeps (I : GroundInvariant P) (i : Fin 6) (h : P s) : P (settleArrival i s) := by
  unfold settleArrival
  dsimp only
  split
  · split
    · exact I.setHealth_keeps i .healthy (I.modChannel i _ h)
    · exact I.modChannel i _ h
  · exact h

/-- Fillers (R8). -/
theorem takeFillers_keeps (I : GroundInvariant P) (i : Fin 6) (n : Nat) (h : P s) : P (takeFillers i n s) := by
  induction n generalizing s with
  | zero => exact h
  | succ n ih => exact ih (I.settleArrival_keeps i (I.enterArrival_keeps i _ h))

/-- A sample (R14, R19, R20). -/
theorem takeSample_keeps (I : GroundInvariant P) (i : Fin 6) (a : Sample) (h : P s) : P (takeSample i a s) := by
  rw [takeSample_eq]
  exact I.settleArrival_keeps i (I.modEval i _ (I.enterArrival_keeps i _ (I.modChannel i _ h)))

/-- A sample that starts a new window (R9, R10). -/
theorem newWindow_keeps (I : GroundInvariant P) (i : Fin 6) (seq : Byte) (a : Sample) (h : P s) : P (newWindow i seq a s) := by
  have cleared : P (clearWindow i s) := I.revote_keeps i _ (I.modEval i _ h)
  have started := I.takeSample_keeps i a (I.modChannel i (fun c => { c with settle := 0 }) cleared)
  exact I.modChannel i (fun c => { c with lastSeq := some seq }) started

/-- A resettling (R9). -/
theorem resettle_keeps (I : GroundInvariant P) (i : Fin 6) (seq : Byte) (a : Sample) (h : P s) : P (resettle i seq a s) := by
  rw [resettle_eq]
  refine I.newWindow_keeps i seq a ?_
  split
  · exact I.setHealth_keeps i .settling (I.modChannel i _ h)
  · exact I.modChannel i _ h

/-- A valid frame of a SETTLING or HEALTHY station (R6 to R9). -/
theorem continueWindow_keeps (I : GroundInvariant P) (i : Fin 6) (seq : Byte) (a : Sample) (h : P s) : P (continueWindow i seq a s) := by
  unfold continueWindow
  split
  · exact I.resettle_keeps i seq a h
  · split
    · exact I.modChannel i _ h
    · dsimp only
      split
      · exact I.resettle_keeps i seq a h
      · exact I.modChannel i _ (I.takeSample_keeps i a (I.takeFillers_keeps i _ (I.modChannel i _ h)))

/-- A valid frame, by the health state (R5). -/
theorem validFrame_keeps (I : GroundInvariant P) (i : Fin 6) (seq : Byte) (a : Sample) (h : P s) : P (validFrame i seq a s) := by
  have restarted := I.modChannel i (fun c => { c with gap := some 200 }) h
  unfold validFrame
  dsimp only
  split
  case h_5 => exact restarted
  · exact I.newWindow_keeps i seq a (I.setHealth_keeps i .settling restarted)
  · exact I.newWindow_keeps i seq a (I.setHealth_keeps i .settling restarted)
  · exact I.continueWindow_keeps i seq a restarted
  · exact I.continueWindow_keeps i seq a restarted

/-- A byte at a sensor port (R1, R2). -/
theorem sensorByte_keeps (I : GroundInvariant P) (i : Fin 6) (b : LineByte) (h : P s) : P (sensorByte i s b) := by
  have checked {t : State} (bytes : List Byte) (bad : Bool) (h : P t) : P (checkFrame i bytes bad t) := by
    have counted : P (countCheckError i t) := I.same (s := t) (by simp [State.ground, State.units]) h
    unfold checkFrame
    (repeat' split)
    · exact counted
    · exact counted
    · exact I.modChannel i _ h
    · exact I.modChannel i _ h
    · exact I.validFrame_keeps i _ _ h
    · exact h
  by_cases disabled : s.siu[i].health = .disabled
  · unfold sensorByte
    rwa [if_pos disabled]
  · rw [sensorByte_enabled disabled]
    split
    · exact I.modChannel i _ h
    · exact checked _ _ (I.modChannel i _ h)

/-- Bytes at a sensor port (R1). -/
theorem sensorBytes_keeps (I : GroundInvariant P) (i : Fin 6) (bytes : List LineByte) (h : P s) : P (bytes.foldl (sensorByte i) s) :=
  List.foldlRecOn bytes (sensorByte i) h (fun _ kept b _ => I.sensorByte_keeps i b kept)

/-- The expiry of a gap timer (R12). -/
theorem gapExpiry_keeps (I : GroundInvariant P) (i : Fin 6) (h : P s) : P (gapExpiry i s) := by
  have lost := I.setHealth_keeps i .lost (I.modChannel i (fun c => { c with gap := none }) h)
  unfold gapExpiry
  dsimp only
  (repeat' split)
  · exact I.same (by simp [State.ground, State.units]) lost
  · exact lost
  · exact h

/-- A station at the end of the load (R4). -/
theorem enableStation_keeps (I : GroundInvariant P) (i : Fin 6) (h : P s) : P (enableStation s i) := by
  unfold enableStation
  split
  · exact I.setHealth_keeps i .offline (I.modChannel i _ h)
  · exact h

/-- A channel at a commit (R16). -/
theorem commitStation_keeps (I : GroundInvariant P) (old : Plan) (i : Fin 6) (h : P s) : P (commitStation old s i) := by
  unfold commitStation
  split
  · exact I.setHealth_keeps i .offline (I.modChannel i _ h)
  · exact I.setHealth_keeps i .disabled (I.modChannel i _ h)
  · exact h
  · exact h

end GroundInvariant

variable {s t u : State}

/-! ### What follows of itself, and a change of level (R31, R116; log 7) -/

/-- What follows of itself (log 7). -/
theorem settle_goesOn (s : State) : EventGoesOn s (settle s) := by
  unfold settle
  refine settleFor_keeps (EventGoesOn s) (fun t t' kept follows => kept.trans ?_) settleFuel s (.inl (.refl s))
  rcases settleOnce_guards follows with ⟨runs, next⟩ | ⟨runs, next⟩ | ⟨complete, next⟩ | ⟨p, -, next⟩ <;> rw [next]
  · exact .inl (shedStepDone_calm runs)
  · exact .inl (restartStepDone_calm runs)
  · exact .inr (completeRestart_left complete)
  · exact .inl (.of_blocks (by simp) (by simp) (by simp))

/-- The Sequencer at a change of level (R114, R116, R119, R152). -/
theorem sequencerAtLevel_goesOn (chains : ChainsOk s) : EventGoesOn s (sequencerAtLevel s) := by
  have decided (t : State) : EventCalm t (if t.seq.state = .restarting then
      if t.mev.level.atLeast t.pls.active.params.abortLevel then abortRestart t else t else checkShedding t) := by
    split
    · next restarting =>
      split
      · exact abortRestart_calm restarting
      · exact .refl t
    · exact checkShedding_calm t
  have told := eventAtLevel_calm chains
  have cut : EventCalm s (if (eventAtLevel s).mev.level = .severe then allPoints.foldl cutGrace (eventAtLevel s) else eventAtLevel s) := by
    split
    · exact told.trans (.of_blocks (by simp) (by simp) (by simp))
    · exact told
  exact EventGoesOn.trans (.inl (cut.trans (decided _))) (settle_goesOn _)

/-- The lines compared with the level: none is released (R40). -/
theorem assertLines_calm (s : State) : EventCalm s (assertLines s) :=
  ⟨by simp, fun l held => by rw [assertLines_line, held]; rfl, by simp, by simp, by simp⟩

/-- What is held of the event since a state: the chains stay in step, and D and the lines go on. -/
structure EventHeld (start u : State) : Prop where
  chains : ChainsOk u
  goesOn : EventGoesOn start u

/-- The control blocks and the lines stand. -/
theorem EventCalm.of_control (control : t.control = s.control) (dtu : t.dtu = s.dtu) : EventCalm s t := by
  simp only [State.control, Prod.mk.injEq] at control
  obtain ⟨plan, seq, -⟩ := control
  have state : t.seq.state = s.seq.state := (congrArg Seq.state seq :)
  exact ⟨(congrArg Seq.depth seq :).ge, fun l held => by rw [dtu]; exact held, fun restarting => by rw [← state]; exact restarting,
    fun _ => (congrArg Seq.restartPointer seq :), plan⟩

namespace EventHeld

variable {start : State}

/-- Nothing has happened yet. -/
theorem refl (chains : ChainsOk s) : EventHeld s s := ⟨chains, .inl (.refl s)⟩

/-- What happens next. -/
theorem next (h : EventHeld start s) (chains : ChainsOk t) (goes : EventGoesOn s t) : EventHeld start t := ⟨chains, h.goesOn.trans goes⟩

/-- The control blocks and the lines stand. -/
theorem same (h : EventHeld start s) (control : t.control = s.control) (dtu : t.dtu = s.dtu) : EventHeld start t :=
  h.next (chains_control.same control h.chains) (.inl (.of_control control dtu))

/-- The blocks that the chains rest on, and the lines, stand. -/
theorem blocks (h : EventHeld start s) (pls : t.pls = s.pls) (seq : t.seq = s.seq) (ctk : t.ctk = s.ctk) (iml : t.iml = s.iml)
    (dtu : t.dtu = s.dtu) : EventHeld start t :=
  h.same (control_of_blocks pls seq ctk iml) dtu

/-- What follows of itself (log 7). -/
theorem settle (h : EventHeld start s) : EventHeld start (settle s) := h.next (chains_control.settle_keeps h.chains) (settle_goesOn s)

/-- Quiet time cleared (R34, R35). -/
theorem clearQuiet (h : EventHeld start s) : EventHeld start (clearQuiet s) :=
  h.next (chains_control.level.clearQuiet_keeps h.chains) (.inl (.of_blocks (by simp) (by simp) (by simp)))

/-- A change of level (R31). -/
theorem changeLevel (new : Level) (h : EventHeld start s) : EventHeld start (changeLevel new s) := by
  obtain ⟨u, same, dtu, eq⟩ : ∃ u, u.control = s.control ∧ u.dtu = s.dtu ∧ Machine.changeLevel new s
      = noPlanTrip (sequencerAtLevel (assertLines (if new = .quiet then u else Machine.clearQuiet u))) :=
    ⟨_, control_of_blocks (by simp) (by simp) (by simp) (by simp), by simp, changeLevel_eq new s⟩
  have told : EventHeld start u := h.same same dtu
  have cleared : EventHeld start (if new = .quiet then u else Machine.clearQuiet u) := by
    split
    · exact told
    · exact told.clearQuiet
  have asserted := cleared.next (t := assertLines (if new = .quiet then u else Machine.clearQuiet u))
    (chains_control.same (control_of_blocks (by simp) (by simp) (by simp) (by simp)) cleared.chains) (.inl (assertLines_calm _))
  have told := asserted.next (chains_control.level.atLevel asserted.chains) (sequencerAtLevel_goesOn asserted.chains)
  rw [eq]
  exact told.blocks (by simp) (by simp) (by simp) (by simp) (by simp)

/-- The ground side goes on with the event. -/
theorem ground (start : State) : GroundInvariant (EventHeld start) where
  same {s t} same h := by
    simp only [State.ground, State.units, Prod.mk.injEq] at same
    obtain ⟨⟨pls, -, seq, ctk, -, iml⟩, dtu, -⟩ := same
    exact h.blocks pls seq ctk iml dtu
  clearQuiet := clearQuiet
  recompute {s} h := by
    unfold Machine.recompute
    (repeat' split)
    · exact h
    · exact h
    · exact h.changeLevel _

/-- The end of a poll round (R111). -/
theorem checkRound (h : EventHeld start s) : EventHeld start (checkRound s) := by
  refine h.next (chains_control.checkRound_keeps h.chains) (.inl ?_)
  unfold Machine.checkRound
  split
  · next due =>
    obtain ⟨-, steps⟩ := (chainsOk_iff s).mp h.chains
    exact startupDecision_calm (steps.low (.inl due.1)).2
  · exact .refl s

/-- The start-up poll round begins (R103). -/
theorem beginRound (h : EventHeld start s) : EventHeld start (beginRound s) :=
  (h.blocks (t := pollConfigured { s with flc.marks := Vector.ofFn (fun st => s.pls.active.configured st) })
    (by simp) (by simp) (by simp) (by simp) (by simp)).checkRound.settle

/-! #### The field loop -/

/-- The resolution of an order (R68, R97, R98). -/
theorem resolve (h : EventHeld start s) (f : InFlight) (st : Fin 16) (r : Result) (outs : Option (Vector OutputStatus 4)) :
    EventHeld start (resolve f st r outs s) := by
  have taken := h.same (ControlInvariant.takeResolution_control f st r outs s) (by simp [State.released])
  rw [resolve_eq]
  generalize takeResolution f st r outs (s.released f.order) = t at taken
  have polled : EventHeld start (pollResolved f.order t) := by
    unfold pollResolved
    split
    · refine EventHeld.checkRound ?_
      exact taken.same rfl rfl
    all_goals exact taken
  exact polled.settle.blocks (by simp) (by simp) (by simp) (by simp) (by simp)

/-- A byte on the loop (R95 to R97). -/
theorem loopByte (h : EventHeld start s) (b : LineByte) : EventHeld start (loopByte s b) := by
  have matched {t : State} (h : EventHeld start t) (f : InFlight) (st : Fin 16) (r : Result) (outs : Vector OutputStatus 4) :
      EventHeld start (matchingReply f st r outs t) := by
    unfold matchingReply
    refine EventHeld.resolve ?_ f st r _
    exact h.blocks (by simp) (by simp) (by simp) (by simp) (by simp)
  have framed {t : State} (h : EventHeld start t) (bytes : List Byte) (bad : Bool) : EventHeld start (loopFrame bytes bad t) := by
    have counted : EventHeld start (countLoopError t) := h.same rfl rfl
    have stale : EventHeld start (countStale t) := h.same rfl rfl
    unfold loopFrame replyFrameTaken
    (repeat' split)
    · exact counted
    · exact stale
    · exact matched h _ _ _ _
    · exact stale
    · exact stale
    · exact counted
    · exact counted
  unfold Machine.loopByte
  split
  · dsimp only
    split
    · exact h.same rfl rfl
    · refine framed ?_ _ _
      exact h.same rfl rfl
  · exact h

/-- Bytes on the loop (R95). -/
theorem loopBytes (h : EventHeld start s) (bytes : List LineByte) : EventHeld start (bytes.foldl Machine.loopByte s) :=
  List.foldlRecOn bytes Machine.loopByte h (fun _ kept b _ => kept.loopByte b)

/-- The reply timer runs out (R98). -/
theorem replyTimeout (h : EventHeld start s) : EventHeld start (replyTimeout s) := by
  have after {t : State} (h : EventHeld start t) (f : InFlight) (st : Fin 16) : EventHeld start (afterTimeout f st t) := by
    unfold afterTimeout
    split
    · exact h.same rfl rfl
    · exact (h.same (t := { t with flc.inFlight := some { f with timer := none } }) rfl rfl).resolve f st _ _
  unfold Machine.replyTimeout
  split
  · exact h
  · split
    · exact after (h.blocks (by simp) (by simp) (by simp) (by simp) (by simp)) _ _
    · exact h

end EventHeld

end Sys2Proof.Machine

namespace Sys2Proof.Machine

variable {s t u : State} {c : Instr}

/-! ### What the timers and the loads do to the event (R72 to R73, R111, R117, R124 to R125, R135, R145 to R146, R185; O14) -/

/-- A command that runs where a test of the state passes. -/
theorem EventGoesOn.of_guarded {p : Prop} [Decidable p] (runs : p → EventGoesOn s t) : EventGoesOn s (if p then t else s) := by
  split
  · next due => exact runs due
  · exact .inl (.refl s)

/-- The Sequencer, the lines and the plan stand, and then what follows of itself (log 7). -/
theorem settle_of_blocks (seq : t.seq = s.seq) (dtu : t.dtu = s.dtu) (pls : t.pls = s.pls) : EventGoesOn s (settle t) :=
  EventGoesOn.trans (.inl (.of_blocks seq dtu pls)) (settle_goesOn t)

/-- A settle timer that runs out (R73). -/
theorem settleExpiry_goesOn (p : Fin 64) (s : State) : EventGoesOn s (settleExpiry p s) :=
  .of_guarded fun _ => settle_of_blocks (by simp) (by simp) (by simp)

/-- A shed step that times out (R125). -/
theorem shedTimeout_goesOn (runs : s.shedRunning s.seq.pointer = true) : EventGoesOn s (shedTimeout s.seq.pointer s) := by
  have seq := s.shedTimedOut_seq s.seq.pointer
  have told : EventCalm s (s.shedTimedOut s.seq.pointer) :=
    .of_blocks seq (by simp [State.shedTimedOut]) (by simp [State.shedTimedOut])
  have done := told.trans (afterShedDone_calm (k := s.seq.pointer) (by rw [seq]; exact (shedRunning_items runs).1))
  rw [shedTimeout_eq]
  exact EventGoesOn.trans (.inl done) (settle_goesOn _)

/-- A restart step that times out (R146). -/
theorem restartTimeout_goesOn (runs : s.restartRunning s.seq.restartPointer = true) :
    EventGoesOn s (restartTimeout s.seq.restartPointer s) := by
  obtain ⟨seq, pls⟩ := s.restartTimedOut_frame s.seq.restartPointer
  have told : EventCalm s (s.restartTimedOut s.seq.restartPointer) := .of_blocks seq (by simp [State.restartTimedOut]) pls
  have done := told.trans (afterRestartDone_calm (k := s.seq.restartPointer) (by rw [seq]; exact (restartRunning_items runs).1))
  rw [restartTimeout_eq]
  exact EventGoesOn.trans (.inl done) (settle_goesOn _)

/-- A port reset (R158). -/
theorem portReset_calm (p : Fin 3) (s : State) : EventCalm s (portReset p s) := by
  have dtu : (portReset p s).dtu = s.dtu := by
    simp only [portReset, dropClaim]
    split <;> simp
  have plan : (portReset p s).pls.active = s.pls.active := by
    rcases portReset_plans p s with pls | pls <;> rw [pls]
  have seq : (portReset p s).seq = s.seq := by simp
  exact ⟨by rw [seq], fun l held => by rw [dtu]; exact held, fun restarting => seq ▸ restarting, fun _ => by rw [seq], plan⟩

namespace EventHeld

variable {start : State}

/-- The hand-overs at the end of a load (R186). -/
theorem loadHandOver (h : EventHeld start s) : EventHeld start (loadHandOver s) := by
  have stations := List.foldlRecOn (List.finRange 6) enableStation h
    (fun _ kept i _ => (EventHeld.ground start).enableStation_keeps i kept)
  unfold Machine.loadHandOver
  exact stations.blocks (by simp) (by simp) (by simp) (by simp) (by simp)

end EventHeld

/-- D does not fall and no line is released. -/
def EventStands (s t : State) : Prop := s.seq.depth ≤ t.seq.depth ∧ ∀ l : Fin 4, s.dtu.lines[l] = true → t.dtu.lines[l] = true

/-- What goes on calmly stands. -/
theorem EventCalm.stands (h : EventCalm s t) : EventStands s t := ⟨h.depth, h.lines⟩

/-- One after another. -/
theorem EventStands.trans (first : EventStands s t) (second : EventStands t u) : EventStands s u :=
  ⟨first.1.trans second.1, fun l held => second.2 l (first.2 l held)⟩

/-- D and the lines stand. -/
theorem EventStands.of_same (depth : t.seq.depth = s.seq.depth) (dtu : t.dtu = s.dtu) : EventStands s t :=
  ⟨depth.ge, fun l held => by rw [dtu]; exact held⟩

/-- The hand-overs at the end of a load (R186). -/
theorem loadHandOver_stands (chains : ChainsOk s) (startup : s.seq.state = .startup) : EventStands s (loadHandOver s) :=
  ((EventHeld.refl chains).loadHandOver.goesOn.calm (by simp [startup])).stands

/-- The hand-overs and the poll round at the end of a load (R103, R186). -/
theorem pollRound_stands (chains : ChainsOk s) (startup : s.seq.state = .startup) :
    EventStands s (beginRound (loadHandOver s)) :=
  ((EventHeld.refl chains).loadHandOver.beginRound.goesOn.calm (by simp [startup])).stands

/-- A load that succeeds (R185). -/
theorem loadSucceeds_stands {pl : Plan} (valid : pl.validate = none) (loading : s.iml.link = .loading) (chains : ChainsOk s) :
    EventStands s (loadSucceeds pl s) := by
  have startup : s.seq.state = .startup := (chains.1 loading).1
  have loaded := chains_control.loaded pl valid loading chains
  unfold loadSucceeds
  dsimp only
  refine EventStands.trans ?_ (pollRound_stands (chains_control.same ?_ loaded) (by simp [startup]))
  · exact .of_same (by simp) (by simp)
  · exact control_of_blocks (by simp) (by simp) (by simp) (by simp)

/-- A load that fails (R112, R185). -/
theorem loadFails_stands (reason : LoadReason) (loading : s.iml.link = .loading) (chains : ChainsOk s) :
    EventStands s (loadFails reason s) := by
  have startup : s.seq.state = .startup := (chains.1 loading).1
  have idle : ChainsOk { s with iml.link := .idle } := chains_control.link { s.iml with link := .idle } nofun chains
  unfold loadFails
  dsimp only
  refine EventStands.trans (t := loadRecords .loadFailed reason { s with iml.link := .idle }) (.of_same (by simp) (by simp)) ?_
  have kept : ChainsOk (loadRecords .loadFailed reason { s with iml.link := .idle }) :=
    chains_control.same (control_of_blocks (by simp) (by simp) (by simp) (by simp)) idle
  refine (loadHandOver_stands kept (by simp [startup])).trans ?_
  generalize loadHandOver (loadRecords .loadFailed reason { s with iml.link := .idle }) = handed
  exact .of_same (by simp [setSequence_seq]) (by simp)

/-- The end of a load (R184 to R186). -/
theorem imageLoadEnd_stands (chains : ChainsOk s) (image : List Byte) : EventStands s (imageLoadEnd image s) := by
  unfold imageLoadEnd
  split
  · next loading =>
    split
    · next pl read => exact loadSucceeds_stands (loadImage_valid read) loading chains
    · exact loadFails_stands _ loading chains
  · exact .of_same rfl rfl

/-- Quiet reached has closed the open event: in the first state an event is open in WATCH or NO_PLAN with D 0; in the second the level
is QUIET, no event is open, and every line is released (R36, R117). -/
def ShutAtQuiet (s t : State) : Prop :=
  s.seq.eventOpen = true ∧ s.seq.depth = 0 ∧ (s.seq.state = .watch ∨ s.seq.state = .noPlan)
    ∧ t.mev.level = .quiet ∧ t.seq.eventOpen = false ∧ t.seq.depth = 0 ∧ t.seq.target = 0
    ∧ (∀ l : Fin 4, t.dtu.lines[l] = false) ∧ t.flc.tripSent = false

/-- The quiet rule (R117). -/
theorem quietRule_shuts (s : State) : quietRule s = s ∨ ShutAtQuiet s (quietRule s) := by
  unfold quietRule
  split
  · next due =>
    obtain ⟨state, opened, low, quiet⟩ := due
    obtain ⟨seq, flc, mev, -⟩ := s.shut_items
    rw [closeEvent_of_quiet quiet]
    refine .inr ⟨opened, low, state, by rw [mev]; exact quiet, ?_, ?_, ?_, fun l => s.shut_line l, by rw [flc]⟩ <;> rw [seq]
  · exact .inl rfl

/-- What the shut reads of the first state stands. -/
theorem ShutAtQuiet.from_seq (h : ShutAtQuiet u t) (seq : u.seq = s.seq) : ShutAtQuiet s t := by
  unfold ShutAtQuiet at *
  rwa [seq] at h

/-- What the shut reads of the second state stands. -/
theorem ShutAtQuiet.to_blocks (h : ShutAtQuiet s t) (mev : u.mev.level = t.mev.level) (seq : u.seq = t.seq) (dtu : u.dtu = t.dtu)
    (flc : u.flc.tripSent = t.flc.tripSent) : ShutAtQuiet s u := by
  unfold ShutAtQuiet at *
  rwa [mev, seq, dtu, flc]

/-- QUIET_REACHED (R35, R36, R117, R132). -/
theorem quietReached_shuts (ran : exec .quietReached s = .next t) : EventStands s t ∨ ShutAtQuiet s t := by
  cases ran
  split
  · rcases quietRule_shuts { s with mev.quiet := max s.mev.quiet s.pls.active.quietMs, mev.quietHanded := true } with stands | shuts
    · exact .inl (.of_same (by simp [stands]) (by simp [stands]))
    · exact .inr ((shuts.from_seq rfl).to_blocks (by simp) (by simp) (by simp) (by simp))
  · exact .inl (.of_same rfl rfl)

/-- The commands that bring no request, reset nothing and are not QUIET_REACHED. -/
theorem exec_stands_or_goesOn (chains : ChainsOk s) (ran : exec c s = .next t) (unasked : c.request = none)
    (plain : c.bringsAnyRequest = false) (cold : c ≠ .coldReset) (warm : c ≠ .warmReset) (quiet : c ≠ .quietReached) :
    EventStands s t ∨ EventGoesOn s t := by
  cases c with
  | status | ident | stationDetail | pointDetail | sequenceDetail | journalRead | noticeMask | claim | release | planWrite | planRead
  | commit | save | consent | veto | vetoClear | faultClear | manualShed | manualRestore | requestWhileBusy | unknownRequest =>
    nomatch unasked
  | requestFrameInvalid | requestIdleAbandon => nomatch plain
  | coldReset => exact absurd rfl cold
  | warmReset => exact absurd rfl warm
  | quietReached => exact absurd rfl quiet
  | imageLoadEnd image => cases ran; exact .inl (imageLoadEnd_stands chains image)
  | saveEnd =>
    cases ran
    refine .inl (.of_same ?_ ?_) <;> (repeat' split) <;> simp
  | sensorFrame i bytes => cases ran; exact .inr ((EventHeld.ground s).sensorBytes_keeps i bytes (.refl chains)).goesOn
  | sensorIdleAbandon i b =>
    cases ran
    split
    · exact .inr (.inl (.refl s))
    · have abandoned : EventHeld s (abandonFrame i s) :=
        (EventHeld.refl chains).blocks (by simp) (by simp) (by simp) (by simp) (by simp)
      exact .inr ((EventHeld.ground s).sensorBytes_keeps i _ abandoned).goesOn
  | gapTimerExpiry i => cases ran; exact .inr ((EventHeld.ground s).gapExpiry_keeps i (.refl chains)).goesOn
  | loopReplyFrame bytes => cases ran; exact .inr ((EventHeld.refl chains).loopBytes bytes).goesOn
  | loopIdleAbandon b =>
    cases ran
    have abandoned : EventHeld s (abandonReply s) := (EventHeld.refl chains).blocks (by simp) (by simp) (by simp) (by simp) (by simp)
    exact .inr (abandoned.loopBytes _).goesOn
  | replyTimeout => cases ran; exact .inr (EventHeld.refl chains).replyTimeout.goesOn
  | blindTimerExpiry => cases ran; exact .inr (.of_guarded fun _ => .inl (.of_blocks (by simp) (by simp) (by simp)))
  | orderFrameEnd | tripAllFrameEnd => cases ran; exact .inr (.inl (.of_blocks (by simp) (by simp) (by simp)))
  | graceTimerExpiry | replySent => cases ran; exact .inr (.inl (.of_blocks (by simp) (by simp) (by simp)))
  | pollTimerExpiry => cases ran; exact .inr (.of_guarded fun _ => .inl (.of_blocks (by simp) (by simp) (by simp)))
  | restoreSpacingExpiry => cases ran; exact .inr (.of_guarded fun _ => settle_of_blocks rfl rfl rfl)
  | settleTimerExpiry p => cases ran; exact .inr (settleExpiry_goesOn p s)
  | shedDelayExpiry => cases ran; exact .inr (.of_guarded fun due => EventGoesOn.trans (.inl (shedStepDone_calm due.2)) (settle_goesOn _))
  | shedStepTimeout => cases ran; exact .inr (.of_guarded fun due => shedTimeout_goesOn due.2)
  | restartDelayExpiry => cases ran; exact .inr (.of_guarded fun due => EventGoesOn.trans (.inl (restartStepDone_calm due.2)) (settle_goesOn _))
  | restartStepTimeout => cases ran; exact .inr (.of_guarded fun due => restartTimeout_goesOn due.2)
  | consentWindowExpiry => cases ran; exact .inr (.of_guarded fun _ => .inl (.of_blocks (by simp) (by simp) (by simp)))
  | linkTimeout p => cases ran; exact .inr (.of_guarded fun _ => .inl (portReset_calm p s))

end Sys2Proof.Machine

namespace Sys2Proof.Machine

variable {s t u : State}

/-! ### What leaves quiet time, and what leaves the TRIP_ALL flag (R34, R41; O14) -/

/-- The opening of an event leaves quiet time. -/
@[simp] theorem openEvent_quiet (s : State) : (openEvent s).mev.quiet = s.mev.quiet := by
  simp [openEvent, resetPeaks]

/-- The close of an event leaves quiet time. -/
@[simp] theorem closeEvent_quiet (s : State) : (closeEvent s).mev.quiet = s.mev.quiet := by
  simp only [closeEvent]
  split <;> simp

/-- What follows of itself leaves quiet time. -/
@[simp] theorem settle_quiet (s : State) : (settle s).mev.quiet = s.mev.quiet := by
  refine settleFor_keeps (fun t => t.mev.quiet = s.mev.quiet) (fun t t' kept follows => ?_) settleFuel s rfl
  rcases settleOnce_cases follows with next | next | next | ⟨p, next⟩ <;> simpa [next, completeRestart] using kept

/-- The Sequencer at a change of level leaves quiet time. -/
@[simp] theorem sequencerAtLevel_quiet (s : State) : (sequencerAtLevel s).mev.quiet = s.mev.quiet := by
  simp only [sequencerAtLevel, eventAtLevel]
  (repeat' split) <;> simp

/-- Quiet time is 0 after it is cleared (R34). -/
@[simp] theorem clearQuiet_quiet (s : State) : (clearQuiet s).mev.quiet = 0 := by
  simp only [clearQuiet]
  split <;> simp

/-- A change of level to QUIET leaves quiet time, and any other clears it (R31). -/
theorem changeLevel_quiet (new : Level) (s : State) :
    (changeLevel new s).mev.quiet = if new = .quiet then s.mev.quiet else 0 := by
  simp only [changeLevel]
  (repeat' split) <;> simp

/-- Either quiet time is 0, or the level is QUIET and the Sequencer stands. -/
def QuietStands (q : Seq) (s : State) : Prop := s.mev.quiet = 0 ∨ (s.mev.level = .quiet ∧ s.seq = q)

/-- The ground side changes the Sequencer only where it clears quiet time (R31, R34). -/
theorem quietStands_ground (q : Seq) : GroundInvariant (QuietStands q) where
  same {s t} same h := by
    simp only [State.ground, State.units, Prod.mk.injEq] at same
    obtain ⟨⟨-, -, seq, -, -, -⟩, -, level, quiet⟩ := same
    unfold QuietStands
    rwa [seq, level, quiet]
  clearQuiet _ := .inl (clearQuiet_quiet _)
  recompute {s} h := by
    have changed {new : Level} (moved : new ≠ s.mev.level) : QuietStands q (changeLevel new s) := by
      rcases h with zero | ⟨quiet, -⟩
      · refine .inl ?_
        rw [changeLevel_quiet, zero, ite_self]
      · exact .inl ((changeLevel_quiet new s).trans (if_neg (quiet ▸ moved)))
    unfold recompute
    split
    · exact h
    · split
      · exact h
      · next moved => exact changed moved

/-- The choice of the loop leaves the TRIP_ALL flag. -/
@[simp] theorem choose_tripSent (s : State) : (choose s).flc.tripSent = s.flc.tripSent := by
  have left (o : Order) : (s.flc.leaveSlot o).tripSent = s.flc.tripSent := by cases o <;> rfl
  simp only [choose, Flc.choose]
  split
  · rfl
  · split
    · rfl
    · exact left _

/-- A motion order posted leaves the TRIP_ALL flag. -/
@[simp] theorem placeMotion_tripSent (k : MotionKind) (p : Fin 64) (s : State) :
    (placeMotion k p s).flc.tripSent = s.flc.tripSent := by
  unfold placeMotion
  split <;> simp

/-- A point moved leaves the TRIP_ALL flag. -/
@[simp] theorem movePoint_tripSent (p : Fin 64) (new : PointState) (c : Cause) (s : State) :
    (movePoint p new c s).flc.tripSent = s.flc.tripSent := by
  unfold movePoint settleLamp
  dsimp only
  split <;> simp [postLamp]

/-- In WATCH what follows of itself is the gate alone: the Sequencer, the Motion Evaluator, the lines and the TRIP_ALL flag stand (R150). -/
theorem settle_of_watch (watch : s.seq.state = .watch) :
    (settle s).seq = s.seq ∧ (settle s).mev = s.mev ∧ (settle s).dtu = s.dtu ∧ (settle s).flc.tripSent = s.flc.tripSent := by
  refine settleFor_keeps (fun t => t.seq = s.seq ∧ t.mev = s.mev ∧ t.dtu = s.dtu ∧ t.flc.tripSent = s.flc.tripSent)
    (fun t t' kept follows => ?_) settleFuel s ⟨rfl, rfl, rfl, rfl⟩
  obtain ⟨seq, mev, dtu, trip⟩ := kept
  have here : t.seq.state = .watch := by rw [seq]; exact watch
  rcases settleOnce_guards follows with ⟨runs, -⟩ | ⟨runs, -⟩ | ⟨complete, -⟩ | ⟨p, -, next⟩
  · exact absurd here (by simp [(shedRunning_items runs).1])
  · exact absurd here (by simp [(restartRunning_items runs).1])
  · exact absurd here (by simp [(restartComplete_items complete).1])
  · rw [next]
    exact ⟨by simp [seq], by simp [mev], by simp [dtu], by simp [gatePost, trip]⟩

/-! ### What a commit does to the event (R36, R58, R61; O14) -/

/-- The new plan handed to the channels, the loop, the FAULT line and the vote (R58). -/
def commitGround (old : Plan) (s : State) : State :=
  recompute (driveFault (commitLoop ((List.finRange 6).foldl (commitStation old) s)))

/-- A commit hands the new plan to the chains and the points, to the ground side, and then compares quiet time (R36, R58). -/
theorem commitHandOver_eq (old : Plan) (s : State) : commitHandOver old s
    = commitQuiet (commitGround old (allPoints.foldl (commitPoint old) (commitSequencer s))) := by
  unfold commitHandOver commitGround
  rfl

/-- The new plan on the ground side. -/
theorem GroundInvariant.commitGround_keeps {P : State → Prop} (I : GroundInvariant P) (old : Plan)
    (loop : ∀ {t}, P t → P (driveFault (commitLoop t))) (h : P s) : P (commitGround old s) := by
  have stations := List.foldlRecOn (List.finRange 6) (commitStation old) h (fun _ kept i _ => I.commitStation_keeps old i kept)
  exact I.recompute (loop stations)

/-- The quiet rule leaves the sequence state (R117). -/
theorem quietRule_state (s : State) : (quietRule s).seq.state = s.seq.state := by
  unfold quietRule
  split
  · next due =>
    obtain ⟨-, -, -, quiet⟩ := due
    rw [closeEvent_of_quiet quiet, s.shut_items.1]
  · rfl

/-- Quiet time compared at a commit either leaves the Sequencer and the lines, or closes the open event in WATCH (R36). -/
theorem commitQuiet_shuts (s : State) :
    ((commitQuiet s).seq = s.seq ∧ (commitQuiet s).dtu = s.dtu ∧ (commitQuiet s).pls = s.pls)
      ∨ (s.quietLongEnough = true ∧ (commitQuiet s).seq.state = .watch ∧ ShutAtQuiet s (commitQuiet s)) := by
  unfold commitQuiet
  split
  · next due =>
    obtain ⟨quiet, -, long⟩ := due
    dsimp only
    split
    · next watch =>
      rcases quietRule_shuts { s with mev.quietHanded := true } with stands | shuts
      · rw [stands]
        exact .inl ⟨by simp, by simp, by simp⟩
      · refine .inr ⟨long, ?_, (shuts.from_seq rfl).to_blocks (by simp) (by simp) (by simp) (by simp)⟩
        simpa using (quietRule_state { s with mev.quietHanded := true }).trans watch
    · exact .inl ⟨by simp, by simp, by simp⟩
  · exact .inl ⟨rfl, rfl, rfl⟩

namespace EventHeld

variable {start : State}

/-- The new plan handed to the ground side (R58). -/
theorem commitGround (h : EventHeld start s) (old : Plan) : EventHeld start (commitGround old s) :=
  (EventHeld.ground start).commitGround_keeps old
    (fun kept => kept.blocks (by simp [commitLoop]) (by simp [commitLoop]) (by simp [commitLoop]) (by simp [commitLoop])
      (by simp [commitLoop])) h

/-- A commit out of NO_PLAN (R61). -/
theorem leaveNoPlan (h : EventHeld start s) (valid : s.pls.active.validate = none) : EventHeld start (leaveNoPlan s) := by
  unfold Machine.leaveNoPlan
  split
  · next noPlan =>
    have polling := chains_control.polling noPlan valid h.chains
    have left : EventHeld start (setSequence .startup { s with seq.phase := .polling }) := by
      refine h.next polling (.inl (.of_sequencer (by simp) (by simp) ?_ ?_ ?_)) <;> rw [setSequence_seq]
      · nofun
      · exact fun _ => rfl
    exact (left.blocks (by simp) (by simp) (by simp) (by simp) (by simp)).beginRound
  · exact h

end EventHeld

/-- The points at a commit leave the Sequencer, the lines, the Motion Evaluator and the plans (R59). -/
theorem commitPoints_frame (old : Plan) (s : State) :
    (allPoints.foldl (commitPoint old) (commitSequencer s)).seq = (commitSequencer s).seq
      ∧ (allPoints.foldl (commitPoint old) (commitSequencer s)).dtu = s.dtu
      ∧ (allPoints.foldl (commitPoint old) (commitSequencer s)).mev = s.mev
      ∧ (allPoints.foldl (commitPoint old) (commitSequencer s)).pls = s.pls := by
  refine ⟨by simp, by simp, by simp, by simp⟩

/-- A commit in WATCH or NO_PLAN at QUIET: D does not fall and no line is released, or quiet time stood at the new quiet period and the
open event is closed (R36, R58). -/
theorem commitHandOver_settles {old : Plan} (chains : ChainsOk (allPoints.foldl (commitPoint old) (commitSequencer s)))
    (may : s.seq.state = .watch ∨ s.seq.state = .noPlan) (quiet : s.mev.level = .quiet) (valid : s.pls.active.validate = none) :
    EventStands s (settle (leaveNoPlan (commitHandOver old s)))
      ∨ (0 < s.pls.active.params.quietPeriod → ShutAtQuiet s (settle (leaveNoPlan (commitHandOver old s)))) := by
  obtain ⟨seq, dtu, mev, pls⟩ := commitPoints_frame old s
  rw [commitHandOver_eq]
  generalize allPoints.foldl (commitPoint old) (commitSequencer s) = entered at *
  have begun : EventStands s entered := .of_same (by rw [seq]; rfl) dtu
  have other : entered.seq.state ≠ .restarting := by
    rw [seq]
    rcases may with state | state <;> simp [commitSequencer, state]
  have held := (EventHeld.refl chains).commitGround old
  have stands : QuietStands entered.seq (commitGround old entered) :=
    (quietStands_ground entered.seq).commitGround_keeps old (fun {t} kept => by simpa [QuietStands, commitLoop] using kept)
      (.inr ⟨by rw [mev]; exact quiet, rfl⟩)
  have plan : (commitGround old entered).pls = s.pls := by rw [← pls]; simp [commitGround, commitLoop]
  have kept := chains_control.kept.commitQuiet_keeps held.chains
  rcases commitQuiet_shuts (commitGround old entered) with ⟨seq', dtu', pls'⟩ | ⟨long, watch, shuts⟩
  · have rest : EventHeld entered (commitQuiet (commitGround old entered)) := held.next kept (.inl (.of_blocks seq' dtu' pls'))
    have done := (rest.leaveNoPlan (by rw [pls', plan]; exact valid)).settle
    exact .inl (begun.trans (done.goesOn.calm other).stands)
  · refine .inr fun period => ?_
    have same : (commitGround old entered).seq = entered.seq := by
      refine (stands.resolve_left fun zero => ?_).2
      have reached := (State.quietLongEnough_iff _).mp long
      rw [plan, zero] at reached
      omega
    have left : leaveNoPlan (commitQuiet (commitGround old entered)) = commitQuiet (commitGround old entered) :=
      if_neg (by simp [watch])
    obtain ⟨seqW, mevW, dtuW, tripW⟩ := settle_of_watch watch
    rw [left]
    have closed := shuts.to_blocks (by rw [mevW]) seqW dtuW tripW
    unfold ShutAtQuiet at *
    rw [same, seq] at closed
    exact closed

/-- A commit that passes its checks (R57, R58). -/
theorem commitPlan_stands_or_shuts {shadow : Plan} (p : Fin 3) (chains : ChainsOk s) (may : s.mayCommit = true)
    (valid : shadow.validate = none) :
    EventStands s (commitPlan p shadow s) ∨ (shadow.inRange → ShutAtQuiet s (commitPlan p shadow s)) := by
  obtain ⟨state, quiet, -⟩ := s.mayCommit_iff.mp may
  have committed : (committedPlan s.pls.active shadow).validate = none := valid
  rw [commitPlan_eq]
  generalize told : raiseAll .plan (post (.plan (some p) (committedPlan s.pls.active shadow).params.generation .committed .none)
    (raiseAll .claim { s with pls := ⟨committedPlan s.pls.active shadow, none⟩ })) = t
  have pls : t.pls = ⟨committedPlan s.pls.active shadow, none⟩ := by simp [← told]
  have seq : t.seq = s.seq := by simp [← told]
  have mev : t.mev = s.mev := by simp [← told]
  have dtu : t.dtu = s.dtu := by simp [← told]
  have kept := chains_control.kept.recast (s := s) (t := t) (by rw [pls]; exact committed) may (by rw [mev]) (by simp [← told]) seq
    (by simp [← told]) (by simp [← told]) (by simp [← told]) chains
  rcases commitHandOver_settles kept (by rw [seq]; exact state) (by rw [mev]; exact quiet) (by rw [pls]; exact committed)
    with stands | shuts
  · exact .inl (EventStands.trans (.of_same (by rw [seq]) dtu) stands)
  · refine .inr fun range => (shuts ?_).from_seq seq
    obtain ⟨⟨-, -, -, -, -, ⟨period, -⟩, -⟩, -⟩ := range
    rw [pls]
    exact lt_of_lt_of_le (by decide) period

end Sys2Proof.Machine

namespace Sys2Proof.Machine

variable {s t u : State} {p : Fin 3} {code : Byte} {payload : List Byte} {c : Instr}

/-! ### What a request does to the event (R57, R82, R133, R134, R138, R154; O14) -/

/-- A CONSENT of the port would grant the restart (R133, R134). -/
def MayGrant (p : Fin 3) (s : State) : Prop :=
  s.seq.state = .halted ∧ s.ctk.state = .one ∧ (∀ q : Fin 3, s.ctk.veto[q] = false)
    ∧ s.pls.active.rights[p].consent = true ∧ s.ctk.held ≠ some p

/-- What a request in service does to the event: nothing, or it goes on, or a COMMIT with D 0 closes it at QUIET, or a CONSENT grants a
restart that completes at once. -/
def RequestMoves (p : Fin 3) (code : Byte) (payload : List Byte) (s t : State) : Prop :=
  EventStands s t ∨ EventGoesOn s t
    ∨ (code = 0x14 ∧ (∃ b, payload = [b]) ∧ s.seq.depth = 0 ∧ (PlanOk s → ShutAtQuiet s t))
    ∨ (code = 0x20 ∧ payload = [] ∧ MayGrant p s ∧ t.seq.state ≠ .restarting
      ∧ t.pls.active.restartLen ≤ t.seq.restartPointer)

/-- The Sequencer and the lines stand. -/
theorem RequestMoves.of_same (seq : t.seq = s.seq) (dtu : t.dtu = s.dtu) : RequestMoves p code payload s t :=
  .inl (.of_same (by rw [seq]) dtu)

/-- What the event reads of the second state stands. -/
theorem RequestMoves.to_blocks (h : RequestMoves p code payload s t) (seq : u.seq = t.seq) (dtu : u.dtu = t.dtu) (pls : u.pls = t.pls)
    (mev : u.mev = t.mev) (flc : u.flc = t.flc) : RequestMoves p code payload s u := by
  rcases h with stands | goes | ⟨commit, byte, low, shuts⟩ | ⟨consent, empty, may, left, ended⟩
  · exact .inl (stands.trans (.of_same (by rw [seq]) dtu))
  · exact .inr (.inl (goes.trans (.inl (.of_blocks seq dtu pls))))
  · exact .inr (.inr (.inl ⟨commit, byte, low, fun ok => (shuts ok).to_blocks (by rw [mev]) seq dtu (by rw [flc])⟩))
  · exact .inr (.inr (.inr ⟨consent, empty, may, by rwa [seq], by rwa [pls, seq]⟩))

/-- A reply, which leaves what the event reads. -/
theorem RequestMoves.replied {status : ReplyStatus} {l : List Byte} (h : RequestMoves p code payload s t) :
    RequestMoves p code payload s (reply p status l t) :=
  h.to_blocks (by simp) (by simp) (by simp) (by simp) (by simp)

/-- COMMIT at the PLS (R57, R58). -/
theorem ownerCommit_moves (save : Bool) (byte : ∃ b, payload = [b]) (chains : ChainsOk s) :
    RequestMoves p 0x14 payload s (ownerCommit p save s) := by
  have refused (status : ReplyStatus) (l : List Byte) : RequestMoves p 0x14 payload s (reply p status l s) := .of_same (by simp) (by simp)
  unfold ownerCommit
  split
  · exact refused _ _
  · next claim claimed =>
    split
    · exact refused _ _
    · split
      · exact refused _ _
      · next may =>
        have may : s.mayCommit = true := by simpa using may
        split
        · exact refused _ _
        · next valid =>
          have committed : RequestMoves p 0x14 payload s (commitPlan p claim.shadow s) := by
            obtain ⟨state, -⟩ := s.mayCommit_iff.mp may
            obtain ⟨-, steps⟩ := (chainsOk_iff s).mp chains
            rcases commitPlan_stands_or_shuts p chains may valid with stands | shuts
            · exact .inl stands
            · refine .inr (.inr (.inl ⟨rfl, byte, (steps.low (.inr state.symm)).2, fun ok => shuts ?_⟩))
              obtain ⟨-, -, -, shadow⟩ := ok
              exact shadow claim claimed
          unfold finishCommit
          split
          · exact committed.to_blocks (by simp) (by simp) (by simp) (by simp) (by simp)
          · exact committed.replied

/-- COMMIT (R57). -/
theorem serveCommit_moves (chains : ChainsOk s) : RequestMoves p 0x14 payload s (serveCommit p payload s) := by
  unfold serveCommit withRight
  (repeat' split)
  · exact ownerCommit_moves false ⟨_, rfl⟩ chains
  · exact ownerCommit_moves true ⟨_, rfl⟩ chains
  all_goals exact .of_same (by simp) (by simp)

/-- The tracker is in ONE in HALTED alone (R131). -/
theorem halted_of_one (chains : ChainsOk s) (one : s.ctk.state = .one) : s.seq.state = .halted := by
  obtain ⟨-, ⟨-, -, rests⟩, -⟩ := chains
  by_contra other
  simp [rests other] at one

/-- D stands as the restart begins (R142). -/
theorem beginRestart_depth (s : State) : (beginRestart s).seq.depth = s.seq.depth := by
  rw [beginRestart_eq]
  split
  · rw [startRestartStep_sequencer]
    rfl
  · rfl

/-- A CONSENT that the right and the tracker pass (R133, R134). -/
theorem ownerConsent_moves (right : s.pls.active.rights[p].consent = true) (chains : ChainsOk s) :
    RequestMoves p 0x20 [] s (ownerConsent p s) := by
  have refused (status : ReplyStatus) (l : List Byte) : RequestMoves p 0x20 [] s (reply p status l s) := .of_same (by simp) (by simp)
  unfold ownerConsent
  split
  · exact refused _ _
  · exact refused _ _
  · split
    · exact refused _ _
    · exact .of_same (by simp) (by simp)
  · next one =>
    split
    · exact refused _ _
    · next noVeto =>
      split
      · exact refused _ _
      · next other =>
        have may : MayGrant p s := ⟨halted_of_one chains one, one, (noVeto_iff s).mp (by simpa using noVeto), right, other⟩
        unfold grantRestart
        refine RequestMoves.replied ?_
        generalize begins : beginRestart _ = begun
        have dtu : begun.dtu = s.dtu := by simp [← begins]
        have depth : begun.seq.depth = s.seq.depth := by simp [← begins, beginRestart_depth, setSequence_seq]
        have begin : EventStands s begun := .of_same depth dtu
        rcases settle_goesOn begun with calm | ⟨-, left, ended⟩
        · exact .inl (begin.trans calm.stands)
        · exact .inr (.inr (.inr ⟨rfl, rfl, may, left, ended⟩))

/-- CONSENT (R133). -/
theorem serveConsent_moves (chains : ChainsOk s) : RequestMoves p 0x20 payload s (serveConsent p payload s) := by
  unfold serveConsent withRight withNoParam
  split
  · next right =>
    split
    · exact ownerConsent_moves right chains
    · exact .of_same (by simp) (by simp)
  · exact .of_same (by simp) (by simp)

/-- What a veto does beyond its flag (R138, R154). -/
theorem vetoEffect_goesOn (s : State) : EventGoesOn s (vetoEffect s) := by
  unfold vetoEffect
  split
  · next restarting => exact EventGoesOn.trans (.inl (vetoStop_calm restarting)) (settle_goesOn _)
  · split
    · exact .inl (.of_blocks (by simp) (by simp) (by simp))
    · exact .inl (.refl s)

/-- VETO (R138, R154). -/
theorem serveVeto_moves : RequestMoves p code payload s (serveVeto p payload s) := by
  have refused (status : ReplyStatus) : RequestMoves p code payload s (reply p status [] s) := .of_same (by simp) (by simp)
  have set : EventCalm s (setVeto p true s) := .of_blocks (by simp) (by simp) (by simp)
  unfold serveVeto withRight withNoParam ownerVeto
  split
  · split
    · split
      · exact refused _
      · split
        · exact refused _
        · refine RequestMoves.replied (.inr (.inl ?_))
          exact EventGoesOn.trans (.inl set) (vetoEffect_goesOn _)
    · exact refused _
  · exact refused _

/-- A point placed at the gate by hand (R82). -/
theorem placeManual_moves (i : Fin 64) : RequestMoves p code payload s (placeManual p i s) := by
  unfold placeManual
  split
  · dsimp only
    refine RequestMoves.replied (.inr (.inl (settle_of_blocks ?_ ?_ ?_))) <;> simp
  · exact .of_same (by simp) (by simp)

/-- MANUAL_RESTORE at the PTM (R82). -/
theorem ownerManualRestore_moves (i : Fin 64) : RequestMoves p code payload s (ownerManualRestore p i s) := by
  unfold ownerManualRestore
  split
  · split
    · exact placeManual_moves i
    · exact placeManual_moves i
    · exact .of_same (by simp) (by simp)
  · exact .of_same (by simp) (by simp)

/-- MANUAL_RESTORE (R82). -/
theorem serveManualRestore_moves : RequestMoves p code payload s (serveManualRestore p payload s) := by
  have refused (status : ReplyStatus) : RequestMoves p code payload s (reply p status [] s) := .of_same (by simp) (by simp)
  unfold serveManualRestore withRight withPoint
  split
  · split
    · split
      · exact ownerManualRestore_moves _
      · exact refused _
    · exact refused _
  · exact refused _

/-- A request in service (R161). -/
theorem serveCode_moves (p : Fin 3) (code : Byte) (payload : List Byte) (chains : ChainsOk s) :
    RequestMoves p code payload s (serveCode p code payload s) := by
  unfold serveCode
  split
  -- Cases 12, 14 and 15 are COMMIT, CONSENT and VETO, case 19 is MANUAL_RESTORE, and case 20 a code of no row.
  case h_12 is =>
    obtain rfl : code = 0x14 := BitVec.eq_of_toNat_eq is
    exact serveCommit_moves chains
  case h_14 is =>
    obtain rfl : code = 0x20 := BitVec.eq_of_toNat_eq is
    exact serveConsent_moves chains
  case h_15 => exact serveVeto_moves
  case h_19 => exact serveManualRestore_moves
  case h_20 => exact .of_same (by simp) (by simp)
  all_goals
    refine .of_same ?_ ?_ <;>
    · simp only [serveStatus, serveIdent, serveStationDetail, servePointDetail, serveSequenceDetail, serveJournalRead,
        serveNoticeMask, serveClaim, serveRelease, servePlanWrite, servePlanRead, serveSave, serveVetoClear, serveFaultClear,
        serveManualShed, withRight, withNoParam, withPoint]
      (repeat' split) <;> simp

end Sys2Proof.Machine

namespace Sys2Proof.Machine

/-! ### The request in service stands while it is served (R159; O14) -/

/-- A change of a port that leaves the code of its request in service. -/
theorem modPort_service (i : Fin 3) (f : Port → Port) (stays : ∀ q, (f q).service = q.service) (s : State) (j : Nat) (hj : j < 3) :
    (s.modPort i f).spu.ports[j].service = s.spu.ports[j].service := by
  by_cases here : i.val = j
  · subst here
    simp [State.modPort, stays]
  · simp [State.modPort, here]

/-- A reply leaves the code of the request in service (R159). -/
@[simp] theorem reply_service (i : Fin 3) (status : ReplyStatus) (l : List Byte) (s : State) (j : Nat) (hj : j < 3) :
    (reply i status l s).spu.ports[j].service = s.spu.ports[j].service :=
  modPort_service i (fun q => { q with queue := q.queue ++ [⟨q.service.getD 0, status, l, false⟩] }) (fun _ => rfl) s j hj

/-- STATUS leaves the code of the request in service (R162). -/
@[simp] theorem serveStatus_service (p : Fin 3) (payload : List Byte) (s : State) (j : Nat) (hj : j < 3) :
    (serveStatus p payload s).spu.ports[j].service = s.spu.ports[j].service := by
  unfold serveStatus withNoParam
  split
  · refine (modPort_service p _ (fun _ => ?_) _ j hj).trans (reply_service ..)
    rfl
  · exact reply_service ..

/-- NOTICE_MASK leaves the code of the request in service (R168). -/
@[simp] theorem serveNoticeMask_service (p : Fin 3) (payload : List Byte) (s : State) (j : Nat) (hj : j < 3) :
    (serveNoticeMask p payload s).spu.ports[j].service = s.spu.ports[j].service := by
  unfold serveNoticeMask
  split
  · split
    · refine (reply_service ..).trans (modPort_service p _ (fun _ => ?_) _ j hj)
      rfl
    · exact reply_service ..
  · exact reply_service ..

/-- CLAIM leaves the code of the request in service (R50). -/
@[simp] theorem ownerClaim_service (p : Fin 3) (s : State) (j : Nat) (hj : j < 3) :
    (ownerClaim p s).spu.ports[j].service = s.spu.ports[j].service := by
  unfold ownerClaim
  (repeat' split) <;> simp

/-- PLAN_WRITE leaves the code of the request in service (R53). -/
@[simp] theorem ownerPlanWrite_service (p : Fin 3) (r : PlanRecord) (s : State) (j : Nat) (hj : j < 3) :
    (ownerPlanWrite p r s).spu.ports[j].service = s.spu.ports[j].service := by
  unfold ownerPlanWrite
  (repeat' split) <;> simp

/-- COMMIT leaves the code of the request in service (R57, R58). -/
@[simp] theorem ownerCommit_service (p : Fin 3) (save : Bool) (s : State) (j : Nat) (hj : j < 3) :
    (ownerCommit p save s).spu.ports[j].service = s.spu.ports[j].service := by
  unfold ownerCommit finishCommit beginSave
  (repeat' split) <;> simp

/-- CONSENT leaves the code of the request in service (R133). -/
@[simp] theorem ownerConsent_service (p : Fin 3) (s : State) (j : Nat) (hj : j < 3) :
    (ownerConsent p s).spu.ports[j].service = s.spu.ports[j].service := by
  unfold ownerConsent firstConsent grantRestart
  (repeat' split) <;> simp

/-- MANUAL_SHED leaves the code of the request in service (R81). -/
@[simp] theorem ownerManualShed_service (p : Fin 3) (i : Fin 64) (s : State) (j : Nat) (hj : j < 3) :
    (ownerManualShed p i s).spu.ports[j].service = s.spu.ports[j].service := by
  unfold ownerManualShed
  (repeat' split) <;> simp

/-- MANUAL_RESTORE leaves the code of the request in service (R82). -/
@[simp] theorem ownerManualRestore_service (p : Fin 3) (i : Fin 64) (s : State) (j : Nat) (hj : j < 3) :
    (ownerManualRestore p i s).spu.ports[j].service = s.spu.ports[j].service := by
  unfold ownerManualRestore placeManual
  (repeat' split) <;> simp

/-- PLAN_WRITE behind its checks leaves the code of the request in service (R52, R53). -/
@[simp] theorem servePlanWrite_service (p : Fin 3) (payload : List Byte) (s : State) (j : Nat) (hj : j < 3) :
    (servePlanWrite p payload s).spu.ports[j].service = s.spu.ports[j].service := by
  unfold servePlanWrite withRight
  split
  · split <;> simp
  · simp [refuse]

/-- PLAN_READ leaves the code of the request in service (R54). -/
@[simp] theorem servePlanRead_service (p : Fin 3) (payload : List Byte) (s : State) (j : Nat) (hj : j < 3) :
    (servePlanRead p payload s).spu.ports[j].service = s.spu.ports[j].service := by
  unfold servePlanRead refuse
  (repeat' split) <;> simp

/-- The kinds cleared leave the code of the request in service (R178). -/
theorem clearKinds_service (kinds : List FaultKind) (s : State) (j : Nat) (hj : j < 3) :
    (kinds.foldl clearKind s).spu.ports[j].service = s.spu.ports[j].service := by
  induction kinds generalizing s with
  | nil => rfl
  | cons k kinds ih =>
    obtain ⟨-, -, service, -⟩ := clearKind_port s k j hj
    exact (ih (clearKind s k)).trans service

/-- FAULT_CLEAR leaves the code of the request in service (R178). -/
@[simp] theorem ownerFaultClear_service (p : Fin 3) (set : Nat) (s : State) (j : Nat) (hj : j < 3) :
    (ownerFaultClear p set s).spu.ports[j].service = s.spu.ports[j].service := by
  simp [ownerFaultClear, clearKinds_service]

/-- A request leaves the code of its port's request in service (R159). -/
theorem serveCode_service (p : Fin 3) (code : Byte) (payload : List Byte) (s : State) :
    (serveCode p code payload s).spu.ports[p].service = s.spu.ports[p].service := by
  unfold serveCode
  split
  case h_1 | h_7 | h_10 | h_11 => simp
  all_goals
    simp only [serveIdent, serveStationDetail, servePointDetail, serveSequenceDetail, serveJournalRead, serveClaim, serveRelease,
      serveCommit, serveSave, serveConsent, serveVeto, serveVetoClear, serveFaultClear,
      serveManualShed, serveManualRestore, withRight, withNoParam, withPoint, ownerSave, beginSave, ownerVeto, refuse]
    (repeat' split) <;> simp

end Sys2Proof.Machine

namespace Sys2Proof.Machine

variable {s t u : State} {p : Fin 3} {code : Byte} {payload : List Byte} {c : Instr}

/-! ### What a command does to the event (R115, R118, R148; O14) -/

/-- What a command does to the event: D does not fall and no line is released, or a restart completes, or with D 0 the open event closes at
QUIET. -/
def EventAfter (c : Instr) (s t : State) : Prop :=
  EventStands s t ∨ restartEnded c s t ∨ (s.seq.depth = 0 ∧ (PlanOk s → closedAtQuiet c s t))

/-- In HALTED and in RESTARTING an event is open (R115). -/
theorem eventOpen_of_deep (chains : ChainsOk s) (deep : s.seq.state = .halted ∨ s.seq.state = .restarting) :
    s.seq.eventOpen = true := by
  obtain ⟨-, steps⟩ := (chainsOk_iff s).mp chains
  by_contra closed
  rcases deep with state | state <;> simpa [state] using steps.closed (Bool.eq_false_iff.mpr closed)

/-- The event goes on. -/
theorem EventGoesOn.after (h : EventGoesOn s t) (chains : ChainsOk s) : EventAfter c s t := by
  rcases h with calm | ⟨restarting, left, ended⟩
  · exact .inl calm.stands
  · exact .inr (.inl ⟨eventOpen_of_deep chains (.inr restarting), .inl restarting, left, ended⟩)

/-- A request taken into service at a free port, brought by a command of its row or by single bytes. -/
theorem RequestMoves.after (h : RequestMoves p code payload s t) (ready : Ready s p) (chains : ChainsOk s)
    (brings : c.request = some (p, code, payload) ∨ ∃ bytes, c = .requestFrameInvalid p bytes) : EventAfter c s t := by
  rcases h with stands | goes | ⟨commit, ⟨b, byte⟩, low, shuts⟩ | ⟨consent, empty, may, left, ended⟩
  · exact .inl stands
  · exact goes.after chains
  · refine .inr (.inr ⟨low, fun ok => ?_⟩)
    obtain ⟨opened, depth, state, quiet⟩ := shuts ok
    refine ⟨opened, depth, state, .inr ?_, quiet⟩
    subst commit byte
    exact brings.imp (fun row => ⟨p, b, row⟩) (fun ⟨bytes, raw⟩ => ⟨p, bytes, raw⟩)
  · obtain ⟨halted, one, noVeto, right, other⟩ := may
    subst consent empty
    exact .inr (.inl ⟨eventOpen_of_deep chains (.inl halted), .inr ⟨halted, one, noVeto, p, ready, right, other, brings⟩, left, ended⟩)

/-- The ports alone have changed. -/
def PortsMoved (s t : State) : Prop := ∃ v : Spu, t = { s with spu := v }

/-- The ports do not hold what the event reads. -/
theorem PortsMoved.stands (h : PortsMoved s t) : EventStands s t := by
  obtain ⟨v, rfl⟩ := h
  exact .of_same rfl rfl

/-- One after another. -/
theorem PortsMoved.trans (first : PortsMoved s t) (second : PortsMoved t u) : PortsMoved s u := by
  obtain ⟨v, rfl⟩ := first
  obtain ⟨w, rfl⟩ := second
  exact ⟨w, rfl⟩

/-- A change of one port. -/
theorem modPort_moves (i : Fin 3) (f : Port → Port) (s : State) : PortsMoved s (s.modPort i f) := ⟨_, rfl⟩

/-- A frame answered BUSY or counted (R159). -/
theorem answerBusy_moves (p : Fin 3) (code : Byte) (s : State) : PortsMoved s (answerBusy p code (linkUp p s)) := by
  unfold answerBusy
  split
  · exact (modPort_moves ..).trans (modPort_moves ..)
  · exact (modPort_moves ..).trans (modPort_moves ..)

/-- A frame at a port: the ports alone change, or the port is free and the request is served (R157 to R159). -/
theorem takeFrame_moves (p : Fin 3) (code : Byte) (payload : List Byte) (chains : ChainsOk s) :
    PortsMoved s (takeFrame p code payload (serveCode p code payload) s)
      ∨ (Ready s p ∧ RequestMoves p code payload (s.taken p code) (takeFrame p code payload (serveCode p code payload) s)) := by
  rcases takeFrame_cases p code payload (serveCode p code payload) s with ⟨-, long⟩ | ⟨-, -, busy⟩ | ⟨-, ready, free⟩
  · exact .inl (long ▸ modPort_moves ..)
  · exact .inl (busy ▸ answerBusy_moves p code s)
  · exact .inr ⟨ready, free ▸ serveCode_moves p code payload (chains_control.same (t := s.taken p code) rfl chains)⟩

/-- What a request does to the event does not depend on the ports. -/
theorem RequestMoves.from_ports (h : RequestMoves p code payload u t) (moved : PortsMoved s u) : RequestMoves p code payload s t := by
  obtain ⟨v, rfl⟩ := moved
  have same : EventCalm s { s with spu := v } := .of_blocks rfl rfl rfl
  rcases h with stands | goes | ⟨commit, byte, low, shuts⟩ | granted
  · exact .inl stands
  · exact .inr (.inl (EventGoesOn.trans (.inl same) goes))
  · exact .inr (.inr (.inl ⟨commit, byte, low, fun ok => shuts (ok.same rfl id)⟩))
  · exact .inr (.inr (.inr granted))

/-- A command of a row of R161. -/
theorem request_after (brings : c.request = some (p, code, payload)) (ran : exec c s = .next t) (chains : ChainsOk s) :
    EventAfter c s t := by
  rw [exec_request brings] at ran
  cases ran
  rcases takeFrame_moves p code payload chains with moved | ⟨ready, moves⟩
  · exact .inl moved.stands
  · exact (moves.from_ports (modPort_moves ..)).after ready chains (.inl brings)

/-- Bytes heard at a port since a state: the ports alone have changed, and the port's request in service is the same; or a request is in
service, and the command has done to the event what it may. -/
def Heard (c : Instr) (p : Fin 3) (s t : State) : Prop :=
  (PortsMoved s t ∧ t.spu.ports[p].service = s.spu.ports[p].service) ∨ (t.spu.ports[p].service.isSome = true ∧ EventAfter c s t)

/-- What is done to the event stands while the ports alone change. -/
theorem EventAfter.ports (h : EventAfter c s t) (moved : PortsMoved t u) : EventAfter c s u := by
  obtain ⟨v, rfl⟩ := moved
  exact h

/-- A change of the port that leaves the code of its request in service. -/
theorem Heard.modPort (h : Heard c p s t) (f : Port → Port) (stays : ∀ q, (f q).service = q.service) :
    Heard c p s (t.modPort p f) := by
  have same := modPort_service p f stays t p p.isLt
  rcases h with ⟨moved, service⟩ | ⟨busy, after⟩
  · exact .inl ⟨moved.trans (modPort_moves ..), same.trans service⟩
  · exact .inr ⟨(congrArg Option.isSome same).trans busy, after.ports (modPort_moves ..)⟩

/-- A frame heard at the port (R157 to R159). -/
theorem Heard.takeFrame (h : Heard c p s t) (chains : ChainsOk s) (raw : ∃ bytes, c = .requestFrameInvalid p bytes)
    (code : Byte) (payload : List Byte) :
    Heard c p s (takeFrame p code payload (serveCode p code payload) t) := by
  rcases takeFrame_cases p code payload (serveCode p code payload) t with ⟨-, long⟩ | ⟨-, -, busy⟩ | ⟨-, ready, free⟩
  · rw [long]
    exact h.modPort _ fun _ => rfl
  · have up : Heard c p s (linkUp p t) := h.modPort _ fun _ => rfl
    rw [busy, answerBusy]
    split
    · exact up.modPort _ fun _ => rfl
    · exact up.modPort _ fun _ => rfl
  · rw [free]
    have served : (serveCode p code payload (t.taken p code)).spu.ports[p].service.isSome = true := by
      rw [serveCode_service]
      simp
    rcases h with ⟨moved, service⟩ | ⟨busy, -⟩
    · have chains' : ChainsOk (t.taken p code) := by
        obtain ⟨v, rfl⟩ := moved
        exact chains_control.same (s := s) rfl chains
      have moves := (serveCode_moves p code payload chains').from_ports (moved.trans (modPort_moves p _ t))
      exact .inr ⟨served, moves.after (service.symm.trans ready) chains (.inr raw)⟩
    · rw [show t.spu.ports[p].service = none from ready] at busy
      cases busy

/-- A byte heard at the port (R157). -/
theorem Heard.requestByte (h : Heard c p s t) (chains : ChainsOk s) (raw : ∃ bytes, c = .requestFrameInvalid p bytes)
    (b : LineByte) : Heard c p s (requestByte p t b) := by
  have moved (rx : Rx) : Heard c p s (t.modPort p (fun q => { q with rx := rx })) := h.modPort _ fun _ => rfl
  obtain ⟨rx, gathered | counted | ⟨code, payload, frame⟩⟩ := requestByte_cases p t b
  · exact gathered ▸ moved rx
  · exact counted ▸ (moved rx).modPort _ fun _ => rfl
  · exact frame ▸ (moved rx).takeFrame chains raw code payload

/-- Bytes at a port: at most one frame of them is served (R157 to R159; log 4). -/
theorem requestBytes_after (p : Fin 3) (bytes : List LineByte) (chains : ChainsOk s) :
    EventAfter (.requestFrameInvalid p bytes) s (bytes.foldl (requestByte p) s) := by
  have heard : Heard (.requestFrameInvalid p bytes) p s (bytes.foldl (requestByte p) s) :=
    List.foldlRecOn bytes (Machine.requestByte p) (.inl ⟨⟨s.spu, rfl⟩, rfl⟩)
      fun _ kept b _ => kept.requestByte chains ⟨bytes, rfl⟩ b
  rcases heard with ⟨moved, -⟩ | ⟨-, after⟩
  · exact .inl moved.stands
  · exact after

/-- An idle at a port and the byte that ends it: that byte begins a frame at most (R157). -/
theorem idleAbandon_moves (p : Fin 3) (next : Option LineByte) (s : State) :
    PortsMoved s ((optionBytes next).foldl (requestByte p) (abandonRequest p s)) := by
  have abandoned : PortsMoved s (abandonRequest p s) ∧ (abandonRequest p s).spu.ports[p].rx = .hunt := by
    unfold abandonRequest
    split
    · next hunting => exact ⟨⟨s.spu, rfl⟩, hunting⟩
    · exact ⟨(modPort_moves ..).trans (modPort_moves ..), by simp [countFrameError, State.modPort]⟩
  obtain ⟨moved, hunting⟩ := abandoned
  cases next with
  | none => exact moved
  | some b => exact moved.trans ⟨_, requestByte_hunt hunting b⟩

/-- Every command but the resets. -/
theorem exec_after (chains : ChainsOk s) (ran : exec c s = .next t) (cold : c ≠ .coldReset) (warm : c ≠ .warmReset) :
    EventAfter c s t := by
  cases asked : c.request with
  | some q => exact request_after asked ran chains
  | none =>
    by_cases raw : c.bringsAnyRequest = true
    · cases c with
      | requestFrameInvalid p bytes => cases ran; exact requestBytes_after p bytes chains
      | requestIdleAbandon p next => cases ran; exact .inl (idleAbandon_moves p next s).stands
      | requestWhileBusy | unknownRequest => nomatch asked
      | _ => nomatch raw
    · by_cases quiet : c = .quietReached
      · subst quiet
        rcases quietReached_shuts ran with stands | ⟨opened, low, state, closed⟩
        · exact .inl stands
        · exact .inr (.inr ⟨low, fun _ => ⟨opened, low, state, .inl rfl, closed⟩⟩)
      · rcases exec_stands_or_goesOn chains ran asked (Bool.eq_false_iff.mpr raw) cold warm quiet with stands | goes
        · exact .inl stands
        · exact goes.after chains

end Sys2Proof.Machine

namespace Sys2Proof.Machine

variable {s t : State} {c : Instr}

/-! ### The veto flags (R131, R138, R139; O14) -/

/-- Another port's flag stands when a flag is changed (R138, R139). -/
theorem setVeto_other {q p : Fin 3} (other : q ≠ p) (v : Bool) (s : State) : (setVeto q v s).ctk.veto[p] = s.ctk.veto[p] := by
  simpa [setVeto] using vector_set_other s.ctk.veto q p v other

/-- VETO and VETO_CLEAR of another port leave a port's flag (R138, R139). -/
theorem serveVeto_other {q p : Fin 3} (other : q ≠ p) (payload : List Byte) (s : State) :
    (serveVeto q payload s).ctk.veto[p] = s.ctk.veto[p] ∧ (serveVetoClear q payload s).ctk.veto[p] = s.ctk.veto[p] := by
  have set (v : Bool) : (setVeto q v s).ctk.veto[p.val] = s.ctk.veto[p.val] := setVeto_other other v s
  constructor
  · simp only [serveVeto, withRight, withNoParam, ownerVeto]
    (repeat' split) <;> simp [set]
  · simp only [serveVetoClear, withNoParam]
    (repeat' split) <;> simp [set]

/-- Every request but VETO and VETO_CLEAR leaves the veto flags (R131). -/
theorem serveCode_veto (q : Fin 3) {code : Byte} (payload : List Byte) (s : State) (noVeto : code ≠ 0x21) (noClear : code ≠ 0x22) :
    (serveCode q code payload s).ctk.veto = s.ctk.veto := by
  unfold serveCode
  split
  -- Cases 15 and 16 are VETO and VETO_CLEAR, and case 20 is a code of no row.
  case h_15 is => exact absurd (BitVec.eq_of_toNat_eq is) noVeto
  case h_16 is => exact absurd (BitVec.eq_of_toNat_eq is) noClear
  case h_20 => simp
  all_goals
    simp only [serveStatus, serveIdent, serveStationDetail, servePointDetail, serveSequenceDetail, serveJournalRead,
      serveNoticeMask, serveClaim, serveRelease, servePlanWrite, servePlanRead, serveCommit, serveSave, serveConsent,
      serveFaultClear, serveManualShed, serveManualRestore, withRight, withNoParam, withPoint]
    (repeat' split) <;> simp

/-- A request leaves a port's veto flag, unless it is that port's VETO or VETO_CLEAR (R131). -/
theorem serveCode_veto_flag (q p : Fin 3) (code : Byte) (payload : List Byte) (s : State)
    (other : q ≠ p ∨ (code ≠ 0x21 ∧ code ≠ 0x22)) : (serveCode q code payload s).ctk.veto[p] = s.ctk.veto[p] := by
  by_cases veto : code = 0x21
  · have apart : q ≠ p := other.resolve_right fun codes => codes.1 veto
    subst veto
    exact (serveVeto_other apart payload s).1
  · by_cases clear : code = 0x22
    · have apart : q ≠ p := other.resolve_right fun codes => codes.2 clear
      subst clear
      exact (serveVeto_other apart payload s).2
    · rw [serveCode_veto q payload s veto clear]

/-- A command that brings no request leaves the veto flags, but for a cold reset (R131, R181). -/
theorem exec_veto_stands (ran : exec c s = .next t) (cold : c ≠ .coldReset) (raw : c.bringsAnyRequest = false)
    (unasked : c.request = none) : t.ctk.veto = s.ctk.veto := by
  cases c with
  | status | ident | stationDetail | pointDetail | sequenceDetail | journalRead | noticeMask | claim | release | planWrite | planRead
  | commit | save | consent | veto | vetoClear | faultClear | manualShed | manualRestore => nomatch unasked
  | requestFrameInvalid | requestIdleAbandon | requestWhileBusy | unknownRequest => nomatch raw
  | coldReset => exact absurd rfl cold
  | warmReset => cases ran; simp [warmReset]
  | loopReplyFrame | loopIdleAbandon | sensorFrame | gapTimerExpiry | imageLoadEnd | orderFrameEnd | tripAllFrameEnd | replyTimeout
  | graceTimerExpiry | settleTimerExpiry | replySent =>
    cases ran
    simp
  | sensorIdleAbandon | saveEnd | linkTimeout | blindTimerExpiry | quietReached | pollTimerExpiry | restoreSpacingExpiry
  | shedDelayExpiry | shedStepTimeout | restartDelayExpiry | restartStepTimeout | consentWindowExpiry =>
    cases ran
    (repeat' split) <;> simp

/-- A port's veto flag stands over every command but a cold reset and its own VETO and VETO_CLEAR (R131, R138, R139, R181). -/
theorem exec_veto_flag (p : Fin 3) (ran : exec c s = .next t) (cold : c ≠ .coldReset) (raw : c.bringsAnyRequest = false)
    (noVeto : ∀ l, c ≠ .veto p l) (noClear : ∀ l, c ≠ .vetoClear p l) : t.ctk.veto[p] = s.ctk.veto[p] := by
  cases asked : c.request with
  | none => rw [exec_veto_stands ran cold raw asked]
  | some request =>
    obtain ⟨q, code, payload⟩ := request
    rw [exec_request asked] at ran
    cases ran
    refine takeFrame_leaves (fun u => u.ctk.veto[p]) (fun _ _ _ => rfl) q code payload
      (fun u => serveCode_veto_flag q p code payload u ?_) s
    by_contra own
    obtain ⟨rfl, codes⟩ := not_or.mp own |>.imp_left not_not.mp
    cases c <;> cases asked <;> simp_all [Instr.bringsAnyRequest]

/-! ### The fault statuses (R174, R178; O14) -/

/-- PLAN_WRITE and PLAN_READ clear no fault status (R53, R54). -/
theorem servePlan_status (p : Fin 3) (payload : List Byte) {s : State} {j : Nat} (hj : j < 12) (set : s.fmn.status[j] = true) :
    (servePlanWrite p payload s).fmn.status[j] = true ∧ (servePlanRead p payload s).fmn.status[j] = true := by
  constructor
  · unfold servePlanWrite withRight
    split
    · split <;> simp [set]
    · simp [set]
  · unfold servePlanRead
    (repeat' split) <;> simp [set]

/-- MANUAL_RESTORE clears no fault status (R82). -/
theorem serveManualRestore_status (p : Fin 3) (payload : List Byte) {s : State} {j : Nat} (hj : j < 12)
    (set : s.fmn.status[j] = true) : (serveManualRestore p payload s).fmn.status[j] = true := by
  have owner (i : Fin 64) : (ownerManualRestore p i s).fmn.status[j] = true := by
    unfold ownerManualRestore
    (repeat' split) <;> simp [set]
  unfold serveManualRestore withRight withPoint
  split
  · split
    · split
      · exact owner _
      · simp [set]
    · simp [set]
  · simp [set]

/-- A request clears no fault status, unless it is FAULT_CLEAR (R178). -/
theorem serveCode_status (p : Fin 3) (code : Byte) (payload : List Byte) (s : State) (other : code ≠ 0x28) {j : Nat} (hj : j < 12)
    (set : s.fmn.status[j] = true) : (serveCode p code payload s).fmn.status[j] = true := by
  obtain ⟨write, read⟩ := servePlan_status p payload hj set
  unfold serveCode
  split
  -- Cases 10, 11 and 19 are PLAN_WRITE, PLAN_READ and MANUAL_RESTORE, case 17 is FAULT_CLEAR, and case 20 a code of no row.
  case h_10 => exact write
  case h_11 => exact read
  case h_17 is => exact absurd (BitVec.eq_of_toNat_eq is) other
  case h_19 => exact serveManualRestore_status p payload hj set
  case h_20 => simpa using set
  all_goals
    clear write read
    simp only [serveStatus, serveIdent, serveStationDetail, servePointDetail, serveSequenceDetail, serveJournalRead,
      serveNoticeMask, serveClaim, serveRelease, serveCommit, serveSave, serveConsent, serveVeto,
      serveVetoClear, serveManualShed, withRight, withNoParam, withPoint, ownerSave]
    (repeat' split) <;> simp [set]

/-- A command that brings no request clears no fault status, but for a cold reset (R174, R181). -/
theorem exec_status_stands (ran : exec c s = .next t) (cold : c ≠ .coldReset) (raw : c.bringsAnyRequest = false)
    (unasked : c.request = none) {j : Nat} (hj : j < 12) (set : s.fmn.status[j] = true) : t.fmn.status[j] = true := by
  cases c with
  | status | ident | stationDetail | pointDetail | sequenceDetail | journalRead | noticeMask | claim | release | planWrite | planRead
  | commit | save | consent | veto | vetoClear | faultClear | manualShed | manualRestore => nomatch unasked
  | requestFrameInvalid | requestIdleAbandon | requestWhileBusy | unknownRequest => nomatch raw
  | coldReset => exact absurd rfl cold
  | warmReset => cases ran; exact driveFault_status _ j hj set
  | loopReplyFrame bytes => cases ran; exact foldl_status j hj loopByte (fun u b kept => loopByte_status u b j hj kept) bytes s set
  | loopIdleAbandon b =>
    cases ran
    exact foldl_status j hj loopByte (fun u b kept => loopByte_status u b j hj kept) _ _ (by simpa using set)
  | sensorFrame i bytes =>
    cases ran
    exact foldl_status j hj (sensorByte i) (fun u b kept => sensorByte_status i u b j hj kept) bytes s set
  | sensorIdleAbandon i b =>
    cases ran
    split
    · exact set
    · exact foldl_status j hj (sensorByte i) (fun u b kept => sensorByte_status i u b j hj kept) _ _ (abandonFrame_status i s j hj set)
  | gapTimerExpiry | imageLoadEnd | orderFrameEnd | tripAllFrameEnd | replyTimeout | graceTimerExpiry | settleTimerExpiry
  | replySent =>
    cases ran
    simp [set]
  | saveEnd | linkTimeout | blindTimerExpiry | quietReached | pollTimerExpiry | restoreSpacingExpiry | shedDelayExpiry
  | shedStepTimeout | restartDelayExpiry | restartStepTimeout | consentWindowExpiry =>
    cases ran
    (repeat' split) <;> simp [set]

/-- A SET fault status stands over every command but a cold reset and FAULT_CLEAR (R174, R178, R181). -/
theorem exec_status_set {j : Nat} (hj : j < 12) (ran : exec c s = .next t) (cold : c ≠ .coldReset)
    (raw : c.bringsAnyRequest = false) (noClear : ∀ p l, c ≠ .faultClear p l) (set : s.fmn.status[j] = true) :
    t.fmn.status[j] = true := by
  cases asked : c.request with
  | none => exact exec_status_stands ran cold raw asked hj set
  | some request =>
    obtain ⟨p, code, payload⟩ := request
    have other : code ≠ 0x28 := by
      rintro rfl
      cases c <;> cases asked <;> simp_all [Instr.bringsAnyRequest]
    rw [exec_request asked] at ran
    cases ran
    rcases takeFrame_cases p code payload (serveCode p code payload) s with ⟨-, long⟩ | ⟨-, -, busy⟩ | ⟨-, -, free⟩
    · simpa [long] using set
    · simpa [busy] using set
    · rw [free]
      exact serveCode_status p code payload _ other hj set

/-! ### What follows of itself (R118, R148; O14) -/

/-- Among what follows of itself only the completion of a restart, which closes the event in WATCH, lowers D or releases a line. -/
theorem settleOnce_lowers (follows : settleOnce s = some t)
    (lowers : t.seq.depth < s.seq.depth ∨ ∃ l : Fin 4, s.dtu.lines[l] = true ∧ t.dtu.lines[l] = false) :
    s.seq.state = .restarting ∧ s.pls.active.restartLen ≤ s.seq.restartPointer ∧ t = closeEvent (setSequence .watch s) := by
  have kept (stands : EventStands s t) : False := by
    rcases lowers with below | ⟨l, held, released⟩
    · exact absurd stands.1 (not_le.mpr below)
    · exact absurd (stands.2 l held) (Bool.eq_false_iff.mp released)
  rcases settleOnce_guards follows with ⟨runs, next⟩ | ⟨runs, next⟩ | ⟨complete, next⟩ | ⟨p, -, next⟩
  · exact (kept (next ▸ (shedStepDone_calm runs).stands)).elim
  · exact (kept (next ▸ (restartStepDone_calm runs).stands)).elim
  · obtain ⟨restarting, ended⟩ := restartComplete_items complete
    exact ⟨restarting, ended, next.trans (by rw [completeRestart])⟩
  · exact (kept (next ▸ .of_same (by simp) (by simp))).elim

/-- Settles O14: the veto flags and the fault statuses operation by operation; D and the lines by what a command does to the event, which
the ground side, the loop, the timers, a load, a commit and the other requests each keep. -/
theorem standingFlagsChangeOnlyBy : Obligations.StandingFlagsChangeOnlyBy := by
  refine ⟨fun c s t p ran cold raw noVeto noClear => exec_veto_flag p ran cold raw noVeto noClear,
    fun c s t k ran cold raw noClear set => exec_status_set k.idx.isLt ran cold raw noClear set,
    fun c s t chains ran cold warm below => ?depth, fun c s t l chains ok ran cold held released => ?line,
    fun s t follows lowers => settleOnce_lowers follows lowers⟩
  case depth =>
    rcases exec_after chains ran cold warm with stands | ended | ⟨low, -⟩
    · exact absurd stands.1 (not_le.mpr below)
    · exact ended
    · omega
  case line =>
    by_cases warm : c = .warmReset
    · subst warm
      cases ran
      have stands : (warmReset s).dtu = s.dtu := by simp [warmReset]
      rw [stands, held] at released
      cases released
    · rcases exec_after chains ran cold warm with stands | ended | ⟨-, shuts⟩
      · exact absurd (stands.2 l held) (Bool.eq_false_iff.mp released)
      · exact .inr ended
      · exact .inl (shuts ok)

end Sys2Proof.Machine

/-! PROOFS of the family 09_journal_and_fault_monitor. -/

namespace Sys2Proof.Machine

/-! ### A property that every step keeps, by the kinds of command -/

/-- A property kept by each change of the ports alone, by each request in service, by each command that brings no request, and by a ms. -/
structure CommandInvariant (P : State → Prop) : Prop where
  ports {s t : State} : PortsMoved s t → P s → P t
  serve {s : State} (p : Fin 3) (code : Byte) (payload : List Byte) : P s → P (serveCode p code payload s)
  unasked {s t : State} {c : Instr} : c.request = none → c.bringsAnyRequest = false → exec c s = .next t → P s → P t
  elapse {s : State} : P s → P (elapse s)
  queue {s : State} (l : List Instr) : P s → P { s with pending := l }

namespace CommandInvariant

variable {P : State → Prop} {s t : State}

/-- A valid frame at a supervisory port (R157 to R159). -/
theorem takeFrame_keeps (I : CommandInvariant P) (p : Fin 3) (code : Byte) (payload : List Byte) (h : P s) :
    P (takeFrame p code payload (serveCode p code payload) s) := by
  rcases takeFrame_cases p code payload (serveCode p code payload) s with ⟨-, long⟩ | ⟨-, -, busy⟩ | ⟨-, -, free⟩
  · exact long ▸ I.ports (modPort_moves ..) h
  · exact busy ▸ I.ports (answerBusy_moves ..) h
  · exact free ▸ I.serve p code payload (I.ports (modPort_moves ..) h)

/-- A byte at a supervisory port (R157). -/
theorem requestByte_keeps (I : CommandInvariant P) (p : Fin 3) (b : LineByte) (h : P s) : P (requestByte p s b) := by
  have moved (rx : Rx) : P (s.modPort p (fun q => { q with rx := rx })) := I.ports (modPort_moves ..) h
  obtain ⟨rx, gathered | counted | ⟨code, payload, frame⟩⟩ := requestByte_cases p s b
  · exact gathered ▸ moved rx
  · exact counted ▸ I.ports (modPort_moves ..) (moved rx)
  · exact frame ▸ I.takeFrame_keeps p code payload (moved rx)

/-- A command. -/
theorem exec_keeps (I : CommandInvariant P) {c : Instr} (ran : exec c s = .next t) (h : P s) : P t := by
  cases asked : c.request with
  | some request =>
    rw [exec_request asked] at ran
    cases ran
    exact I.takeFrame_keeps _ _ _ h
  | none =>
    cases raw : c.bringsAnyRequest with
    | false => exact I.unasked asked raw ran h
    | true =>
      cases c with
      | requestFrameInvalid p bytes =>
        cases ran
        exact List.foldlRecOn bytes (requestByte p) h fun _ kept b _ => I.requestByte_keeps p b kept
      | requestIdleAbandon p b => cases ran; exact I.ports (idleAbandon_moves p b s) h
      | requestWhileBusy | unknownRequest => nomatch asked
      | _ => nomatch raw

/-- A step: a command, a ms, or an expiry queued. -/
theorem step_keeps (I : CommandInvariant P) (ran : step s = .next t) (h : P s) : P t := by
  rcases step_cases ran with ⟨c, rest, -, run⟩ | rfl | ⟨l, rfl⟩
  · exact I.exec_keeps run (I.queue rest h)
  · exact I.elapse h
  · exact I.queue l h

end CommandInvariant

end Sys2Proof.Machine

namespace Sys2Proof.Machine

variable {s t : State}

/-! ### The journal's bounds (R169, R171; O6) -/

/-- A read by a port keeps the journal's bounds: its unread count falls, and its lost count is 0 (R173). -/
@[simp] theorem Journal.read_journal (j : Journal) (p : Fin 3) (n : Nat) (h : JournalOk j) : JournalOk (j.read p n) := by
  obtain ⟨held, counts⟩ := h
  refine ⟨held, fun q => ?_⟩
  obtain ⟨unread, lost⟩ := counts q
  by_cases caller : p = q
  · subst caller
    simp only [Journal.read, vector_set_self]
    exact ⟨(Nat.sub_le ..).trans unread, Nat.zero_le _⟩
  · simp only [Journal.read, vector_set_other _ _ _ _ caller]
    exact ⟨unread, lost⟩

/-- Each request keeps the journal's bounds. -/
theorem serveCode_journal (p : Fin 3) (code : Byte) (payload : List Byte) (h : JournalOk s.jrn) :
    JournalOk (serveCode p code payload s).jrn := by
  unfold serveCode
  split
  -- Case 20 is a code of no row.
  case h_20 => simpa using h
  all_goals
    simp only [serveStatus, serveIdent, serveStationDetail, servePointDetail, serveSequenceDetail, serveJournalRead,
      serveNoticeMask, serveClaim, serveRelease, servePlanWrite, servePlanRead, serveCommit, serveSave, serveConsent, serveVeto,
      serveVetoClear, serveFaultClear, serveManualShed, serveManualRestore, withRight, withNoParam, withPoint]
    (repeat' split) <;> simp [h]

/-- The empty journal is within its bounds. -/
theorem reset_journal : JournalOk State.reset.jrn := ⟨Nat.zero_le _, fun p => by fin_cases p <;> exact ⟨le_rfl, Nat.zero_le _⟩⟩

/-- Each command that brings no request keeps the journal's bounds. -/
theorem exec_journal {c : Instr} (unasked : c.request = none) (raw : c.bringsAnyRequest = false) (ran : exec c s = .next t)
    (h : JournalOk s.jrn) : JournalOk t.jrn := by
  cases c with
  | status | ident | stationDetail | pointDetail | sequenceDetail | journalRead | noticeMask | claim | release | planWrite | planRead
  | commit | save | consent | veto | vetoClear | faultClear | manualShed | manualRestore => nomatch unasked
  | requestFrameInvalid | requestIdleAbandon | requestWhileBusy | unknownRequest => nomatch raw
  | coldReset => cases ran; exact reset_journal
  | warmReset => cases ran; exact h
  | loopReplyFrame bytes => cases ran; exact foldl_journal loopByte (fun u b kept => loopByte_journal u b kept) bytes s h
  | loopIdleAbandon b =>
    cases ran
    exact foldl_journal loopByte (fun u b kept => loopByte_journal u b kept) _ _ (by simpa using h)
  | sensorFrame i bytes => cases ran; exact foldl_journal (sensorByte i) (fun u b kept => sensorByte_journal i u b kept) bytes s h
  | sensorIdleAbandon i b =>
    cases ran
    split
    · exact h
    · exact foldl_journal (sensorByte i) (fun u b kept => sensorByte_journal i u b kept) _ _ (abandonFrame_journal i s h)
  | gapTimerExpiry | imageLoadEnd | orderFrameEnd | tripAllFrameEnd | replyTimeout | graceTimerExpiry | settleTimerExpiry
  | replySent =>
    cases ran
    simp [h]
  | saveEnd | linkTimeout | blindTimerExpiry | quietReached | pollTimerExpiry | restoreSpacingExpiry | shedDelayExpiry
  | shedStepTimeout | restartDelayExpiry | restartStepTimeout | consentWindowExpiry =>
    cases ran
    (repeat' split) <;> simp [h]

/-- The journal's bounds are kept by every command. -/
theorem journalOk_commands : CommandInvariant (fun s => JournalOk s.jrn) where
  ports moved h := by
    obtain ⟨v, rfl⟩ := moved
    exact h
  serve p code payload h := serveCode_journal p code payload h
  unasked unasked raw ran h := exec_journal unasked raw ran h
  elapse h := h
  queue _ h := h

/-- Settles O6: a posting and a read keep the bounds, and no command does anything else to the journal's counts. -/
theorem journalBoundsKept : Obligations.JournalBoundsKept :=
  fun _ _ h ran => journalOk_commands.step_keeps ran h

end Sys2Proof.Machine

namespace Sys2Proof.Machine

variable {s t : State}

/-! ### The FAULT line (R180; O8) -/

/-- The FAULT line stands in a state that has the active plan of another, if it stands as the statuses say under that one's policy. -/
theorem faultLineOk_of_line (active : t.pls.active = s.pls.active)
    (line : LineOk t.fmn.line t.fmn.status s.pls.active.policy) : FaultLineOk t :=
  (faultLineOk_iff t).mpr (active ▸ line)

/-- Each request but COMMIT keeps the FAULT line under the policy in force, which it leaves. -/
theorem serveCode_line (p : Fin 3) (code : Byte) (payload : List Byte) (s : State) (other : code ≠ 0x14)
    (h : LineOk s.fmn.line s.fmn.status s.pls.active.policy) :
    LineOk (serveCode p code payload s).fmn.line (serveCode p code payload s).fmn.status s.pls.active.policy := by
  unfold serveCode
  split
  -- Case 12 is COMMIT, and case 20 a code of no row.
  case h_12 is => exact absurd (BitVec.eq_of_toNat_eq is) other
  case h_20 => simpa using h
  all_goals
    simp only [serveStatus, serveIdent, serveStationDetail, servePointDetail, serveSequenceDetail, serveJournalRead,
      serveNoticeMask, serveClaim, serveRelease, servePlanWrite, servePlanRead, serveSave, serveConsent, serveVeto,
      serveVetoClear, serveFaultClear, serveManualShed, serveManualRestore, withRight, withNoParam, withPoint]
    (repeat' split) <;> simp [h]

/-- What follows of itself keeps the FAULT line. -/
theorem settle_faultLineOk (h : FaultLineOk s) : FaultLineOk (settle s) :=
  faultLineOk_of_line (s := s) (by simp) (settle_faultLine s _ rfl h)

/-- The way out of NO_PLAN keeps the FAULT line (R61). -/
theorem leaveNoPlan_faultLineOk (h : FaultLineOk s) : FaultLineOk (leaveNoPlan s) :=
  faultLineOk_of_line (s := s) (by simp) (leaveNoPlan_faultLine s _ rfl h)

/-- The FAULT line is judged by the new plan while it is handed over (R58, R60). -/
theorem commitHandOver_faultLineOk (old : Plan) (s : State) : FaultLineOk (commitHandOver old s) :=
  faultLineOk_of_line (s := s) (by simp) (commitHandOver_faultLine old s _ rfl)

/-- A commit that passes its checks judges the FAULT line by the new policy (R58, R180). -/
theorem commitPlan_faultLineOk (p : Fin 3) (shadow : Plan) (s : State) : FaultLineOk (commitPlan p shadow s) := by
  unfold commitPlan
  exact settle_faultLineOk (leaveNoPlan_faultLineOk (commitHandOver_faultLineOk ..))

/-- COMMIT at the PLS (R57, R58). -/
theorem ownerCommit_faultLineOk (p : Fin 3) (save : Bool) (h : FaultLineOk s) : FaultLineOk (ownerCommit p save s) := by
  have replied (status : ReplyStatus) (payload : List Byte) : FaultLineOk (reply p status payload s) := h
  unfold ownerCommit
  split
  · exact replied _ _
  · next c _ =>
    split
    · exact replied _ _
    · split
      · exact replied _ _
      · split
        · exact replied _ _
        · have committed := (faultLineOk_iff _).mp (commitPlan_faultLineOk p c.shadow s)
          exact faultLineOk_of_line (s := commitPlan p c.shadow s) (by simp) (by simpa using committed)

/-- COMMIT (R57). -/
theorem serveCommit_faultLineOk (p : Fin 3) (payload : List Byte) (h : FaultLineOk s) : FaultLineOk (serveCommit p payload s) := by
  have refused (status : ReplyStatus) : FaultLineOk (refuse p status s) := h
  unfold serveCommit withRight
  split
  · split
    · split
      · exact ownerCommit_faultLineOk p false h
      · split
        · exact ownerCommit_faultLineOk p true h
        · exact refused _
    · exact refused _
  · exact refused _

/-- Each request keeps the FAULT line. -/
theorem serveCode_faultLineOk (p : Fin 3) (code : Byte) (payload : List Byte) (h : FaultLineOk s) :
    FaultLineOk (serveCode p code payload s) := by
  by_cases commit : code = 0x14
  · subst commit
    exact serveCommit_faultLineOk p payload h
  · exact faultLineOk_of_line (serveCode_plans p payload s commit).1 (serveCode_line p code payload s commit h)

/-- The end of a load judges the FAULT line by the plan it leaves in force (R180, R186). -/
theorem imageLoadEnd_faultLineOk (image : List Byte) (h : FaultLineOk s) : FaultLineOk (imageLoadEnd image s) := by
  unfold imageLoadEnd
  split
  · split
    · next pl _ =>
      have handed (u : State) : FaultLineOk (loadHandOver u) :=
        faultLineOk_of_line (s := u) (by simp) (loadHandOver_faultLine u _ rfl)
      have round {u : State} (h : FaultLineOk u) : FaultLineOk (beginRound u) :=
        faultLineOk_of_line (s := u) (by simp) (beginRound_faultLine u _ rfl h)
      unfold loadSucceeds
      exact round (handed _)
    · next reason _ => exact faultLineOk_of_line (s := s) (by rw [(loadFails_items reason s).1]) (loadFails_faultLine reason s _ rfl h)
  · exact h

/-- With no status SET the line is released (R180). -/
theorem reset_faultLineOk : FaultLineOk State.reset := by
  unfold FaultLineOk
  decide

/-- Bytes on the loop keep the FAULT line under a policy (R95). -/
theorem loopBytes_line (bytes : List LineByte) (s : State) (h : LineOk s.fmn.line s.fmn.status s.pls.active.policy) :
    LineOk (bytes.foldl loopByte s).fmn.line (bytes.foldl loopByte s).fmn.status s.pls.active.policy :=
  foldl_faultLine loopByte (by simp) loopByte_faultLine bytes s _ rfl h

/-- Bytes at a sensor port keep the FAULT line under a policy (R1, R2). -/
theorem sensorBytes_line (i : Fin 6) (bytes : List LineByte) (s : State) (h : LineOk s.fmn.line s.fmn.status s.pls.active.policy) :
    LineOk (bytes.foldl (sensorByte i) s).fmn.line (bytes.foldl (sensorByte i) s).fmn.status s.pls.active.policy :=
  foldl_faultLine (sensorByte i) (by simp) (sensorByte_faultLine i) bytes s _ rfl h

/-- A port reset leaves the active plan (R158). -/
theorem portReset_active (p : Fin 3) (s : State) : (portReset p s).pls.active = s.pls.active := by
  rcases portReset_plans p s with pls | pls <;> rw [pls]

/-- A command that brings no request keeps the FAULT line under the policy in force, but for a reset and the end of a load. -/
theorem exec_line {c : Instr} (unasked : c.request = none) (raw : c.bringsAnyRequest = false) (cold : c ≠ .coldReset)
    (warm : c ≠ .warmReset) (load : ∀ image, c ≠ .imageLoadEnd image) (ran : exec c s = .next t) (h : FaultLineOk s) :
    t.pls.active = s.pls.active ∧ LineOk t.fmn.line t.fmn.status s.pls.active.policy := by
  rw [faultLineOk_iff] at h
  cases c with
  | status | ident | stationDetail | pointDetail | sequenceDetail | journalRead | noticeMask | claim | release | planWrite | planRead
  | commit | save | consent | veto | vetoClear | faultClear | manualShed | manualRestore => nomatch unasked
  | requestFrameInvalid | requestIdleAbandon | requestWhileBusy | unknownRequest => nomatch raw
  | coldReset => exact absurd rfl cold
  | warmReset => exact absurd rfl warm
  | imageLoadEnd image => exact absurd rfl (load image)
  | loopReplyFrame bytes => cases ran; exact ⟨by simp, loopBytes_line bytes s h⟩
  | loopIdleAbandon b =>
    cases ran
    have kept := loopBytes_line (optionBytes b) (abandonReply s) (by simpa using h)
    exact ⟨by simp, by simpa using kept⟩
  | sensorFrame i bytes => cases ran; exact ⟨by simp, sensorBytes_line i bytes s h⟩
  | sensorIdleAbandon i b =>
    cases ran
    split
    · exact ⟨rfl, h⟩
    · have kept := sensorBytes_line i (optionBytes b) (abandonFrame i s) (by simpa using abandonFrame_faultLine i s _ rfl h)
      exact ⟨by simp, by simpa using kept⟩
  | gapTimerExpiry | orderFrameEnd | tripAllFrameEnd | replyTimeout
  | graceTimerExpiry | settleTimerExpiry | replySent =>
    cases ran
    simp [h]
  | saveEnd | linkTimeout | blindTimerExpiry | quietReached | pollTimerExpiry | restoreSpacingExpiry
  | shedDelayExpiry | shedStepTimeout | restartDelayExpiry | restartStepTimeout | consentWindowExpiry =>
    cases ran
    (repeat' split) <;> simp [h, portReset_active]

/-- The FAULT line is kept by every command. -/
theorem faultLineOk_commands : CommandInvariant FaultLineOk where
  ports moved h := by
    obtain ⟨v, rfl⟩ := moved
    exact h
  serve p code payload h := serveCode_faultLineOk p code payload h
  unasked {s t c} unasked raw ran h := by
    cases c with
    | coldReset => cases ran; exact reset_faultLineOk
    | warmReset => cases ran; exact driveFault_faultLineOk _
    | imageLoadEnd image => cases ran; exact imageLoadEnd_faultLineOk image h
    | _ =>
      obtain ⟨active, line⟩ := exec_line unasked raw nofun nofun nofun ran h
      exact faultLineOk_of_line active line
  elapse h := h
  queue _ h := h

/-- Settles O8: every change of a status and every new plan is followed by a judgement of the line under the policy in force, before
the command ends. -/
theorem faultLineKept : Obligations.FaultLineKept :=
  fun _ _ h ran => faultLineOk_commands.step_keeps ran h

end Sys2Proof.Machine

namespace Sys2Proof.Machine

/-! ### The resets (R181; O4, O5) -/

/-- The FAULT line re-evaluated is asserted exactly while a kind is SET, unmasked and DEGRADING (R180). -/
theorem faultLineNow_iff (s : State) : s.faultLineNow = true ↔
    ∃ k : FaultKind, s.fmn.status[k.idx] = true ∧ s.pls.active.policy[k.idx].masked = false
      ∧ s.pls.active.policy[k.idx].severity = .degrading := by
  have listed (k : FaultKind) : k ∈ FaultKind.all := by cases k <;> decide
  simp [State.faultLineNow, State.drivesFault, State.policyOf, listed, and_assoc]

/-- Settles O4: both resets field by field; after a warm one the line is judged by the factory policy. -/
theorem resetsStartAfresh : Obligations.ResetsStartAfresh := by
  refine ⟨fun _ => rfl, fun s => ⟨warmReset s, rfl, rfl, rfl, rfl, rfl, rfl, rfl, fun k => ?_, ?_, rfl, rfl, rfl, rfl, rfl, rfl, rfl,
    rfl, rfl⟩⟩
  · cases k <;> rfl
  · exact faultLineNow_iff _

/-- Settles O5: the invariants of the steps by what each was proved to hold of a part that starts. -/
theorem invariantsHoldAtReset : Obligations.InvariantsHoldAtReset := by
  have plan : PlanOk State.reset := planOk_of_start rfl rfl
  have ⟨loading, tracker, _⟩ := plan
  refine ⟨reset_journal, ?attention, reset_faultLineOk, healthyOk_sensed.start rfl rfl, motionOk_sensed.start rfl rfl,
    loading, tracker, ?queues, reset_plantOk, chains_control.start rfl, plan⟩
  case attention => unfold AttentionOk; decide
  case queues =>
    refine ⟨fun p => ?_, nofun⟩
    have empty : State.reset.spu.ports[p] = Port.start := by fin_cases p <;> rfl
    have owes : ¬ State.reset.owesReply p := by rintro ⟨f, ⟨⟩, -⟩
    rw [empty]
    exact ⟨Nat.zero_le _, Nat.zero_le _, nofun, fun owed => absurd owed owes⟩

end Sys2Proof.Machine

namespace Sys2Proof.Machine

/-! ### JOURNAL_READ (R173; O46) -/

/-- Settles O46: the request taken at a free port is answered at once, and the journal alone changes beside the port. -/
theorem journalReadReturns : Obligations.JournalReadReturns := by
  intro s p b ready count
  have served : exec (.journalRead p [b]) s = .next (serveJournalRead p [b] (s.taken p 0x06)) :=
    congrArg _ (takeFrame_ready ready 0x06 [b] (by simp) _)
  dsimp only
  rw [served]
  simp only [serveJournalRead, if_pos count]
  exact congrArg _ (reply_replied p 0x06 .ok _ { s.taken p 0x06 with jrn := s.jrn.read p (min b.toNat 4) }
    (State.taken_service s p 0x06))

end Sys2Proof.Machine

namespace Sys2Proof.Machine

variable {s : State}

/-! ### A posting: the ring and the counts (R171; O57) -/

/-- A count of each port is read as the function gives it. -/
theorem perPort_get {α : Type} (f : Fin 3 → α) (p : Fin 3) : (perPort f)[p] = f p := by
  fin_cases p <;> rfl

/-- The ring after a posting: at 128 records the oldest leaves (R171). -/
theorem Journal.push_ring (j : Journal) (b : Body) :
    (j.push b).ring = (if 128 ≤ j.ring.length then j.ring.drop 1 else j.ring) ++ [⟨j.clock, b⟩] := by
  simp [Journal.push]

/-- A port's unread count after a posting: it rises, unless the port loses an unread record (R171). -/
theorem Journal.push_unread (j : Journal) (b : Body) (p : Fin 3) : (j.push b).unread[p]
    = if 128 ≤ j.ring.length ∧ 128 ≤ j.unread[p] then j.unread[p] else j.unread[p] + 1 := by
  simp only [Journal.push, perPort_get, Bool.and_eq_true, decide_eq_true_eq]

/-- A port's lost count after a posting: it rises, up to 255, if the port loses an unread record (R171). -/
theorem Journal.push_lost (j : Journal) (b : Body) (p : Fin 3) : (j.push b).lost[p]
    = if 128 ≤ j.ring.length ∧ 128 ≤ j.unread[p] then min (j.lost[p] + 1) 255 else j.lost[p] := by
  simp only [Journal.push, perPort_get, Bool.and_eq_true, decide_eq_true_eq]

/-- A posting below 128 records (R171). -/
theorem Journal.push_below {j : Journal} (b : Body) (room : j.ring.length < 128) :
    (j.push b).ring = j.ring ++ [⟨j.clock, b⟩]
      ∧ ∀ p : Fin 3, (j.push b).unread[p] = j.unread[p] + 1 ∧ (j.push b).lost[p] = j.lost[p] := by
  have below : ¬ 128 ≤ j.ring.length := by omega
  simp only [Journal.push_ring, Journal.push_unread, Journal.push_lost, below, false_and, if_false, and_self, implies_true]

/-- A posting at 128 records (R171). -/
theorem Journal.push_full {j : Journal} (b : Body) (bounds : JournalOk j) (full : j.ring.length = 128) :
    (j.push b).ring = j.ring.drop 1 ++ [⟨j.clock, b⟩]
      ∧ ∀ p : Fin 3, (j.push b).unread[p] = (if j.unread[p] < 128 then j.unread[p] + 1 else 128)
        ∧ (j.push b).lost[p] = (if j.unread[p] < 128 then j.lost[p] else min (j.lost[p] + 1) 255) := by
  refine ⟨by rw [Journal.push_ring, if_pos full.ge], fun p => ?_⟩
  obtain ⟨unread, -⟩ := bounds.2 p
  rw [Journal.push_unread, Journal.push_lost]
  by_cases read : j.unread[p] < 128
  · simp only [read, not_le.mpr read, and_false, if_false, if_true, and_self]
  · have all : j.unread[p] = 128 := by omega
    simp [full, all]

/-! ### A posting: the JOURNAL flags (R167, R171; O57) -/

/-- The JOURNAL flag is a matter of one port: it is raised when the posting has raised the port's unread count to its watermark or
above. -/
theorem noteUnread_eq (before : Journal) (i : Fin 3) (s : State) :
    noteUnread before i s = s.modPort i (fun q =>
      if before.unread[i] < s.jrn.unread[i] ∧ q.watermark ≤ s.jrn.unread[i] then q.raise .journal else q) := by
  unfold noteUnread
  split
  · next noted => simp only [raiseOn, State.modPort, if_pos noted]
  · next unnoted =>
    simp only [State.modPort, if_neg unnoted]
    simp

/-- A posting changes the journal and the ports alone. -/
theorem postRecord_moves (b : Body) (s : State) : PortsMoved { s with jrn := s.jrn.push b } (postRecord b s) := by
  have noted (i : Fin 3) (u : State) : PortsMoved u (noteUnread s.jrn i u) := noteUnread_eq s.jrn i u ▸ modPort_moves ..
  exact ((noted 0 _).trans (noted 1 _)).trans (noted 2 _)

/-- A posting writes the journal, and each port has its flag or stands (R167). -/
theorem postRecord_eq (b : Body) (s : State) :
    postRecord b s = { s with jrn := s.jrn.push b, spu := (postRecord b s).spu } := by
  obtain ⟨v, posted⟩ := postRecord_moves b s
  rw [posted]

/-- A port after a posting (R167). -/
theorem postRecord_get (b : Body) (s : State) (p : Fin 3) : (postRecord b s).spu.ports[p]
    = if s.jrn.unread[p] < (s.jrn.push b).unread[p] ∧ s.spu.ports[p].watermark ≤ (s.jrn.push b).unread[p]
      then s.spu.ports[p].raise .journal else s.spu.ports[p] := by
  simp only [postRecord, noteUnread_eq, State.modPort_get, State.modPort_frame]
  fin_cases p <;> simp

/-! ### A posting: JOURNAL_OVERRUN (R171; O57) -/

/-- The ports in order. -/
theorem ports_finRange : ([0, 1, 2] : List (Fin 3)) = List.finRange 3 := rfl

/-- No lost count rose from 0 to 1 (R171). -/
theorem overrunPort_eq_none {before after : Journal} :
    overrunPort before after = none ↔ ∀ p : Fin 3, ¬ (before.lost[p] = 0 ∧ after.lost[p] = 1) := by
  rw [overrunPort, ports_finRange, ← Fin.find?_eq_find?_finRange, Fin.find?_eq_none_iff]
  simp

/-- The lowest port whose lost count rose from 0 to 1 (R171). -/
theorem overrunPort_eq_some {before after : Journal} {p : Fin 3} : overrunPort before after = some p
    ↔ (before.lost[p] = 0 ∧ after.lost[p] = 1) ∧ ∀ q : Fin 3, q < p → ¬ (before.lost[q] = 0 ∧ after.lost[q] = 1) := by
  rw [overrunPort, ports_finRange, ← Fin.find?_eq_find?_finRange, Fin.find?_eq_some_iff]
  simp

/-- JOURNAL_OVERRUN that is SET is not set again (R176). -/
theorem raiseOverrun_set (o : Option (Fin 3)) (set : s.fmn.status[FaultKind.journalOverrun.idx] = true) :
    raiseOverrun o s = s := by
  cases o with
  | none => rfl
  | some p => exact if_pos set

/-- JOURNAL_OVERRUN that is CLEAR is set for the port (R171, R176). -/
theorem raiseOverrun_clear (p : Fin 3) (clear : s.fmn.status[FaultKind.journalOverrun.idx] = false) :
    raiseOverrun (some p) s = setStatus .journalOverrun (.port p) s :=
  if_neg (Bool.eq_false_iff.mp clear)

/-- A posting is the record with its flags, then the overrun that it causes (R171). -/
theorem post_eq (b : Body) (s : State) :
    post b s = raiseOverrun (overrunPort s.jrn (s.jrn.push b)) (postRecord b s) := by
  rw [post, postRecord_jrn]

/-! ### The 16 bytes of a record (f11 section 11.5; O57) -/

/-- The fields of a record take at most the 11 bytes from offset 5. -/
theorem Body.fields_length_le (b : Body) : b.fields.length ≤ 11 := by
  cases b with
  | fault k d => cases d <;> simp [Body.fields, Detail.bytes]
  | _ => simp [Body.fields, halfBytes]

/-- A record's bytes: the kind, the timestamp, the fields and zeros up to 16. -/
theorem Record.bytes_eq (r : Record) : r.bytes
    = [r.body.kindCode] ++ stampBytes r.time ++ r.body.fields ++ List.replicate (11 - r.body.fields.length) 0 := by
  have zeros : 16 - (r.body.kindCode :: stampBytes r.time ++ r.body.fields).length = 11 - r.body.fields.length := by
    simp [stampBytes]
  simp only [Record.bytes, zeros]
  rfl

/-- A record is 16 bytes. -/
theorem Record.bytes_length (r : Record) : r.bytes.length = 16 := by
  have fits := r.body.fields_length_le
  rw [Record.bytes_eq]
  simp [stampBytes]
  omega

/-- Settles O57: the journal, the flags and the overrun of a posting each by its own equation; the record's layout kind by kind. -/
theorem journalPosting : Obligations.JournalPosting := by
  refine ⟨fun s b bounds => ⟨Journal.push_below b, Journal.push_full b bounds, rfl, postRecord_eq b s, postRecord_get b s,
    fun quiet => ?_, fun p rises lost lowest clear => ?_⟩, fun r => ⟨r.bytes_length, ?_⟩⟩
  · rw [post_eq]
    rcases quiet with none_rises | set
    · rw [overrunPort_eq_none.mpr none_rises]
      rfl
    · exact raiseOverrun_set _ (by simpa using set)
  · rw [post_eq, overrunPort_eq_some.mpr ⟨⟨rises, lost⟩, lowest⟩]
    exact raiseOverrun_clear p (by simpa using clear)
  · rw [Record.bytes_eq]
    obtain ⟨time, body⟩ := r
    cases body with
    | reset k g => cases k <;> rfl
    | step c k m => cases c <;> cases m <;> rfl
    | _ => rfl

end Sys2Proof.Machine

namespace Sys2Proof.Machine

variable {s : State} {k : FaultKind} {d : Detail}

/-! ### A fault raised (R176, R179; O58) -/

/-- A masked kind is offered to neither the pointer nor the ports (R179). -/
theorem offerFault_masked (masked : s.pls.active.policy[k.idx].masked = true) : offerFault k d s = s := if_pos masked

/-- An unmasked kind takes the pointer and the capture that nothing holds (R179). -/
theorem offerFault_free (unmasked : s.pls.active.policy[k.idx].masked = false) (free : s.fmn.pointer = none) : offerFault k d s
    = raiseAll .fault { s with fmn.pointer := some k, fmn.capture := some ⟨k, d, s.jrn.clock⟩ } := by
  have offered : ¬ (s.policyOf k).masked = true := Bool.eq_false_iff.mp unmasked
  simp only [offerFault, if_neg offered, free]

/-- An unmasked kind leaves the pointer and the capture that another holds (R179). -/
theorem offerFault_held (unmasked : s.pls.active.policy[k.idx].masked = false) (held : s.fmn.pointer ≠ none) :
    offerFault k d s = raiseAll .fault s := by
  have offered : ¬ (s.policyOf k).masked = true := Bool.eq_false_iff.mp unmasked
  obtain ⟨holder, pointer⟩ := Option.ne_none_iff_exists'.mp held
  simp only [offerFault, if_neg offered, pointer]

/-- An offer leaves the statuses. -/
theorem offerFault_statuses (k : FaultKind) (d : Detail) (s : State) : (offerFault k d s).fmn.status = s.fmn.status := by
  unfold offerFault
  split
  · rfl
  · cases s.fmn.pointer <;> simp

/-- A flag raised on every port stands on each (R166). -/
theorem raiseAll_flags (n : Notice) (s : State) (p : Fin 3) :
    (raiseAll n s).spu.ports[p].flags = s.spu.ports[p].flags ||| n.bit := by
  simp only [raiseAll, raiseOn, State.modPort_get]
  fin_cases p <;> simp

/-- A flag raised stands. -/
theorem raiseAll_stands (n : Notice) (s : State) (p : Fin 3) : (raiseAll n s).spu.ports[p].flags &&& n.bit = n.bit := by
  rw [raiseAll_flags]
  ext i
  rw [BitVec.getElem_and, BitVec.getElem_or]
  cases n.bit[i] <;> simp

/-- The line re-evaluated leaves the statuses, the pointer and the capture. -/
theorem driveFault_first (s : State) : (driveFault s).fmn.status = s.fmn.status ∧ (driveFault s).fmn.pointer = s.fmn.pointer
    ∧ (driveFault s).fmn.capture = s.fmn.capture := ⟨rfl, rfl, rfl⟩

/-- A kind that is SET is not raised again (R176). -/
theorem raiseFault_set (d : Detail) (set : s.fmn.status[k.idx] = true) : raiseFault k d s = s := if_pos set

/-- A kind that is CLEAR is raised whole, then the overrun that its record causes (R176; log 22). -/
theorem raiseFault_clear (d : Detail) (clear : s.fmn.status[k.idx] = false) :
    raiseFault k d s = raiseOverrun (overrunPort s.jrn (setStatus k d s).jrn) (setStatus k d s) :=
  if_neg (Bool.eq_false_iff.mp clear)

/-- The state in which a kind has its status and its record, before it is offered (R176). -/
def State.recorded (s : State) (k : FaultKind) (d : Detail) : State :=
  postRecord (.fault k d) { s with fmn.status := s.fmn.status.set k.idx true }

/-- A status set is recorded, offered, and the line re-evaluated (R176). -/
theorem setStatus_recorded (k : FaultKind) (d : Detail) (s : State) : setStatus k d s = driveFault (offerFault k d (s.recorded k d)) := rfl

/-- What a kind recorded leaves and writes. -/
theorem State.recorded_items (s : State) (k : FaultKind) (d : Detail) :
    (s.recorded k d).fmn = { s.fmn with status := s.fmn.status.set k.idx true } ∧ (s.recorded k d).pls = s.pls
      ∧ (s.recorded k d).jrn = s.jrn.push (.fault k d) :=
  ⟨by simp [State.recorded], by simp [State.recorded], postRecord_jrn ..⟩

/-- The statuses and the journal after a kind is set (R176). -/
theorem setStatus_items (k : FaultKind) (d : Detail) (s : State) :
    (setStatus k d s).fmn.status = s.fmn.status.set k.idx true ∧ (setStatus k d s).jrn = s.jrn.push (.fault k d) := by
  obtain ⟨fmn, -, jrn⟩ := s.recorded_items k d
  constructor
  · rw [setStatus_recorded, driveFault, offerFault_statuses, fmn]
  · rw [setStatus_recorded]
    simpa using jrn

/-- A masked kind leaves the pointer and the capture (R179). -/
theorem setStatus_masked (d : Detail) (masked : s.pls.active.policy[k.idx].masked = true) :
    (setStatus k d s).fmn.pointer = s.fmn.pointer ∧ (setStatus k d s).fmn.capture = s.fmn.capture := by
  obtain ⟨fmn, pls, -⟩ := s.recorded_items k d
  rw [setStatus_recorded, offerFault_masked (by rw [pls, masked]), driveFault, fmn]
  exact ⟨rfl, rfl⟩

/-- An unmasked kind has its notice on every port, and takes the pointer and the capture if nothing holds them (R176, R179). -/
theorem setStatus_unmasked (d : Detail) (unmasked : s.pls.active.policy[k.idx].masked = false) :
    (∀ p : Fin 3, (setStatus k d s).spu.ports[p].flags &&& Notice.fault.bit = Notice.fault.bit)
      ∧ (s.fmn.pointer = none → (setStatus k d s).fmn.pointer = some k
        ∧ (setStatus k d s).fmn.capture = some ⟨k, d, s.jrn.clock⟩)
      ∧ (s.fmn.pointer ≠ none → (setStatus k d s).fmn.pointer = s.fmn.pointer
        ∧ (setStatus k d s).fmn.capture = s.fmn.capture) := by
  obtain ⟨fmn, pls, jrn⟩ := s.recorded_items k d
  have offered : (s.recorded k d).pls.active.policy[k.idx].masked = false := by rw [pls, unmasked]
  rw [setStatus_recorded]
  by_cases free : s.fmn.pointer = none
  · rw [offerFault_free offered (by rw [fmn, free])]
    simp only [driveFault_frame, driveFault_first, raiseAll_frame, jrn]
    exact ⟨raiseAll_stands .fault _, fun _ => ⟨trivial, rfl⟩, fun held => absurd free held⟩
  · rw [offerFault_held offered (by rwa [fmn])]
    simp only [driveFault_frame, driveFault_first, raiseAll_frame, fmn]
    exact ⟨raiseAll_stands .fault _, fun none_held => absurd none_held free, fun _ => ⟨trivial, trivial⟩⟩

/-! ### FAULT_CLEAR (R178; O58) -/

/-- The state in which a SET kind has become CLEAR and has given up the pointer and the capture (R178 points 1 and 2). -/
def State.cleared (s : State) (k : FaultKind) : State :=
  { s with fmn := { s.fmn with
    status := s.fmn.status.set k.idx false
    pointer := if s.fmn.pointer = some k then none else s.fmn.pointer
    capture := if s.fmn.pointer = some k then none else s.fmn.capture } }

/-- A kind that is CLEAR stands (R178). -/
theorem clearKind_clear (clear : s.fmn.status[k.idx] = false) : clearKind s k = s := if_neg (Bool.eq_false_iff.mp clear)

/-- A kind that is SET is cleared, and raised again if its condition persists (R178). -/
theorem clearKind_set (set : s.fmn.status[k.idx] = true) : clearKind s k
    = if s.conditionOf k then raiseFault k ((s.cleared k).conditionDetail k) (s.cleared k) else s.cleared k := by
  have stands : (s.cleared k).conditionOf k = s.conditionOf k := by cases k <;> rfl
  rw [← stands, clearKind, if_pos set]
  by_cases holds : s.fmn.pointer = some k <;> simp only [State.cleared, holds, if_true, if_false]

/-- The detail of a condition that is not STATION_UNREACHABLE, or that no station stands for (R178). -/
theorem conditionDetail_none (unnamed : k ≠ .stationUnreachable ∨ ∀ st, ¬ s.unreachableAt st) : s.conditionDetail k = .none := by
  unfold State.conditionDetail
  split
  · next low lowest =>
    exact absurd (State.lowestUnreachable_eq_none.mpr (unnamed.resolve_left (not_not.mpr rfl))) (by simp [lowest])
  · rfl

/-- The detail of STATION_UNREACHABLE is the lowest station that counts (R178). -/
theorem conditionDetail_station {st : Fin 16} (counts : s.unreachableAt st) (lowest : ∀ r, r < st → ¬ s.unreachableAt r) :
    s.conditionDetail .stationUnreachable = .loadStation st := by
  simp only [State.conditionDetail, State.lowestUnreachable_eq_some.mpr ⟨counts, lowest⟩]

/-- FAULT_CLEAR at a free port: the named kinds in number order, the line, and the reply (R178). -/
theorem faultClear_ready {p : Fin 3} {lo hi : Byte} (ready : Ready s p) (named : lo.toNat + 256 * hi.toNat < 4096) :
    let t := driveFault ((namedKinds (lo.toNat + 256 * hi.toNat)).foldl clearKind (s.taken p 0x28))
    exec (.faultClear p [lo, hi]) s = .next (t.replied p 0x28 .ok (t.fmn.bytes t.free)) := by
  have served : exec (.faultClear p [lo, hi]) s = .next (serveFaultClear p [lo, hi] (s.taken p 0x28)) :=
    congrArg _ (takeFrame_ready ready 0x28 [lo, hi] (by simp) _)
  have service (kinds : List FaultKind) :
      (driveFault (kinds.foldl clearKind (s.taken p 0x28))).spu.ports[p].service = some 0x28 :=
    (clearKinds_service kinds _ p p.isLt).trans (State.taken_service ..)
  have taken : serveFaultClear p [lo, hi] (s.taken p 0x28) = ownerFaultClear p (lo.toNat + 256 * hi.toNat) (s.taken p 0x28) :=
    if_pos named
  dsimp only
  rw [served, taken, ownerFaultClear]
  exact congrArg _ (reply_replied p 0x28 .ok _ _ (service _))

/-! ### The bytes of the FAULT_CLEAR reply (R178, R193; O58) -/

/-- Flags as a sum of the powers of two of their places (R193). -/
theorem flagBits_ofFn {n : Nat} (f : Fin n → Bool) (a c : Nat) :
    (List.finRange n).foldl (fun m k => if f k then m + c * 2 ^ k.val else m) a = a + c * flagBits (List.ofFn f) := by
  induction n generalizing a c with
  | zero => simp [flagBits]
  | succ n ih =>
    have shifted (m : Nat) (k : Fin n) : (if f k.succ then m + c * 2 ^ k.succ.val else m)
        = if f k.succ then m + 2 * c * 2 ^ k.val else m := by
      rw [Fin.val_succ, pow_succ]
      ring_nf
    rw [List.finRange_succ, List.foldl_cons, List.foldl_map, List.ofFn_succ, flagBits]
    simp only [shifted, ih (fun k => f k.succ)]
    split <;> simp <;> ring

/-- The statuses as two bytes (R193). -/
theorem faultSet_eq (v : Vector Bool 12) :
    faultSet v = halfBytes ((List.finRange 12).foldl (fun m k => if v[k] then m + 2 ^ k.val else m) 0) := by
  have sum := flagBits_ofFn (fun k : Fin 12 => v[k]) 0 1
  simp only [one_mul, zero_add] at sum
  have flags : List.ofFn (fun k : Fin 12 => v[k]) = v.toList := List.ext_getElem (by simp) fun i _ _ => by
    simp only [List.getElem_ofFn, Vector.getElem_toList, Fin.getElem_fin]
  rw [sum, flags, faultSet]

/-- Settles O58: the raise through the offer, FAULT_CLEAR kind by kind, and the reply's bytes. -/
theorem faultRaisedAndCleared : Obligations.FaultRaisedAndCleared := by
  refine ⟨fun s k d => ⟨raiseFault_set d, fun clear => ?raised⟩,
    ⟨fun s p lo hi ready named => ⟨faultClear_ready ready named, driveFault_faultLineOk _⟩, fun s k => ?cleared⟩, fun f free => ?bytes⟩
  case raised =>
    obtain ⟨status, jrn⟩ := setStatus_items k d s
    exact ⟨status, jrn, driveFault_faultLineOk _, setStatus_masked d, setStatus_unmasked d, raiseFault_clear d clear⟩
  case cleared =>
    refine ⟨clearKind_clear, fun set gone => ?_, fun set persists => ?_, ?_, conditionDetail_none, ?_⟩
    · rw [clearKind_set set, gone]
      rfl
    · rw [clearKind_set set, if_pos persists]
      exact ⟨rfl, raiseFault_sets ..⟩
    · cases k <;> rfl
    · rintro st rfl counts lowest
      exact conditionDetail_station counts lowest
  case bytes =>
    refine ⟨?_, rfl, fun _ => rfl, fun _ => rfl, fun _ => rfl, fun c _ => by cases c <;> rfl, fun _ => rfl⟩
    obtain ⟨status, blind, unreachable, noPlan, pointer, capture, line⟩ := f
    simp only [Fmn.bytes, faultSet_eq]
    cases pointer <;> cases capture <;> rfl

end Sys2Proof.Machine
